-- ==== Sys2Proof/Word.lean ====
section
/-!
DEFINITION. The word and byte types, and the plainest reading and writing of bit ranges in them.
A bit range is written as the manual writes it: high bit, low bit.
-/

namespace Sys2Proof

/-- A 32-bit register or memory word. -/
abbrev Word := BitVec 32

/-- One byte of memory or of a frame. -/
abbrev Byte := BitVec 8

/-- Bits `hi` down to `lo` of a word, as a number. -/
def Word.bits (w : Word) (hi lo : Nat) : Nat := w.toNat / 2 ^ lo % 2 ^ (hi + 1 - lo)

/-- Bit `i` of a word. -/
def Word.bit (w : Word) (i : Nat) : Bool := w.getLsbD i

/-- A word that holds `v` (cut to the field's width) in bits `hi` down to `lo` and zero elsewhere. -/
def Word.field (hi lo v : Nat) : Word := BitVec.ofNat 32 (v % 2 ^ (hi + 1 - lo) * 2 ^ lo)

/-- The word with ones in bits `hi` down to `lo`. -/
def Word.mask (hi lo : Nat) : Word := Word.field hi lo (2 ^ 32 - 1)

/-- `w` with bits `hi` down to `lo` replaced by `v`. -/
def Word.setBits (w : Word) (hi lo v : Nat) : Word :=
  (w &&& ~~~ Word.mask hi lo) ||| Word.field hi lo v

/-- A truth value as a bit. -/
def Word.ofBool (b : Bool) : Nat := if b then 1 else 0

end Sys2Proof
end

