-- ==== Sys2Proof/Syntax.lean ====
section
/-!
DEFINITION. The commands of the block: one constructor of `Instr` for each row of spec/opcode_table.json, in the
table's order, with the row's operands. What an operand measures is said beside it; the environment that sends a
command stands for the host, the cores, the pads, the buses, the partner module and the ends of timers.
-/

namespace Sys2Proof

/-- The masters that read and write registers other than the schedule engines (R54, R93). -/
inductive Master where
  | host | core0 | core1
  deriving DecidableEq, Repr, Inhabited

/-- The queues with a flush bit (R12): acquisition results, gate reports, received frames, completions, and the
transmit queue of a CAN channel. -/
inductive QueueId where
  | acq | gte | rx | cpl | tx (c : Fin 8)
  deriving DecidableEq, Repr

/-- The clock faults of R33. -/
inductive ClockFaultKind where
  | crystalStopped | crystalOutOfTolerance | lockLost
  deriving DecidableEq, Repr

/-- The wake sources of R65. -/
inductive WakeSource where
  | pad | can (c : Fin 8) | pilot
  deriving DecidableEq, Repr

/-- What the start-up steps of R66 find at the pads and in their tests. -/
structure BootIn where
  /-- BOOT1, BOOT0 as sampled (R67). -/
  straps : BitVec 2
  /-- PL_ROLE at the release of reset (R475). -/
  rolePad : Bool
  /-- the memory tests and the self-test of step 4 pass (R66, R523). -/
  selfTest : Bool
  /-- VCP stands in its window at step 7 (R66). -/
  vcp : Bool
  /-- the first leg whose comparator fails at step 7 (R303). -/
  comparatorFail : Option (Fin 42)
  deriving DecidableEq, Repr

/-- The functions of `alu` (R132). -/
inductive AluFn where
  | add | sub | and | or | xor | shl | shr | sar | mul
  deriving DecidableEq, Repr

/-- The value of `ldi` (R131): the sign-extended immediate, or the extension word. -/
inductive LdiVal where
  | imm (v : BitVec 16) | ext (w : Word)
  deriving DecidableEq, Repr

/-- A value from a v register or from the extension word (R132, R134). -/
inductive RegExt where
  | reg (v : Fin 16) | ext (w : Word)
  deriving DecidableEq, Repr

/-- The target of a time wait (R137): absolute in a v register, or relative µs. -/
inductive TimeTarget where
  | abs (v : Fin 16) | rel (w : Word)
  deriving DecidableEq, Repr

/-- A timeout word of R126, when the instruction carries one. -/
abbrev Timeout := Option (BitVec 24)

/-- The switch of a half-bridge. -/
inductive Switch where
  | high | low
  deriving DecidableEq, Repr, Inhabited

/-- The point of a leg's own period that is reached (R233 to R235). -/
inductive LegPoint where
  /-- the valley of the leg's counter -/
  | valley
  /-- CMPA counting up -/
  | aUp
  /-- CMPA counting down -/
  | aDown
  /-- CMPB counting up -/
  | bUp
  /-- CMPB counting down -/
  | bDown
  /-- step `k` of the refresh of R239 -/
  | refresh (k : Fin 4)
  deriving DecidableEq, Repr

/-- The driver supplies of R302. -/
inductive DriverRail where
  | vcp | vdrv
  deriving DecidableEq, Repr

/-- A CAN frame (R423, R428); a base identifier stands in bits 28:18 of `id` (R427). -/
structure CanFrame where
  ext : Bool
  id : BitVec 29
  fdf : Bool
  brs : Bool
  rtr : Bool
  esi : Bool
  dlc : BitVec 4
  data : List Byte
  deriving DecidableEq, Repr, Inhabited

/-- The content of a CONF or DONE frame (R407). -/
structure NodeMsg where
  ch : Fin 8
  addr : BitVec 8
  out : BitVec 8
  state : BitVec 8
  seq : BitVec 8
  flags : BitVec 8
  time : Word
  deriving DecidableEq, Repr, Inhabited

/-- What an error counts under ISO 11898-1 (R425, log entry 63): nothing, 1 or 8 on the receive counter, 8 on the transmit
counter. -/
inductive CanStep where
  | uncounted | receive | receiveMore | transmit
  deriving DecidableEq, Repr, Inhabited

/-- An Ethernet frame at a port (R441, R442): its bytes, whether it arrived with an error, and the network time of its
start-of-frame delimiter, in µs and in steps of 8 ns. -/
structure EthFrame where
  bytes : List Byte
  err : Bool
  ns8 : Fin 125
  sfd : Word
  deriving DecidableEq, Repr, Inhabited

/-- What a HEARTBEAT frame carries (R479, R485, R495); its link state says too that WARMCNT has reached 64. `smpl` is the sender's
sample count, of the frame's header. -/
structure HeartbeatIn where
  mode : BitVec 4
  announced : Option (BitVec 4)
  request : Option (BitVec 4)
  status : Option (BitVec 8)
  deg : BitVec 5
  linkState : BitVec 3
  share : BitVec 16
  acting : Bool
  aliveHigh : Bool
  warmDone : Bool
  smpl : Word
  deriving DecidableEq, Repr, Inhabited

/-- One input of an AGREE frame (R484): which input, the partner's value, for an axis its speed, and whether the
partner flags it. -/
structure AgreeItem where
  /-- 0 to 47 analogue channel, 48 to 58 axis, 59 to 62 command pad -/
  input : Fin 63
  value : Word
  speed : Word
  flagged : Bool
  deriving DecidableEq, Repr, Inhabited

/-- What a DEC frame carries for one channel (R276, R479). -/
structure DecIn where
  codes : Vector (BitVec 12) 3
  hiz : BitVec 3
  bus : BitVec 12
  deriving DecidableEq, Repr

/-- What a safety scan reads at the pads (R505, R508, R510). -/
structure ScanIn where
  /-- levels read at XEN_CH, XEN_DC, XEN_TB, XEN_TA, bit 0 TA -/
  xenPad : BitVec 4
  /-- SOj_H read high -/
  rbh : BitVec 8
  /-- SOj_L read high -/
  rbl : BitVec 8
  /-- the enables whose command went low more than t_E ago -/
  stuck : BitVec 4
  /-- the scan ran beyond 1.2 ms -/
  overrun : Bool
  /-- the grants that core 0 and core 1 withhold each by itself (R503) -/
  hold0 : BitVec 9
  hold1 : BitVec 9
  deriving DecidableEq, Repr, Inhabited

/-- What the error correction finds in a word that is read (R534). -/
inductive Ecc where
  | good | single | double
  deriving DecidableEq, Repr, Inhabited

/-- The operation of an AMO. -/
inductive AmoOp where
  | swap | add | bitXor | bitAnd | bitOr | minSigned | maxSigned | minUnsigned | maxUnsigned
  deriving DecidableEq, Repr

/-- What an application core does with the word it reads (R531, R533): a load into register `rd`, the fetch of an instruction (`hit`:
the line that was cached is in the cache still), a load-reserve, a store-conditional or an AMO of a value; and `FENCE.I`, which
reads no word. The host port loads. -/
inductive CoreRead where
  | load (rd : Fin 32)
  | fetch (hit : Bool)
  | fence
  | reserve (rd : Fin 32)
  | conditional (rd : Fin 32) (value : Word)
  | amo (rd : Fin 32) (op : AmoOp) (value : Word)
  deriving DecidableEq, Repr

/-- The commands of the block. -/
inductive Instr where
  /-- REGISTER_WRITE: a master writes a register or memory word. -/
  | registerWrite (m : Master) (addr value : Word)
  /-- RESULT_PORT_READ: a master reads a result port, a register or a word of memory. -/
  | resultPortRead (m : Master) (addr : Word) (kind : CoreRead) (ecc : Ecc)
  /-- QUEUE_FLUSH: a queue's flush bit is written. -/
  | queueFlush (q : QueueId)
  /-- SAMPLE_BOUNDARY: `c0` to `c3` are the conversions of the analogue command pads (R328). -/
  | sampleBoundary (c0 c1 c2 c3 : BitVec 12)
  /-- SYS_SMPL_WRITE. -/
  | sysSmplWrite (m : Master) (value : Word)
  /-- CONTROL_PHASE. -/
  | controlPhase
  /-- CLOCK_FAULT. -/
  | clockFault (k : ClockFaultKind)
  /-- MODE_REQUEST: a write of `tgt` to MOD_REQ. -/
  | modeRequest (m : Master) (tgt : BitVec 4)
  /-- LOCKOUT_REQUEST: a request for LOCKOUT. -/
  | lockoutRequest (m : Master)
  /-- TRANSITION_TIMEOUT. -/
  | transitionTimeout
  /-- LOCKOUT_SEQUENCE: steps 1 to 3 of the table of R73. -/
  | lockoutSequence
  /-- WAKE. -/
  | wake (w : WakeSource) (b : BootIn)
  /-- POWER_ON. -/
  | powerOn (b : BootIn)
  /-- SLEEP_ENTRY_END: `b` serves a start from a kept wake. -/
  | sleepEntryEnd (b : BootIn)
  /-- VIN_LOW. -/
  | vinLow
  /-- VIN_HIGH. -/
  | vinHigh
  /-- OVER_VOLTAGE. -/
  | overVoltage
  /-- BROWN_OUT. -/
  | brownOut (b : BootIn)
  /-- RAIL_FAULT: `rail` is the rail's number for DETAIL. -/
  | railFault (rail : BitVec 8)
  /-- NRESET. -/
  | nreset (b : BootIn)
  /-- ENGINE_START: one bit per engine. -/
  | engineStart (mask : BitVec 8)
  /-- ENGINE_STOP: one bit per engine. -/
  | engineStop (mask : BitVec 8)
  /-- SWAP_REQUEST: `atRest` is SWAPMODE. -/
  | swapRequest (e : Fin 8) (atRest : Bool)
  /-- SWAP_CANCEL. -/
  | swapCancel (e : Fin 8)
  /-- EVENT_LATCH_CLEAR: a W1C write to word `k` of engine `e`'s latch. -/
  | eventLatchClear (e k : Fin 8) (mask : Word)
  /-- DEBUG_HALT. -/
  | debugHalt (c : Fin 2)
  /-- DEBUG_RESUME: `trace` is what the debug module has set, the core whose branch trace leaves the module, or none (R552). -/
  | debugResume (c : Fin 2) (trace : Option (Fin 2)) (dpc : Option Word)
  /-- HALT: engine `e` issues `halt`. -/
  | halt (e : Fin 8)
  /-- MOV. -/
  | mov (e : Fin 8) (vd vs : Fin 16)
  /-- LDI. -/
  | ldi (e : Fin 8) (vd : Fin 16) (v : LdiVal)
  /-- ALU. -/
  | alu (e : Fin 8) (vd va : Fin 16) (fn : AluFn) (b : RegExt)
  /-- LDU: `ofs` is the word offset of R127. -/
  | ldu (e : Fin 8) (vd : Fin 16) (blk : BitVec 5) (ofs : BitVec 14)
  /-- STU: `g` stages the store. -/
  | stu (e : Fin 8) (v : RegExt) (g : Bool) (blk : BitVec 5) (ofs : BitVec 14)
  /-- LDT. -/
  | ldt (e : Fin 8) (vd va : Fin 16) (wofs : BitVec 16)
  /-- COMMIT: `w` waits for the commit points. -/
  | commit (e : Fin 8) (w : Bool) (tmo : Timeout)
  /-- COMMIT_COMPLETE. -/
  | commitComplete (e : Fin 8)
  /-- WTM. -/
  | wtm (e : Fin 8) (t : TimeTarget)
  /-- WSM. -/
  | wsm (e : Fin 8) (cnt : BitVec 16) (ofs : BitVec 8) (tmo : Timeout)
  /-- WPS: `reverse` is D. -/
  | wps (e : Fin 8) (reverse : Bool) (vs : Fin 16) (axis : BitVec 4) (tmo : Timeout)
  /-- WTR. -/
  | wtr (e : Fin 8) (reverse : Bool) (vs : Fin 16) (axis : BitVec 4) (tmo : Timeout)
  /-- WEV. -/
  | wev (e : Fin 8) (src : BitVec 8) (tmo : Timeout)
  /-- WAIT_COMPLETE. -/
  | waitComplete (e : Fin 8)
  /-- WAIT_TIMEOUT. -/
  | waitTimeout (e : Fin 8)
  /-- JEV. -/
  | jev (e : Fin 8) (clear ifClear : Bool) (src : BitVec 8) (disp : BitVec 16)
  /-- JMD. -/
  | jmd (e : Fin 8) (ifClear : Bool) (mask : BitVec 12) (disp : BitVec 13)
  /-- JMP. -/
  | jmp (e : Fin 8) (addr : BitVec 17)
  /-- CALL. -/
  | call (e : Fin 8) (addr : BitVec 17)
  /-- RET. -/
  | ret (e : Fin 8)
  /-- LOOP. -/
  | loop (e : Fin 8) (cnt : BitVec 16)
  /-- ENDL: `leave` is K. -/
  | endl (e : Fin 8) (leave : Bool)
  /-- GATE. -/
  | gate (e : Fin 8) (va vb vc : Fin 16) (rel : Bool)
  /-- SEND: `p` patches word `widx` with `va`. -/
  | send (e : Fin 8) (p : Bool) (va : Fin 16) (widx : BitVec 9) (ses : BitVec 8)
  /-- SIG. -/
  | sig (e : Fin 8) (val : BitVec 16)
  /-- MREQ. -/
  | mreq (e : Fin 8) (tgt : BitVec 4)
  /-- ACQ_SOFTWARE_TRIGGER. -/
  | acqSoftwareTrigger (k : Fin 8)
  /-- CONVERSION_COMPLETE: converter `k` delivers `code` for its present channel. -/
  | conversionComplete (k : Fin 8) (code : BitVec 12)
  /-- CHANNEL_RETURN. -/
  | channelReturn (n : Fin 48)
  /-- RESOLVER_CHECK: amplitude, tracking error, angle and speed of resolver `r` in this excitation period. -/
  | resolverCheck (r : Fin 2) (amp : BitVec 12) (terr angle : BitVec 16) (speed : Word)
  /-- ENCODER_EDGE: the levels of A and B after the change; `t` counts 5 ns steps. -/
  | encoderEdge (k : Fin 4) (a b : Bool) (t : Nat)
  /-- ENCODER_INDEX. -/
  | encoderIndex (k : Fin 4) (rising : Bool)
  /-- HALL_CHANGE: bit 0 U, bit 1 V, bit 2 W at the pads; `t` counts 5 ns steps. -/
  | hallChange (g : Fin 3) (code : BitVec 3) (t : Nat)
  /-- SSI_FRAME: the bits received, right-aligned, whether the line was high before the first clock, and the time
  in 5 ns steps. -/
  | ssiFrame (s : Fin 2) (raw : Word) (lineHigh : Bool) (t : Nat)
  /-- AXIS_RETURN. -/
  | axisReturn (a : Fin 11)
  /-- AXIS_TIMEOUT. -/
  | axisTimeout (a : Fin 11)
  /-- TRAVEL_UPDATE. -/
  | travelUpdate
  /-- TRAVEL_ADJUST. -/
  | travelAdjust (value : Word)
  /-- PROBE_EDGE: `fine` is the 5 ns step within the microsecond. -/
  | probeEdge (p : Fin 4) (rising : Bool) (fine : BitVec 8)
  /-- EMULATION_EDGE. -/
  | emulationEdge (m : Fin 2)
  /-- COMMAND_PAD_EDGE: the complete period and its high time, in 5 ns steps, before inversion by POL. -/
  | commandPadEdge (p : Fin 4) (period high : Nat)
  /-- COMMAND_PAD_TIMEOUT. -/
  | commandPadTimeout (p : Fin 4)
  /-- CAPTURE_START: a write of CLE_CAP. -/
  | captureStart (m : Master) (value : Word)
  /-- CAPTURE_END. -/
  | captureEnd
  /-- SLOT_RESET. -/
  | slotReset (n : Fin 64)
  /-- SLOT_ALT_A. -/
  | slotAltA (n : Fin 64)
  /-- SLOT_ALT_B. -/
  | slotAltB (n : Fin 64)
  /-- TIMEBASE_START: one bit per timebase. -/
  | timebaseStart (mask : BitVec 10)
  /-- TIMEBASE_STOP: one bit per timebase. -/
  | timebaseStop (mask : BitVec 10)
  /-- TIMEBASE_RELOAD. -/
  | timebaseReload (t : Fin 10)
  /-- TIMEBASE_PEAK. -/
  | timebasePeak (t : Fin 10)
  /-- LEG_COMPARE_EDGE. -/
  | legCompareEdge (n : Fin 42) (p : LegPoint)
  /-- DEAD_TIME_EXPIRY. -/
  | deadTimeExpiry (n : Fin 42)
  /-- TRIP_INPUT: the filtered level of the input (`false`: it returns inactive). -/
  | tripInput (k : Fin 4) (level : Bool)
  /-- TRIP_CLEAR. -/
  | tripClear (mask : BitVec 4)
  /-- TD_TICK. -/
  | tdTick (x : Fin 2)
  /-- TD_INPUT: `tint` in ns since the previous input time, and for each leg the time its high switch was commanded
  on and the time both its switches were off, in ns. -/
  | tdInput (x : Fin 2) (tint : Nat) (ton toff : Vector Nat 6)
  /-- TD_DECISION_COMPLETE. -/
  | tdDecisionComplete (x : Fin 2)
  /-- DESATURATION_DETECTION: integrated leg 27 + `i`. -/
  | desaturationDetection (i : Fin 15) (w : Switch)
  /-- SHUNT_DETECTION: comparator `c` crosses OCTH (`false`: it returns below). -/
  | shuntDetection (c : Fin 9) (above : Bool)
  /-- FAULT_LINE_DETECTION: the filtered line of an external leg (`false`: it returns inactive). -/
  | faultLineDetection (n : Fin 27) (active : Bool)
  /-- BLANKING_EXPIRY. -/
  | blankingExpiry (i : Fin 15) (w : Switch)
  /-- SOFT_TURN_OFF_END. -/
  | softTurnOffEnd (i : Fin 15)
  /-- COOL_OFF_END. -/
  | coolOffEnd (n : Fin 42)
  /-- WATCH_END. -/
  | watchEnd (n : Fin 42)
  /-- LEG_CLEAR: a write of a leg number to GDP_CLR. -/
  | legClear (m : Master) (leg : BitVec 6)
  /-- DRIVER_SUPPLY_DIP. -/
  | driverSupplyDip (r : DriverRail)
  /-- DRIVER_SUPPLY_RECOVERY. -/
  | driverSupplyRecovery
  /-- DRIVER_SUPPLY_DIP_EXPIRY. -/
  | driverSupplyDipExpiry
  /-- ENABLE_BLANK_EXPIRY: 0 XEN_TA, 1 XEN_TB, 2 XEN_DC, 3 XEN_CH. -/
  | enableBlankExpiry (x : Fin 4)
  /-- ACT_STOP: a STOP command commits. -/
  | actStop (d : Fin 5)
  /-- ACT_MOVE: a MOVE command to a target commits. -/
  | actMove (d : Fin 5) (tgt : Fin 8)
  /-- ACT_SPEED: a SPEED command commits; `pad` when SRC = 1. -/
  | actSpeed (d : Fin 5) (pad : Option (Fin 4))
  /-- ACT_PROBE_PULSE_END. -/
  | actProbePulseEnd (d : Fin 5)
  /-- ACT_RAMP_END: the observer's speed, Q16.16 counts per ms. -/
  | actRampEnd (d : Fin 5) (obs : Word)
  /-- ACT_COMMUTATION: the observer's speed and the electrical angle at the event. -/
  | actCommutation (d : Fin 5) (obs : Word) (eang : BitVec 16)
  /-- ACT_LOCKED_ROTOR. -/
  | actLockedRotor (d : Fin 5)
  /-- ACT_RETRY_DELAY_EXPIRY. -/
  | actRetryDelayExpiry (d : Fin 5)
  /-- ACT_LASTING_CLEAR. -/
  | actLastingClear (d : Fin 5)
  /-- NUDGE_START: ACT_NUDGEA (0) or ACT_NUDGEB (1) commits. -/
  | nudgeStart (x : Fin 2) (n : BitVec 16)
  /-- ENP_START. -/
  | enpStart (m : Master)
  /-- ENP_STOP. -/
  | enpStop (m : Master)
  /-- ENP_RESTART. -/
  | enpRestart (m : Master)
  /-- ENP_WATCH: the phases L1 to L3 whose half-cycle ends, with its peak to neutral; the largest phase-to-phase peak and the
  frequency of L1 in 0.1 Hz. -/
  | enpWatch (half : BitVec 3) (v : Vector (BitVec 16) 3) (vpp : BitVec 16) (freq : BitVec 12)
  /-- PILOT_STATE_CHANGE: the frequency of the edges in Hz, 0 when none has come for 3 ms; duty in 0.1 %; upper and lower plateau in
  0.1 V, signed, the same where the pilot is steady. -/
  | pilotStateChange (hz : BitVec 16) (duty : BitVec 10) (upper lower : BitVec 9)
  /-- PROXIMITY_CHANGE: the resistance in Ω, saturating. -/
  | proximityChange (res : BitVec 16)
  /-- MAINS_QUALIFIED. -/
  | mainsQualified
  /-- QUALIFY_EXPIRY. -/
  | qualifyExpiry
  /-- RELAY_CONFIRMED: the level at the feedback GPIO. -/
  | relayConfirmed (level : Bool)
  /-- MAINS_QUALIFY_TIMEOUT. -/
  | mainsQualifyTimeout
  /-- PRECHARGE_TIMEOUT. -/
  | prechargeTimeout
  /-- RELAY_CONFIRM_TIMEOUT. -/
  | relayConfirmTimeout
  /-- ENP_RETRY_DELAY_EXPIRY. -/
  | enpRetryDelayExpiry
  /-- BMS_MESSAGE: a write to ENP_BMSIN. -/
  | bmsMessage (m : Master) (value : BitVec 7)
  /-- BMS_FRESHNESS_TIMEOUT. -/
  | bmsFreshnessTimeout
  /-- BUS_HOLD_RESTART. -/
  | busHoldRestart
  /-- HOLDOFF_END. -/
  | holdoffEnd
  /-- PILOT_ZERO_TIMEOUT. -/
  | pilotZeroTimeout
  /-- INPUT_CURRENT_COLLAPSE. -/
  | inputCurrentCollapse
  /-- STOP_CURRENT_FALL. -/
  | stopCurrentFall
  /-- EXPORT_OVERCURRENT. -/
  | exportOvercurrent
  /-- BUDGET_TICK. -/
  | budgetTick
  /-- BUDGET_TIMEOUT. -/
  | budgetTimeout (port : Fin 12)
  /-- BUDGET_FIRMWARE_REQUEST. -/
  | budgetFirmwareRequest (f : Fin 4) (cls : BitVec 4)
  /-- BUDGET_FIRMWARE_WITHDRAW. -/
  | budgetFirmwareWithdraw (f : Fin 4)
  /-- AUX_START. -/
  | auxStart (m : Master)
  /-- AUX_STOP. -/
  | auxStop (m : Master)
  /-- AUX_HOLDOFF_EXPIRY. -/
  | auxHoldoffExpiry
  /-- THERMAL_UPDATE: VIN × IIN averaged over the 100 µs, 1/16 W, and the substrate sensor, 1/16 °C. -/
  | thermalUpdate (pmod : BitVec 16) (substrate : BitVec 16)
  /-- GATE_APPEND: a write of GTE_ACMD. -/
  | gateAppend (m : Master) (sec : BitVec 8) (rel : Bool)
  /-- COURSE_FLUSH. -/
  | courseFlush (sec : BitVec 8)
  /-- GATE_EVALUATION. -/
  | gateEvaluation
  /-- HALT_REPEAT. -/
  | haltRepeat
  /-- CONF. -/
  | conf (f : NodeMsg)
  /-- DONE. -/
  | done (f : NodeMsg)
  /-- CONF_TIMEOUT. -/
  | confTimeout (sec : Fin 256)
  /-- DONE_TIMEOUT. -/
  | doneTimeout (sec : Fin 256)
  /-- CAN_FRAME_RECEIVED: `sof` is the network time at the start of frame. -/
  | canFrameReceived (c : Fin 8) (f : CanFrame) (sof : Word)
  /-- CAN_FRAME_SENT. -/
  | canFrameSent (c : Fin 8) (b : Fin 3)
  /-- CAN_ERROR: what the error counts, the buffer whose frame met it, and whether it was a protocol exception. -/
  | canError (c : Fin 8) (step : CanStep) (b : Option (Fin 3)) (pxe : Bool)
  /-- BUS_OFF_RECOVERY_END. -/
  | busOffRecoveryEnd (c : Fin 8)
  /-- RECOVERY_REQUEST. -/
  | recoveryRequest (c : Fin 8)
  /-- TXQ_PUSH. -/
  | txqPush (c : Fin 8) (word : Word)
  /-- TX_CANCEL. -/
  | txCancel (c : Fin 8) (mask : BitVec 3)
  /-- REFERENCE_MESSAGE_DUE. -/
  | referenceMessageDue
  /-- REFERENCE_SILENCE_TIMEOUT. -/
  | referenceSilenceTimeout
  /-- TIME_MASTER_WRITE. -/
  | timeMasterWrite (value : Word)
  /-- ETH_FRAME_RECEIVED. -/
  | ethFrameReceived (p : Fin 2) (f : EthFrame)
  /-- ETH_TXGO. -/
  | ethTxgo (p : Fin 2)
  /-- ETH_FRAME_SENT: the network time of its start-of-frame delimiter, in steps of 8 ns and in µs. -/
  | ethFrameSent (p : Fin 2) (ns8 : Fin 125) (sfd : Word)
  /-- ETH_LINK_CHANGE: link state and speed (`spd100`: 100BASE-T1). -/
  | ethLinkChange (p : Fin 2) (up spd100 : Bool)
  /-- ETH_SPEED_FALLBACK. -/
  | ethSpeedFallback (p : Fin 2)
  /-- CNV_START. -/
  | cnvStart (ses : BitVec 8)
  /-- CNV_ABORT. -/
  | cnvAbort (ses : BitVec 8)
  /-- CNV_RELEASE. -/
  | cnvRelease (ses : BitVec 8)
  /-- RTS: channel, peer, extended transport, message size, RTS byte 5, PGN. -/
  | rts (c : Fin 8) (peer : BitVec 8) (etp : Bool) (size : Word) (maxPkts : BitVec 8) (pgn : BitVec 18)
  /-- CTS: channel, peer, extended transport, packet count, next packet, PGN. -/
  | cts (c : Fin 8) (peer : BitVec 8) (etp : Bool) (count : BitVec 8) (next : BitVec 24) (pgn : BitVec 18)
  /-- EOMA: channel, peer, extended transport, size, packets (0 in extended transport), PGN. -/
  | eoma (c : Fin 8) (peer : BitVec 8) (etp : Bool) (size : Word) (pkts : BitVec 8) (pgn : BitVec 18)
  /-- BAM: channel, peer, size, PGN. -/
  | bam (c : Fin 8) (peer : BitVec 8) (size : BitVec 16) (pgn : BitVec 18)
  /-- TP_ABORT: channel, peer, extended transport, reason, PGN. -/
  | tpAbort (c : Fin 8) (peer : BitVec 8) (etp : Bool) (reason : BitVec 8) (pgn : BitVec 18)
  /-- DATA_FRAME: channel, peer, global destination, extended transport, sequence number, seven data bytes. -/
  | dataFrame (c : Fin 8) (peer : BitVec 8) (global etp : Bool) (seq : BitVec 8) (data : Vector Byte 7)
  /-- DPO: channel, peer, packet count, offset, PGN. -/
  | dpo (c : Fin 8) (peer : BitVec 8) (count : BitVec 8) (offset : BitVec 24) (pgn : BitVec 18)
  /-- TRANSPORT_TIMER_EXPIRY. -/
  | transportTimerExpiry (ses : Fin 256)
  /-- CTS0_REPEAT. -/
  | cts0Repeat (ses : Fin 256)
  /-- BAM_GAP_EXPIRY. -/
  | bamGapExpiry (ses : Fin 256)
  /-- ADDRESS_CHANGE. -/
  | addressChange (c : Fin 8) (addr : BitVec 8)
  /-- CNV_ENABLE. -/
  | cnvEnable
  /-- CNV_DISABLE. -/
  | cnvDisable
  /-- LANE_TRAINED. -/
  | laneTrained (k : Fin 4)
  /-- IDENT: the partner's unique number and role (1 lead, 2 partner), and whether the partner finds this module to
  be the one commissioned in it. -/
  | ident (uid0 uid1 : Word) (role : BitVec 2) (accepts : Bool)
  /-- TIMING_SYMBOL: the alignment error in ns and the lead's network time. -/
  | timingSymbol (err : BitVec 16) (leadTime : Word) (leadSub : Fin 250)
  /-- HEARTBEAT. -/
  | heartbeat (h : HeartbeatIn)
  /-- AGREE. -/
  | agree (items : List AgreeItem)
  /-- AGREE_MISS. -/
  | agreeMiss
  /-- DEC. -/
  | dec (x : Fin 2) (d : DecIn)
  /-- SNAP: segment number, bytes, whether its CRC is right. -/
  | snap (segment : BitVec 6) (data : List Byte) (ok : Bool)
  /-- SIG_FRAME: window number and the partner's signature. -/
  | sigFrame (win : BitVec 16) (sig : Word)
  /-- BUDGET_FRAME: port, class and outcome (`none`: a request). -/
  | budgetFrame (port : Fin 12) (cls : BitVec 4) (outcome : Option (BitVec 8))
  /-- LANE_FAILURE. -/
  | laneFailure (k : Fin 4)
  /-- LANE_CLEAR. -/
  | laneClear (m : Master) (mask : BitVec 4)
  /-- HEARTBEAT_MISS: the level of PL_ALIVE. -/
  | heartbeatMiss (aliveHigh : Bool)
  /-- SNAPSHOT_CAPTURE. -/
  | snapshotCapture
  /-- SNAPSHOT_CLOSE. -/
  | snapshotClose
  /-- SAFETY_SCAN. -/
  | safetyScan (i : ScanIn)
  /-- CONTROLLED_STOP_DEADLINE. -/
  | controlledStopDeadline
  /-- SAFETY_SIGNATURE_WINDOW: the signatures of the window and of its repeated comparison. -/
  | safetySignatureWindow (sig0 sig1 rep0 rep1 : Word)
  /-- SAFETY_INPUT_CHANGE: the filtered levels of pair `k`. -/
  | safetyInputChange (k : Fin 16) (a b : Bool)
  /-- TUMBLER_TIMEOUT. -/
  | tumblerTimeout (k : Fin 16)
  /-- OUTPUT_ON_STEP. -/
  | outputOnStep (j : Fin 8)
  /-- OUTPUT_READBACK_TIMEOUT. -/
  | outputReadbackTimeout (j : Fin 8)
  /-- OFF_PULSE: output 0 or 1; whether SOj_H fell in time. -/
  | offPulse (j : Fin 2) (fell : Bool)
  /-- RESET_RELEASE: the hold in ms; `clkNow`: XTAL_OK and PLL_LOCK as they stand after a clock fault; `railsOk`, `vinOk`: rails and VIN stand within their limits; `b` serves the restart. -/
  | resetRelease (hold : Nat) (clkNow : BitVec 2) (railsOk vinOk : Bool) (b : BootIn)
  /-- PRESENCE_WINDOW_EXPIRY. -/
  | presenceWindowExpiry
  /-- SAFETY_LOAD. -/
  | safetyLoad (m : Master)
  /-- SAFETY_LOAD_COMPLETE. -/
  | safetyLoadComplete
  /-- SAFETY_CONFIRM. -/
  | safetyConfirm (m : Master)
  /-- SAFETY_DISCARD. -/
  | safetyDiscard (m : Master)
  /-- EVENT_DELIVERY. -/
  | eventDelivery (c : Fin 2)
  /-- MRET. -/
  | mret (c : Fin 2)
  /-- EVENT_PENDING_CLEAR. -/
  | eventPendingClear (k : Fin 8) (mask : Word)
  /-- GROUP_HOLDOFF_EXPIRY. -/
  | groupHoldoffExpiry (g : Fin 16)
  /-- CORE_RELEASE. -/
  | coreRelease (mask : BitVec 2)
  /-- FLASH_PROGRAM: a write of HPT_FLCTL with OP PROGRAM and this KEY. -/
  | flashProgram (m : Master) (key : Byte)
  /-- FLASH_ERASE: a write of HPT_FLCTL with OP ERASE and this KEY. -/
  | flashErase (m : Master) (key : Byte)
  /-- FLASH_OPERATION_COMPLETE: whether the attempt verifies. -/
  | flashOperationComplete (verified : Bool)
  /-- HOST_PORT_READ: SIZE, INC, address, number of items, and what each item's word shows of bit errors. -/
  | hostPortRead (size : BitVec 2) (inc : Bool) (addr : Word) (n : Nat) (ecc : List Ecc)
  /-- HOST_PORT_WRITE: SIZE, INC, address, items. -/
  | hostPortWrite (size : BitVec 2) (inc : Bool) (addr : Word) (items : List Word)
  /-- HOST_PORT_BAD_COMMAND. -/
  | hostPortBadCommand
  /-- DOORBELL. -/
  | doorbell (mask : BitVec 2)
  /-- IRQ_SET. -/
  | irqSet (mask : BitVec 16)
  /-- CAN_START_OF_FRAME. -/
  | canStartOfFrame (c : Fin 8) (b : Fin 3)
  /-- ARBITRATION_LOSS. -/
  | arbitrationLoss (c : Fin 8) (b : Fin 3)
  /-- SINGLE_SHUNT_SAMPLING_POINT: drive 0 to 2. -/
  | singleShuntSamplingPoint (d : Fin 3)
  /-- PROBE_DECAY_END. -/
  | probeDecayEnd (d : Fin 5)
  /-- SYNCHRONOUS_EXCEPTION. -/
  | synchronousException (c : Fin 2)
  deriving DecidableEq, Repr

end Sys2Proof
end

