-- ==== Sys2Proof/Decode.lean ====
section
/-!
DEFINITION. The command a word spells by the bits of spec/opcode_table.json. No row of the table has bits, so no word
spells one. The words of schedule memory are decoded in Machine/SchedWords.lean.
-/

namespace Sys2Proof

/-- The command that the `nbits` bits `w` spell: none, since no row of the table has bits. -/
def decodeTableWord (_nbits _w : Nat) : Option Instr := none

end Sys2Proof
end

