-- ==== Sys2Proof/Machine/RegMap.lean ====
section
/-!
DEFINITION. The register map, taken from the register tables of spec/ (R38 and each chapter's table of registers):
where each register lies, its value after reset, and which of its bits a write stores, clears or acts on.
A register is named by its number, block * 0x10000 + offset; its bus address is 0x4000_0000 above that (R38).
-/

namespace Sys2Proof.Machine

/-- A bit field: high bit, low bit. -/
structure Fld where
  hi : Nat
  lo : Nat
  deriving DecidableEq, Repr

/-- One row of a register table: `n1` by `n2` registers `s1` and `s2` bytes apart from `base` on, the value after
reset, and the bits that are stored (RW), cleared by a one (W1C) and acted on without being stored (WO). -/
structure RegRow where
  base : Nat
  s1 : Nat
  n1 : Nat
  s2 : Nat
  n2 : Nat
  reset : Nat
  rw : Nat
  w1c : Nat
  wo : Nat
  deriving DecidableEq, Repr

/-- Whether the register at offset `off` of the block is one of this row's. -/
def RegRow.holds (r : RegRow) (off : Nat) : Bool :=
  decide (r.base ≤ off) && decide ((off - r.base) / r.s1 < r.n1)
    && decide ((off - r.base) % r.s1 / r.s2 < r.n2) && decide ((off - r.base) % r.s1 % r.s2 = 0)

/-- A single register. -/
def RegRow.one (base reset rw w1c wo : Nat) : RegRow := ⟨base, 65536, 1, 65536, 1, reset, rw, w1c, wo⟩

/-- `n` registers `s` bytes apart. -/
def RegRow.many (base s n reset rw w1c wo : Nat) : RegRow := ⟨base, s, n, s, 1, reset, rw, w1c, wo⟩

/-- The registers of SYS (R39, R392). -/
def rowsSYS : List RegRow := [
  .one 0x000 0 0 0 0,  -- SYS_ID
  .one 0x004 0 0 0 0,  -- SYS_CAPS
  .one 0x008 0 0 0 0,  -- SYS_UID0
  .one 0x00C 0 0 0 0,  -- SYS_UID1
  .one 0x010 0x132 0x1FFF 0 0,  -- SYS_SMPL
  .one 0x014 0 0 0 0,  -- SYS_SMPLCNT
  .one 0x018 0 0 0 0,  -- SYS_CLKSTAT
  .one 0x01C 0 0 3 0,  -- SYS_STAT
  .one 0x020 0 1 0 0,  -- SYS_DBG
  .one 0x100 0 0x8000FFFF 0 0,  -- SYS_THCFG
  .one 0x104 0 0xFFFFFFFF 0 0,  -- SYS_THNTC
  .one 0x108 0x5500020 0xFFFF00FF 0 0,  -- SYS_THHYS
  .one 0x10C 0 0 0x7F 0,  -- SYS_THSTAT
  .one 0x110 0 0 0 0,  -- SYS_THTHR
  .one 0x114 0 0 0 0,  -- SYS_THHOT
  .one 0x118 0xFFFFFFFF 0 0 0,  -- SYS_THDER0
  .one 0x11C 0xFFFFFFFF 0 0 0,  -- SYS_THDER1
  .one 0x120 0xFF 0 0 0,  -- SYS_THDER2
  .many 0x140 4 45 0 0 0 0]  -- SYS_THN

/-- The registers of EVT (R554). -/
def rowsEVT : List RegRow := [
  .one 0x000 0 0 0 0,  -- EVT_CORE0
  .one 0x004 0 0 0 0,  -- EVT_CORE1
  .many 0x020 4 8 0 0 0xFFFFFFFF 0,  -- EVT_PEND
  .many 0x040 4 8 0 0 0 0,  -- EVT_ACT
  .many 0x100 4 16 0 0xFFFF 0 0,  -- EVT_GRP_HOLD
  .many 0x1000 8 256 0xF 0xC000000F 0 0,  -- EVT_SRC_CFG
  .many 0x1004 8 256 0 0xFFFFFFFE 0 0]  -- EVT_SRC_VEC

/-- The registers of SEQ (R112). -/
def rowsSEQ : List RegRow := [
  .one 0x000 0 0 0 0xFFFF,  -- SEQ_GO
  .one 0x004 0 0 0 0,  -- SEQ_RUNSTAT
  .many 0x100 0x100 8 0 0xC 0 3,  -- SEQ_CTL
  .many 0x104 0x100 8 0 0 0 0,  -- SEQ_STAT
  .many 0x108 0x100 8 0 0x7FFFC 0 0,  -- SEQ_ENTRY
  .many 0x10C 0x100 8 0 0x7FFFC 0 0,  -- SEQ_NEXT
  .many 0x110 0x100 8 0 0 0 0,  -- SEQ_PC
  .many 0x114 0x100 8 0 0 0 0,  -- SEQ_LAST
  .many 0x118 0x100 8 0 0 0x80000000 0,  -- SEQ_EXC
  .many 0x11C 0x100 8 0 0 0x80000000 0,  -- SEQ_REF
  .many 0x120 0x100 8 0 0 0 0,  -- SEQ_CNT
  ⟨0x140, 0x100, 8, 4, 16, 0, 0xFFFFFFFF, 0, 0⟩,  -- SEQ_V
  ⟨0x180, 0x100, 8, 4, 8, 0, 0, 0xFFFFFFFF, 0⟩]  -- SEQ_EVL

/-- The registers of CLE (R224). -/
def rowsCLE : List RegRow := [
  .one 0x000 0 0 0xF 0x10,  -- CLE_STAT
  .one 0x004 0 0 0 0,  -- CLE_RUNT
  .one 0x008 0 0 0 0,  -- CLE_SATF0
  .one 0x00C 0 0 0 0,  -- CLE_SATF1
  .one 0x010 0 0 0 0,  -- CLE_OSCF0
  .one 0x014 0 0 0 0,  -- CLE_OSCF1
  .one 0x018 0 0xBFBFBFBF 0 0,  -- CLE_MARK0
  .one 0x01C 0 0xBFBFBFBF 0 0,  -- CLE_MARK1
  .many 0x020 0x10 2 0 0xFFFFF03F 0 0,  -- CLE_VB_CFG
  .many 0x024 0x10 2 0 0xFFFFF 0 0,  -- CLE_VB_NOM
  .many 0x028 0x10 2 0x10000 0 0 0,  -- CLE_VB_G
  .one 0x040 0 0x80FFFF3F 0 0,  -- CLE_CAP
  .one 0x044 0 0 0xC0000000 0,  -- CLE_CAPST
  .many 0x080 0x10 4 0 0x7F07 0 0,  -- CLE_CMD_CFG
  .many 0x084 0x10 4 0 0 0 0,  -- CLE_CMD_VAL
  .many 0x1000 0x80 64 0 0xFFFF0073 0 0,  -- CLE_SL_CFG
  .many 0x1004 0x80 64 0 0x3F0F3F0F 0 0,  -- CLE_SL_SRC
  .many 0x1008 0x80 64 0x100 0xFFFFFF1F 0 0,  -- CLE_SL_SPK
  .many 0x100C 0x80 64 0 0xFFFFFFFF 0 0,  -- CLE_SL_SPOFS
  .many 0x1010 0x80 64 0 0xFFFFFFFF 0 0,  -- CLE_SL_SLEW
  .many 0x1014 0x80 64 0 0xFFFFFFFF 0 0,  -- CLE_SL_SPR
  .many 0x1018 0x80 64 0x7FFFFFFF 0xFFFFFFFF 0 0,  -- CLE_SL_OMAX
  .many 0x101C 0x80 64 0x80000000 0xFFFFFFFF 0 0,  -- CLE_SL_OMIN
  .many 0x1020 0x80 64 0x7FFFFFFF 0xFFFFFFFF 0 0,  -- CLE_SL_IMAX
  .many 0x1024 0x80 64 0x80000000 0xFFFFFFFF 0 0,  -- CLE_SL_IMIN
  ⟨0x1028, 0x80, 64, 4, 4, 0, 0xFFFFFF1F, 0, 0⟩,  -- CLE_SL_CA
  ⟨0x1038, 0x80, 64, 4, 4, 0, 0xFFFFFF1F, 0, 0⟩,  -- CLE_SL_CB
  .many 0x1048 0x80 64 0 0xF8FF0000 0 0,  -- CLE_SL_OSC
  .many 0x104C 0x80 64 0 0x7FFFFFFF 0 0,  -- CLE_SL_BAND
  .many 0x1050 0x80 64 0 0xFFF 0 0,  -- CLE_SL_FFT
  .many 0x1054 0x80 64 0 0xFFFFFFFF 0 0,  -- CLE_SL_FRIC
  .many 0x1058 0x80 64 0 0xFFFFFFFC 0 0,  -- CLE_SL_DEST
  .many 0x105C 0x80 64 0 0xFFFFFFFF 0 0,  -- CLE_SL_INT
  .many 0x1060 0x80 64 0 0 0 7,  -- CLE_SL_CMD
  .many 0x1064 0x80 64 0 0 0xC0000000 0,  -- CLE_SL_ST
  .many 0x1068 0x80 64 0 0 0 0]  -- CLE_SL_RES

/-- The registers of WFU (R250). -/
def rowsWFU : List RegRow := [
  .one 0x000 0 0 7 0,  -- WFU_STAT
  .one 0x004 0 0 0 0,  -- WFU_TRIPST
  .one 0x008 0 0 0 0xF,  -- WFU_TRIPCLR
  .one 0x00C 0 0x3FF 0 0,  -- WFU_TBCTL
  .many 0x020 0x10 4 0 0xC00000FF 0 0,  -- WFU_TRIP_CFG
  .many 0x024 0x10 4 0 0xFFFFFFFF 0 0,  -- WFU_TRIP_M0
  .many 0x028 0x10 4 0 0x3FF 0 0,  -- WFU_TRIP_M1
  .many 0x100 0x10 10 0x9C4 0xFFFFF 0 0,  -- WFU_TB_CFG
  .many 0x104 0x10 10 0 0 0 0,  -- WFU_TB_CNT
  .many 0x400 0x20 12 0 0xFFC0FFFF 0 0,  -- WFU_LEG_CFG of legs 0 to 11
  .many 0x580 0x20 30 0 0xFF40FFFF 0 0,  -- WFU_LEG_CFG of the other legs
  .many 0x404 0x20 42 0x7D007D 0x7FF07FF 0 0,  -- WFU_LEG_DT
  .many 0x408 0x20 42 0x6412C010 0xFFFFC0FF 0 0,  -- WFU_LEG_PULSE
  .many 0x40C 0x20 42 0xFFFFF 0xFFFFF 0 0,  -- WFU_LEG_CMPA
  .many 0x410 0x20 42 0xFFFFF 0xFFFFF 0 0,  -- WFU_LEG_CMPB
  .many 0x414 0x20 42 0 0 0x80000000 0x40000000,  -- WFU_LEG_ST
  .many 0x418 0x20 42 0 0 0 0]  -- WFU_LEG_SWC

/-- The registers of TDU (R280). -/
def rowsTDU : List RegRow := [
  .many 0x100 0x100 2 6 0x1F1F 0 0,  -- TDU_CFG
  .many 0x104 0x100 2 0 0x3F3F3F3F 0 0,  -- TDU_ISEL0
  .many 0x108 0x100 2 0 0x3F3F3F 0 0,  -- TDU_ISEL1
  .many 0x10C 0x100 2 0x1F4 0x7FF 0 0,  -- TDU_TIM
  ⟨0x110, 0x100, 2, 4, 6, 0x6400800, 0xFFFF0FFF, 0, 0⟩,  -- TDU_ICAL
  .many 0x128 0x100 2 0x1000000 0xFFFF0000 0 0,  -- TDU_VBCAL
  .many 0x12C 0x100 2 0 0xFFFF 0 0,  -- TDU_RS
  .many 0x130 0x100 2 0 0xFFFFFF1F 0 0,  -- TDU_TK
  .many 0x134 0x100 2 0 0xFFFFFFFF 0 0,  -- TDU_LDQ
  .many 0x138 0x100 2 0 0xFFFF 0 0,  -- TDU_PSIPM
  .many 0x13C 0x100 2 0 0xFFFF 0 0,  -- TDU_ANG
  .many 0x140 0x100 2 0 0xFFFFFFFF 0 0,  -- TDU_BAND
  .many 0x144 0x100 2 0 0xFFFF 0 0,  -- TDU_TREF
  .many 0x148 0x100 2 0 0xFFFF 0 0,  -- TDU_FREF
  .many 0x14C 0x100 2 0 0xFFFF 0 0,  -- TDU_TLIM
  .many 0x150 0x100 2 0 0xFFFF 0 0,  -- TDU_TRAMP
  .many 0x154 0x100 2 0 0xFFFF 0 0,  -- TDU_RATED
  .many 0x158 0x100 2 0x3C0032 0x3FF03FF 0 0,  -- TDU_HOV
  .many 0x15C 0x100 2 0 0xBF3F3F3F 0 0,  -- TDU_HSL
  .many 0x160 0x100 2 0 0xFFFFFF1F 0 0,  -- TDU_IQK
  .many 0x164 0x100 2 0 0xFFFF 0 0,  -- TDU_IDREF
  .many 0x168 0x100 2 0 0xFFFF 0 0,  -- TDU_TBASE
  .many 0x16C 0x100 2 0 0xFF 0 0,  -- TDU_FSW
  ⟨0x170, 0x100, 2, 4, 4, 0x1010101, 0xFFFFFFFF, 0, 0⟩,  -- TDU_DWL
  .many 0x180 0x100 2 0 0xFFFFFFFF 0 0,  -- TDU_VCMD1
  .many 0x184 0x100 2 0 0xFFFFFFFF 0 0,  -- TDU_VCMD2
  .many 0x188 0x100 2 0 0 0 0,  -- TDU_STATE
  .many 0x18C 0x100 2 0 0 0xF8000000 0x4000000,  -- TDU_ST
  .many 0x190 0x100 2 0 0 0 0,  -- TDU_CNT
  .many 0x194 0x100 2 0 0 0 0,  -- TDU_PSI
  .many 0x198 0x100 2 0 0 0 0]  -- TDU_TQ

/-- The registers of GDP (R306). -/
def rowsGDP : List RegRow := [
  .one 0x000 0 0 0x3F 0,  -- GDP_STAT
  .one 0x004 0 0 0 0,  -- GDP_HIZ0
  .one 0x008 0 0 0 0,  -- GDP_HIZ1
  .one 0x00C 0 0 0 0,  -- GDP_LAST0
  .one 0x010 0 0 0 0,  -- GDP_LAST1
  .one 0x014 0 0 0 0,  -- GDP_STGST
  .one 0x018 0 0 0 0x3F,  -- GDP_CLR
  .one 0x01C 0 0 0 0,  -- GDP_CLRST
  .one 0x020 0xA 0xFF 0 0,  -- GDP_RETRY
  .one 0x024 0x1400 0xFFFF 0 0,  -- GDP_XCFG
  .one 0x028 0 0 0 0,  -- GDP_XEN
  .one 0x02C 0 0 0 0,  -- GDP_SUPPLY
  .many 0x030 4 2 0 0xCFFF0FFF 0 0,  -- GDP_TRC_ASC
  .many 0x100 0x10 15 0x80001014 0x80003F7F 0 0,  -- GDP_DRV_CFG
  .many 0x200 0x10 9 0x80000064 0x800000FF 0 0,  -- GDP_OC_CFG
  .many 0x400 0x10 42 0 0 0xA0000000 0x40000000]  -- GDP_LEG_ST

/-- The registers of ACQ (R164). -/
def rowsACQ : List RegRow := [
  .one 0x000 0 0 3 0,  -- ACQ_STAT
  .one 0x008 0 0 0 0,  -- ACQ_INV0
  .one 0x00C 0 0 0 0,  -- ACQ_INV1
  .one 0x010 0 0 0 0,  -- ACQ_QPOP
  .one 0x014 0 0 0 0,  -- ACQ_QSTAT
  .one 0x018 0 0 0 1,  -- ACQ_QCTL
  .many 0x100 0x10 8 0 0xFFFF00FF 0 0,  -- ACQ_C_CFG
  .many 0x104 0x10 8 0 0 0 1,  -- ACQ_C_SW
  .many 0x108 0x10 8 0 0 0 0,  -- ACQ_C_STAT
  .many 0x400 0x10 48 0 0x1F0F 0 0,  -- ACQ_CH_CFG
  .many 0x404 0x10 48 0xFFF0000 0xFFF0FFF 0 0,  -- ACQ_CH_WIN
  .many 0x408 0x10 48 0 0 0 0,  -- ACQ_CH_RES
  .many 0x40C 0x10 48 0 0 0x80000000 0x40000000]  -- ACQ_CH_ST

/-- The registers of POS (R196). -/
def rowsPOS : List RegRow := [
  .one 0x000 0 0 0xF 0,  -- POS_STAT
  .one 0x004 0 0 0 0,  -- POS_INV
  .one 0x008 0 0 0 0,  -- POS_STOP
  .one 0x010 0xFF10 0x1FFFFF 0 0,  -- POS_TRVSRC
  .one 0x014 0 0xFFFFFFFF 0 0,  -- POS_TRVCOEF
  .one 0x018 0 0xFFFFFFFF 0 0,  -- POS_TRVFB_L
  .one 0x01C 0 0xFFFFFFFF 0 0,  -- POS_TRVFB_R
  .one 0x020 0 0 0 0,  -- POS_TRV_L
  .one 0x024 0 0 0 0,  -- POS_TRV_R
  .one 0x028 0 0 0 0,  -- POS_TRV_C
  .one 0x02C 0 0 0 0,  -- POS_GSPD
  .one 0x030 0 0 0 0,  -- POS_TRVSTAT
  .one 0x034 0 0 0 0xFFFFFFFF,  -- POS_TRVADJ
  .many 0x100 0x20 2 0x110 0x1F33 0 0,  -- POS_MOT_CFG
  .many 0x104 0x20 2 0 0xFFFF 0 0,  -- POS_MOT_EOFS
  .many 0x108 0x20 2 0 0 0 0,  -- POS_MOT_EANG
  .many 0x200 0x20 11 0x3E80000 0xFFFF007F 0 0,  -- POS_AX_CFG
  .many 0x204 0x20 11 0 0 0 0,  -- POS_AX_POS
  .many 0x208 0x20 11 0 0 0 0,  -- POS_AX_SPD
  .many 0x20C 0x20 11 0 0 0 0,  -- POS_AX_LAT
  .many 0x210 0x20 11 0 0 0x80000000 0x40000000,  -- POS_AX_ST
  .many 0x400 0x10 2 0xF0020040 0xFFFFFFFF 0 0,  -- POS_RES_CFG
  .many 0x404 0x10 2 0 0 0 0,  -- POS_RES_ST
  .many 0x500 0x10 4 0 7 0 0,  -- POS_ENC_CFG
  .many 0x504 0x10 4 0 0 0 0,  -- POS_ENC_ZLAT
  .many 0x580 0x10 3 0 0xF 0 0,  -- POS_HALL_CFG
  .many 0x600 0x10 2 0x280400 0xFFFFFFF0 0 0,  -- POS_SSI_CFG
  .many 0x604 0x10 2 0 0 0 0,  -- POS_SSI_RAW
  .many 0x700 0x20 4 0 0xF3037F 0 0,  -- POS_PRB_CFG
  .many 0x704 0x20 4 0 0 0 0,  -- POS_PRB_POS
  .many 0x708 0x20 4 0 0 0 0,  -- POS_PRB_TRV
  .many 0x70C 0x20 4 0 0 0 0,  -- POS_PRB_TIME
  .many 0x710 0x20 4 0 0 0 0,  -- POS_PRB_TAG
  .many 0x800 0x10 2 0x530 0xFFFFFF3C 0 0,  -- POS_EMU_CFG
  .many 0x804 0x10 2 0 0xFFFFFF 0 0,  -- POS_EMU_DIV
  .many 0x808 0x10 2 0 0 0 0]  -- POS_EMU_LAG

/-- The registers of GTE (R417). -/
def rowsGTE : List RegRow := [
  .one 0x000 0 0 0x77 0x80,  -- GTE_STAT
  .one 0x004 0x8000000 0xFF000000 0 0,  -- GTE_CFG
  .one 0x008 0x1F000000 0x1FFF01FF 0 0,  -- GTE_NETCFG
  .one 0x00C 0x14051414 0xFFFFFFFF 0 0,  -- GTE_NETTIM
  .one 0x010 0x3E8 0xFFFF 0 0,  -- GTE_REARM
  .one 0x014 0 0xFFFF 0 0,  -- GTE_OUTPOL
  .one 0x018 0 0 0 0,  -- GTE_OUT
  .one 0x01C 0 0 0 0x800000FF,  -- GTE_CTL
  .one 0x020 0 0xFFFFFFFF 0 0,  -- GTE_APOS
  .one 0x024 0 0xFFFFFFFF 0 0,  -- GTE_ASTATE
  .one 0x028 0 0 0 0x1FF,  -- GTE_ACMD
  .one 0x02C 0 0 0 0,  -- GTE_ASTAT
  .one 0x030 0 0x8000FFFF 0 0,  -- GTE_TEST
  .one 0x034 0 0 0 0,  -- GTE_TESTTRV
  .one 0x040 0 0 0 0,  -- GTE_QPOP
  .one 0x044 0 0 0 0,  -- GTE_QSTAT
  .one 0x048 0 0 0 1,  -- GTE_QCTL
  .one 0x04C 0 0 0 0,  -- GTE_CNT
  .one 0x050 0 0 0 0,  -- GTE_VC
  .one 0x054 0 0 0 0,  -- GTE_VD
  .many 0x1000 0x20 256 0 0xFF007FFF 0 0,  -- GTE_SEC_CFG
  .many 0x1004 0x20 256 0 0xFFFFFFFF 0 0,  -- GTE_SEC_K
  .many 0x1008 0x20 256 0 0x7FF00FF 0 0,  -- GTE_SEC_NODE
  .many 0x100C 0x20 256 0 0xFFFF7FFF 0 0,  -- GTE_SEC_CRS
  .many 0x1010 0x20 256 0 0xFFFF7FFF 0 0,  -- GTE_SEC_PTR
  .many 0x1014 0x20 256 0 0 0 0,  -- GTE_SEC_TRV
  .many 0x1018 0x20 256 0 0 0 0,  -- GTE_SEC_NEXT
  .many 0x101C 0x20 256 0 0 0xF0000000 0]  -- GTE_SEC_ST

/-- The registers of ACT (R330). -/
def rowsACT : List RegRow := [
  .one 0x000 0 0 0xF 0,  -- ACT_STAT
  .one 0x004 0x25802EE 0x3FF03FF 0 0,  -- ACT_SS
  .one 0x008 0x1410 0xBF3FFFFF 0 0,  -- ACT_SYNC
  .one 0x00C 0 0xFFFFFFFF 0 0,  -- ACT_SYNCRAT
  .one 0x010 0x64 0xFFFF 0 0,  -- ACT_NSPD
  .one 0x014 0 0xFFFF 0 0,  -- ACT_NUDGEA
  .one 0x018 0 0xFFFF 0 0,  -- ACT_NUDGEB
  .one 0x01C 0x471C7 0xFFFFFFFF 0 0,  -- ACT_PARKSPD
  .one 0x020 0 0 0 0,  -- ACT_PARKST
  .one 0x024 0 0 0 0,  -- ACT_SYNCST
  .many 0x040 8 4 0xFFF0000 0xFFF0FFF 0 0,  -- ACT_CMD_P_AN
  .many 0x044 8 4 0 0 0x80000000 0,  -- ACT_CMD_P_AV
  .many 0x100 0x40 5 0 0xFFFFFFF7 0 0,  -- ACT_D_CFG
  .many 0x104 0x40 5 0x3F000000 0x3F3F3F3F 0 0,  -- ACT_D_ICH
  .many 0x108 0x40 5 0 0xC0000237 0 0,  -- ACT_D_CMD
  .many 0x10C 0x40 5 0 0xFFFFFFFF 0 0,  -- ACT_D_SREF
  .many 0x110 0x40 5 0x100 0xFFFFFF1F 0 0,  -- ACT_D_PK
  .many 0x114 0x40 5 0 0xFFFFFFFF 0 0,  -- ACT_D_PSAFE
  .many 0x118 0x40 5 0 0 0xC0000000 0x10000000,  -- ACT_D_ST
  .many 0x11C 0x40 5 0 0 0 0,  -- ACT_D_POS
  .many 0x120 0x40 5 0 0 0 0,  -- ACT_D_SPD
  .many 0x124 0x40 5 0 0 0 0]  -- ACT_D_ANG

/-- The registers of ENP (R365). -/
def rowsENP : List RegRow := [
  .one 0x000 0 0 0x3F 0,  -- ENP_STAT
  .one 0x004 0x80000000 0 0 0,  -- ENP_STATE
  .one 0x008 0 0 0 3,  -- ENP_CMD
  .one 0x00C 0x643230 0xFFFFFE 0 0,  -- ENP_CFG
  .one 0x010 0xA00000 0xFFFFFFFF 0 0,  -- ENP_SRCTAB
  .one 0x014 0 0 0 0,  -- ENP_SRCST
  .one 0x018 0 0 0 0,  -- ENP_LIM0
  .one 0x01C 0 0 0 0,  -- ENP_LIM1
  .one 0x020 0 0 0 0,  -- ENP_PLTST
  .one 0x024 0 0 0 0,  -- ENP_PROX
  .one 0x028 0x8020064 0xFFFFFFFF 0 0,  -- ENP_MAINS
  .one 0x02C 0 0 0 0,  -- ENP_MAINSST
  .one 0x030 0 0x3F3F3F 0 0,  -- ENP_ICH
  .one 0x034 0x1000800 0xFFFF0FFF 0 0,  -- ENP_ICAL
  .one 0x038 0 0xFFFFFFFF 0 0,  -- ENP_SLOT0
  .one 0x03C 0 0xFF 0 0,  -- ENP_SLOT1
  .one 0x040 0 0xFF 0 0,  -- ENP_TB
  .one 0x044 0xE6000000 0xFF3FFFFF 0 0,  -- ENP_LINK
  .one 0x048 0x100 0xFFFF 0 0,  -- ENP_LGAIN
  .one 0x04C 0x5303200 0xFFF0FF3F 0 0,  -- ENP_BUS
  .one 0x050 0x14000000 0xFF0FFFFF 0 0,  -- ENP_BHOLD
  .one 0x054 0x1E00 0xC00FFF0F 0 0,  -- ENP_RLY
  .one 0x058 0x307D0 0xFFFFFF 0 0,  -- ENP_HINGE
  .one 0x05C 0x12C0000 0xFFFFFFFF 0 0,  -- ENP_BMSCFG
  .one 0x060 0 0xFFFF 0 0,  -- ENP_BMSLIM
  .one 0x064 0 0 0 0x7F,  -- ENP_BMSIN
  .one 0x068 0 0 0 0,  -- ENP_BMSST
  .one 0x06C 0 0xFFFFFFFF 0 0,  -- ENP_EXP
  .one 0x070 0 0 0 0,  -- ENP_EXPST
  .one 0x100 0 0xFFFFFFFF 0 0,  -- ENP_SBCFG
  .one 0x104 0 0xFFFF 0 0,  -- ENP_SBRATE
  .one 0x108 0 0 0 0,  -- ENP_SBTOK
  .one 0x10C 0x1F0000 0 0 0,  -- ENP_SBQ
  .one 0x110 0 0 0xC0000000 0,  -- ENP_SBST
  .many 0x120 8 4 0 0 0 0x8000000F,  -- ENP_SBFW_REQ
  .many 0x124 8 4 0 0 0 0]  -- ENP_SBFW_RES

/-- The registers of AUX (R379). -/
def rowsAUX : List RegRow := [
  .one 0x000 0 0 0xF 0,  -- AUX_STAT
  .one 0x004 0 0 0 3,  -- AUX_CTL
  .one 0x008 0 0 0 0,  -- AUX_STATE
  .one 0x00C 0 0xF03FFF00 0 0,  -- AUX_CFG
  .one 0x010 0x35E8 0xFFFF 0 0,  -- AUX_VSET
  .one 0x014 0xA 0x3FF 0 0,  -- AUX_RATE
  .one 0x018 0 0x3FF 0 0,  -- AUX_LL
  .one 0x01C 0xA81 0xFFFFFFFF 0 0,  -- AUX_PHC
  .one 0x020 0x12C0100 0xFFFFFFFF 0 0,  -- AUX_STEP
  .one 0x024 0x1000000 0xFFFF003F 0 0,  -- AUX_VCH
  .one 0x028 0x1000000 0xFFFF0000 0 0,  -- AUX_IGAIN
  .one 0x02C 0 0xFFFFFF1F 0 0,  -- AUX_KT
  .one 0x030 0 0xFFFFFFFF 0 0,  -- AUX_PREK
  .one 0x034 0 0xFFFF 0 0,  -- AUX_DUTY
  .one 0x038 0 0 0 0,  -- AUX_VREF
  .one 0x03C 0 0 0 0,  -- AUX_IOUT
  .many 0x040 4 8 0x8000000 0xFFF003F 0 0,  -- AUX_PH
  .many 0x060 4 8 0 0 0 0,  -- AUX_TRIM
  .one 0x080 0 0 0 0]  -- AUX_CNT

/-- The registers of NET (R444). -/
def rowsNET : List RegRow := [
  .one 0x000 0 0 0x3F 0,  -- NET_STAT
  .one 0x004 0 0 0 0,  -- NET_TIME
  .one 0x008 0xA0000 0xC7FFFFFF 0 0,  -- NET_TM
  .one 0x00C 0 0 0 0,  -- NET_TMST
  .one 0x010 0 0 0 0,  -- NET_RXQ
  .one 0x014 0 0 0 0,  -- NET_RXQST
  .one 0x018 0 0 0 1,  -- NET_RXQCTL
  .many 0x100 0x40 8 0 0xFE000000 0 0,  -- NET_CH_CFG
  .many 0x104 0x40 8 0xF3E0F01 0x7FFF7F1F 0 0,  -- NET_CH_NBT
  .many 0x108 0x40 8 0x90330E00 0xFFFF1F1F 0 0,  -- NET_CH_DBT
  .many 0x10C 0x40 8 0 0 0 0,  -- NET_CH_ST
  .many 0x110 0x40 8 0 0 0xF 0,  -- NET_CH_FLG
  .many 0x114 0x40 8 0 0 0 0xFFFFFFFF,  -- NET_CH_TXQ
  .many 0x118 0x40 8 0 0 0 0,  -- NET_CH_TXQST
  .many 0x11C 0x40 8 0 0 0 0x117,  -- NET_CH_TXCTL
  ⟨0x120, 0x40, 8, 4, 3, 0, 0, 0, 0⟩,  -- NET_CH_TB
  .many 0x12C 0x40 8 0 0 0 0,  -- NET_CH_CNT
  .many 0x130 0x40 8 0 0 0 0,  -- NET_CH_REFT
  .many 0x800 8 128 0 0xFFFFFFFF 0 0,  -- NET_FLT_ID
  .many 0x804 8 128 0 0xDFFFFFFF 0 0,  -- NET_FLT_MSK
  .many 0x1000 0x40 2 0 0xFC000000 0 0,  -- NET_ETH_CFG
  .many 0x1004 0x40 2 0 0 0 0,  -- NET_ETH_ST
  .many 0x1008 0x40 2 0 0 0 1,  -- NET_ETH_CTL
  .many 0x100C 0x40 2 0 0xFFFFFFF8 0 0,  -- NET_ETH_RXR
  .many 0x1010 0x40 2 0 0xFFFFFFF8 0 0,  -- NET_ETH_TXR
  .many 0x1014 0x40 2 0 0 0 0,  -- NET_ETH_IDX
  .many 0x1018 0x40 2 0 0xFFFFFFFF 0 0,  -- NET_ETH_MAC0
  .many 0x101C 0x40 2 0 0xFFFF 0 0,  -- NET_ETH_MAC1
  .many 0x1020 0x40 2 0 0 0 0,  -- NET_ETH_TSUS
  .many 0x1024 0x40 2 0 0 0 0,  -- NET_ETH_TSTAG
  .many 0x1028 0x40 2 0 0 0 0]  -- NET_ETH_CNT

/-- The registers of CNV (R471). -/
def rowsCNV : List RegRow := [
  .one 0x000 0 0 0x3F 0,  -- CNV_STAT
  .one 0x004 0x32 0x800000FF 0 0,  -- CNV_CFG
  .one 0x008 0xFEFEFEFE 0xFFFFFFFF 0 0,  -- CNV_SA0
  .one 0x00C 0xFEFEFEFE 0xFFFFFFFF 0 0,  -- CNV_SA1
  .one 0x010 0xC801F4 0xFFFFFFFF 0 0,  -- CNV_TIM0
  .one 0x014 0x2EE04E2 0xFFFFFFFF 0 0,  -- CNV_TIM1
  .one 0x018 0x4E2041A 0xFFFFFFFF 0 0,  -- CNV_TIM2
  .one 0x01C 0 0 0 0xC00000FF,  -- CNV_CMD
  .one 0x020 0 0 0 0,  -- CNV_CMDST
  .one 0x024 0 0 0 0,  -- CNV_CPL
  .one 0x028 0 0 0 0,  -- CNV_CPLST
  .one 0x02C 0 0 0 1,  -- CNV_CPLCTL
  .one 0x030 0 0 0 0,  -- CNV_CNT
  .one 0x034 0 0 0 0,  -- CNV_CNT2
  .many 0x040 4 8 0 0 0 0]  -- CNV_ACT

/-- The registers of TWN (R498). -/
def rowsTWN : List RegRow := [
  .one 0x000 0 0 0x7F 0,  -- TWN_STAT
  .one 0x004 0xF1010 0x800FFFFF 0 0,  -- TWN_CFG
  .one 0x008 0x142D 0xFFFF 0 0,  -- TWN_MWIN
  .one 0x00C 0 0 0 0,  -- TWN_ST
  .one 0x010 0 0 0 0,  -- TWN_LANE
  .one 0x014 0 0 0 0xF,  -- TWN_LANECLR
  .one 0x018 0 0 0 3,  -- TWN_CTL
  .one 0x01C 0x20 0xFF 0 0,  -- TWN_SNAP
  .one 0x020 0 0 0 0,  -- TWN_SNAPST
  .one 0x024 0 0 0 0,  -- TWN_ALIGN
  .many 0x028 4 2 0 0xFFFFFFFF 0 0,  -- TWN_SIGMSK
  .one 0x030 0 0 0 0,  -- TWN_SIG
  .one 0x034 0 0 0 0,  -- TWN_PSIG
  .one 0x038 0 0 0 0,  -- TWN_SIGST
  .one 0x03C 0xC8 0xFFFF 0 0,  -- TWN_RAMP
  .one 0x040 0x10 0xFFFF 0 0,  -- TWN_TRVTOL
  .one 0x044 0 0 0 0,  -- TWN_CNT
  .many 0x050 4 4 0 0x3FFFFFFF 0 0,
 .one 0x060 0 0xFFFFFF 0 0,  -- TWN_APOL
  .one 0x064 0 0x3FFFFFFF 0 0,
 .one 0x068 0 7 0 0,  -- TWN_XPOL
  .one 0x06C 0 0xFFF 0 0,  -- TWN_CPOL
  .many 0x070 4 2 0 0 0 0]  -- TWN_PUID

/-- The registers of SAF (R527). -/
def rowsSAF : List RegRow := [
  .one 0x000 0 0 0 0,  -- SAF_STATE
  .one 0x004 0 0 0 0,  -- SAF_KEY
  .one 0x008 0 0 0 0,  -- SAF_PKEY
  .one 0x00C 0 0 0 3,  -- SAF_CMD
  .one 0x010 0 0 0 0xFFFFFFFF,  -- SAF_CARG
  .one 0x014 0x80000000 0 0 0,  -- SAF_CMDST
  .one 0x018 0 0 0 0,  -- SAF_INLVL
  .one 0x01C 0 0 0 0,  -- SAF_INST
  .one 0x020 0 0 0 0,  -- SAF_OUT
  .one 0x024 0 0 0 0,  -- SAF_EN
  .one 0x028 0xFFFFFFFF 0 0 0,  -- SAF_FUNC
  .one 0x02C 0 0 0 0,  -- SAF_SPD
  .one 0x030 0 0 0 0,  -- SAF_CS
  .one 0x034 0 0 0 0,  -- SAF_SIGST
  .one 0x038 0 0 0 0,  -- SAF_RSTIN
  .one 0x03C 0 0 0 0]  -- SAF_DISC

/-- The registers of HPT (R556). -/
def rowsHPT : List RegRow := [
  .one 0x000 0 0 0xF 0,  -- HPT_STAT
  .one 0x004 0 0 0 0,  -- HPT_ERRADDR
  .one 0x008 0 0 0x80000000 0,  -- HPT_REF
  .one 0x00C 0 0 0 0,  -- HPT_REFCNT
  .one 0x010 0 0 0 3,  -- HPT_DOORBELL
  .one 0x014 0 0xFFFF 0 0,  -- HPT_IRQEN
  .one 0x018 0 0 0xFFFF 0,  -- HPT_IRQST
  .one 0x01C 0 0 0 0xFFFF,  -- HPT_IRQSET
  .many 0x020 4 4 0 0xFFFFFFFF 0 0,  -- HPT_MBOX
  .one 0x030 0 3 0 0,  -- HPT_BOOTCTL
  .many 0x034 4 2 0 0xFFFFFFFE 0 0,  -- HPT_BOOT
  .one 0x040 0 0 0 0xFF000003,  -- HPT_FLCTL
  .one 0x044 0 0x3FFFF0 0 0,  -- HPT_FLADDR
  .many 0x048 4 4 0 0xFFFFFFFF 0 0,  -- HPT_FLBUF
  .one 0x058 0 0 0x40000000 0,  -- HPT_ECC
  .one 0x05C 0 0 0 0]  -- HPT_ECCADDR

/-- The registers of MOD (R75). -/
def rowsMOD : List RegRow := [
  .one 0x000 0x11 0 0 0,  -- MOD_MODE
  .one 0x004 0 0 0 0xF,  -- MOD_REQ
  .one 0x008 0x80000000 0 0 0,  -- MOD_REQSTAT
  .one 0x00C 0 0 0x1F 0,  -- MOD_STAT
  .one 0x010 0 0 0 0,  -- MOD_DEG
  .one 0x014 0x7D0 0x1FFFF 0 0,  -- MOD_CFG
  .one 0x018 0 0xFF03 0 0,  -- MOD_WAKECFG
  .one 0x01C 0 0 0 0,  -- MOD_WAKESRC
  .one 0x020 0 0 0xF 0,  -- MOD_RSTCAUSE
  .one 0x024 0 0 0 0,  -- MOD_LOCKCAUSE
  .one 0x028 0 0 0x80000000 0,  -- MOD_REFAPP
  .one 0x02C 0 0 0 0]  -- MOD_REFCNT

/-- The rows of block `b` (R38). -/
def blockRows : Nat → List RegRow
  | 0 => rowsSYS
  | 1 => rowsEVT
  | 2 => rowsSEQ
  | 3 => rowsCLE
  | 4 => rowsWFU
  | 5 => rowsTDU
  | 6 => rowsGDP
  | 7 => rowsACQ
  | 8 => rowsPOS
  | 9 => rowsGTE
  | 10 => rowsACT
  | 11 => rowsENP
  | 12 => rowsAUX
  | 13 => rowsNET
  | 14 => rowsCNV
  | 15 => rowsTWN
  | 16 => rowsSAF
  | 17 => rowsHPT
  | 18 => rowsMOD
  | _ => []

/-- The row that holds register number `r`; none where the offset holds no register (R37). -/
def regRow? (r : Nat) : Option RegRow := (blockRows (r / 65536)).find? (·.holds (r % 65536))

/-- The value of register number `r` after reset, from the register tables. -/
def regReset (r : Nat) : Word :=
  match regRow? r with
  | some row => BitVec.ofNat 32 row.reset
  | none => 0

/-! The numbers of the registers, by the manual's names; an array's index comes as the argument. -/

namespace R

def SYS_ID : Nat := 0x0
def SYS_CAPS : Nat := 0x4
def SYS_UID0 : Nat := 0x8
def SYS_UID1 : Nat := 0xC
def SYS_SMPL : Nat := 0x10
def SYS_SMPLCNT : Nat := 0x14
def SYS_CLKSTAT : Nat := 0x18
def SYS_STAT : Nat := 0x1C
def SYS_DBG : Nat := 0x20
def SYS_THCFG : Nat := 0x100
def SYS_THNTC : Nat := 0x104
def SYS_THHYS : Nat := 0x108
def SYS_THSTAT : Nat := 0x10C
def SYS_THTHR : Nat := 0x110
def SYS_THHOT : Nat := 0x114
def SYS_THDER0 : Nat := 0x118
def SYS_THDER1 : Nat := 0x11C
def SYS_THDER2 : Nat := 0x120
def SYS_THN (n : Nat) : Nat := 0x140 + 4 * n
def EVT_CORE0 : Nat := 0x10000
def EVT_CORE1 : Nat := 0x10004
def EVT_PEND (n : Nat) : Nat := 0x10020 + 4 * n
def EVT_ACT (n : Nat) : Nat := 0x10040 + 4 * n
def EVT_GRP_HOLD (n : Nat) : Nat := 0x10100 + 4 * n
def EVT_SRC_CFG (n : Nat) : Nat := 0x11000 + 8 * n
def EVT_SRC_VEC (n : Nat) : Nat := 0x11004 + 8 * n
def SEQ_GO : Nat := 0x20000
def SEQ_RUNSTAT : Nat := 0x20004
def SEQ_CTL (n : Nat) : Nat := 0x20100 + 0x100 * n
def SEQ_STAT (n : Nat) : Nat := 0x20104 + 0x100 * n
def SEQ_ENTRY (n : Nat) : Nat := 0x20108 + 0x100 * n
def SEQ_NEXT (n : Nat) : Nat := 0x2010C + 0x100 * n
def SEQ_PC (n : Nat) : Nat := 0x20110 + 0x100 * n
def SEQ_LAST (n : Nat) : Nat := 0x20114 + 0x100 * n
def SEQ_EXC (n : Nat) : Nat := 0x20118 + 0x100 * n
def SEQ_REF (n : Nat) : Nat := 0x2011C + 0x100 * n
def SEQ_CNT (n : Nat) : Nat := 0x20120 + 0x100 * n
def SEQ_V (n k : Nat) : Nat := 0x20140 + 0x100 * n + 4 * k
def SEQ_EVL (n k : Nat) : Nat := 0x20180 + 0x100 * n + 4 * k
def CLE_STAT : Nat := 0x30000
def CLE_RUNT : Nat := 0x30004
def CLE_SATF0 : Nat := 0x30008
def CLE_SATF1 : Nat := 0x3000C
def CLE_OSCF0 : Nat := 0x30010
def CLE_OSCF1 : Nat := 0x30014
def CLE_MARK0 : Nat := 0x30018
def CLE_MARK1 : Nat := 0x3001C
def CLE_VB_CFG (n : Nat) : Nat := 0x30020 + 0x10 * n
def CLE_VB_NOM (n : Nat) : Nat := 0x30024 + 0x10 * n
def CLE_VB_G (n : Nat) : Nat := 0x30028 + 0x10 * n
def CLE_CAP : Nat := 0x30040
def CLE_CAPST : Nat := 0x30044
def CLE_CMD_CFG (n : Nat) : Nat := 0x30080 + 0x10 * n
def CLE_CMD_VAL (n : Nat) : Nat := 0x30084 + 0x10 * n
def CLE_SL_CFG (n : Nat) : Nat := 0x31000 + 0x80 * n
def CLE_SL_SRC (n : Nat) : Nat := 0x31004 + 0x80 * n
def CLE_SL_SPK (n : Nat) : Nat := 0x31008 + 0x80 * n
def CLE_SL_SPOFS (n : Nat) : Nat := 0x3100C + 0x80 * n
def CLE_SL_SLEW (n : Nat) : Nat := 0x31010 + 0x80 * n
def CLE_SL_SPR (n : Nat) : Nat := 0x31014 + 0x80 * n
def CLE_SL_OMAX (n : Nat) : Nat := 0x31018 + 0x80 * n
def CLE_SL_OMIN (n : Nat) : Nat := 0x3101C + 0x80 * n
def CLE_SL_IMAX (n : Nat) : Nat := 0x31020 + 0x80 * n
def CLE_SL_IMIN (n : Nat) : Nat := 0x31024 + 0x80 * n
def CLE_SL_CA (n k : Nat) : Nat := 0x31028 + 0x80 * n + 4 * k
def CLE_SL_CB (n k : Nat) : Nat := 0x31038 + 0x80 * n + 4 * k
def CLE_SL_OSC (n : Nat) : Nat := 0x31048 + 0x80 * n
def CLE_SL_BAND (n : Nat) : Nat := 0x3104C + 0x80 * n
def CLE_SL_FFT (n : Nat) : Nat := 0x31050 + 0x80 * n
def CLE_SL_FRIC (n : Nat) : Nat := 0x31054 + 0x80 * n
def CLE_SL_DEST (n : Nat) : Nat := 0x31058 + 0x80 * n
def CLE_SL_INT (n : Nat) : Nat := 0x3105C + 0x80 * n
def CLE_SL_CMD (n : Nat) : Nat := 0x31060 + 0x80 * n
def CLE_SL_ST (n : Nat) : Nat := 0x31064 + 0x80 * n
def CLE_SL_RES (n : Nat) : Nat := 0x31068 + 0x80 * n
def WFU_STAT : Nat := 0x40000
def WFU_TRIPST : Nat := 0x40004
def WFU_TRIPCLR : Nat := 0x40008
def WFU_TBCTL : Nat := 0x4000C
def WFU_TRIP_CFG (n : Nat) : Nat := 0x40020 + 0x10 * n
def WFU_TRIP_M0 (n : Nat) : Nat := 0x40024 + 0x10 * n
def WFU_TRIP_M1 (n : Nat) : Nat := 0x40028 + 0x10 * n
def WFU_TB_CFG (n : Nat) : Nat := 0x40100 + 0x10 * n
def WFU_TB_CNT (n : Nat) : Nat := 0x40104 + 0x10 * n
def WFU_LEG_CFG (n : Nat) : Nat := 0x40400 + 0x20 * n
def WFU_LEG_DT (n : Nat) : Nat := 0x40404 + 0x20 * n
def WFU_LEG_PULSE (n : Nat) : Nat := 0x40408 + 0x20 * n
def WFU_LEG_CMPA (n : Nat) : Nat := 0x4040C + 0x20 * n
def WFU_LEG_CMPB (n : Nat) : Nat := 0x40410 + 0x20 * n
def WFU_LEG_ST (n : Nat) : Nat := 0x40414 + 0x20 * n
def WFU_LEG_SWC (n : Nat) : Nat := 0x40418 + 0x20 * n
def TDU_CFG (n : Nat) : Nat := 0x50100 + 0x100 * n
def TDU_ISEL0 (n : Nat) : Nat := 0x50104 + 0x100 * n
def TDU_ISEL1 (n : Nat) : Nat := 0x50108 + 0x100 * n
def TDU_TIM (n : Nat) : Nat := 0x5010C + 0x100 * n
def TDU_ICAL (n k : Nat) : Nat := 0x50110 + 0x100 * n + 4 * k
def TDU_VBCAL (n : Nat) : Nat := 0x50128 + 0x100 * n
def TDU_RS (n : Nat) : Nat := 0x5012C + 0x100 * n
def TDU_TK (n : Nat) : Nat := 0x50130 + 0x100 * n
def TDU_LDQ (n : Nat) : Nat := 0x50134 + 0x100 * n
def TDU_PSIPM (n : Nat) : Nat := 0x50138 + 0x100 * n
def TDU_ANG (n : Nat) : Nat := 0x5013C + 0x100 * n
def TDU_BAND (n : Nat) : Nat := 0x50140 + 0x100 * n
def TDU_TREF (n : Nat) : Nat := 0x50144 + 0x100 * n
def TDU_FREF (n : Nat) : Nat := 0x50148 + 0x100 * n
def TDU_TLIM (n : Nat) : Nat := 0x5014C + 0x100 * n
def TDU_TRAMP (n : Nat) : Nat := 0x50150 + 0x100 * n
def TDU_RATED (n : Nat) : Nat := 0x50154 + 0x100 * n
def TDU_HOV (n : Nat) : Nat := 0x50158 + 0x100 * n
def TDU_HSL (n : Nat) : Nat := 0x5015C + 0x100 * n
def TDU_IQK (n : Nat) : Nat := 0x50160 + 0x100 * n
def TDU_IDREF (n : Nat) : Nat := 0x50164 + 0x100 * n
def TDU_TBASE (n : Nat) : Nat := 0x50168 + 0x100 * n
def TDU_FSW (n : Nat) : Nat := 0x5016C + 0x100 * n
def TDU_DWL (n k : Nat) : Nat := 0x50170 + 0x100 * n + 4 * k
def TDU_VCMD1 (n : Nat) : Nat := 0x50180 + 0x100 * n
def TDU_VCMD2 (n : Nat) : Nat := 0x50184 + 0x100 * n
def TDU_STATE (n : Nat) : Nat := 0x50188 + 0x100 * n
def TDU_ST (n : Nat) : Nat := 0x5018C + 0x100 * n
def TDU_CNT (n : Nat) : Nat := 0x50190 + 0x100 * n
def TDU_PSI (n : Nat) : Nat := 0x50194 + 0x100 * n
def TDU_TQ (n : Nat) : Nat := 0x50198 + 0x100 * n
def GDP_STAT : Nat := 0x60000
def GDP_HIZ0 : Nat := 0x60004
def GDP_HIZ1 : Nat := 0x60008
def GDP_LAST0 : Nat := 0x6000C
def GDP_LAST1 : Nat := 0x60010
def GDP_STGST : Nat := 0x60014
def GDP_CLR : Nat := 0x60018
def GDP_CLRST : Nat := 0x6001C
def GDP_RETRY : Nat := 0x60020
def GDP_XCFG : Nat := 0x60024
def GDP_XEN : Nat := 0x60028
def GDP_SUPPLY : Nat := 0x6002C
def GDP_TRC_ASC (n : Nat) : Nat := 0x60030 + 4 * n
def GDP_DRV_CFG (n : Nat) : Nat := 0x60100 + 0x10 * n
def GDP_OC_CFG (n : Nat) : Nat := 0x60200 + 0x10 * n
def GDP_LEG_ST (n : Nat) : Nat := 0x60400 + 0x10 * n
def ACQ_STAT : Nat := 0x70000
def ACQ_INV0 : Nat := 0x70008
def ACQ_INV1 : Nat := 0x7000C
def ACQ_QPOP : Nat := 0x70010
def ACQ_QSTAT : Nat := 0x70014
def ACQ_QCTL : Nat := 0x70018
def ACQ_C_CFG (n : Nat) : Nat := 0x70100 + 0x10 * n
def ACQ_C_SW (n : Nat) : Nat := 0x70104 + 0x10 * n
def ACQ_C_STAT (n : Nat) : Nat := 0x70108 + 0x10 * n
def ACQ_CH_CFG (n : Nat) : Nat := 0x70400 + 0x10 * n
def ACQ_CH_WIN (n : Nat) : Nat := 0x70404 + 0x10 * n
def ACQ_CH_RES (n : Nat) : Nat := 0x70408 + 0x10 * n
def ACQ_CH_ST (n : Nat) : Nat := 0x7040C + 0x10 * n
def POS_STAT : Nat := 0x80000
def POS_INV : Nat := 0x80004
def POS_STOP : Nat := 0x80008
def POS_TRVSRC : Nat := 0x80010
def POS_TRVCOEF : Nat := 0x80014
def POS_TRVFB_L : Nat := 0x80018
def POS_TRVFB_R : Nat := 0x8001C
def POS_TRV_L : Nat := 0x80020
def POS_TRV_R : Nat := 0x80024
def POS_TRV_C : Nat := 0x80028
def POS_GSPD : Nat := 0x8002C
def POS_TRVSTAT : Nat := 0x80030
def POS_TRVADJ : Nat := 0x80034
def POS_MOT_CFG (n : Nat) : Nat := 0x80100 + 0x20 * n
def POS_MOT_EOFS (n : Nat) : Nat := 0x80104 + 0x20 * n
def POS_MOT_EANG (n : Nat) : Nat := 0x80108 + 0x20 * n
def POS_AX_CFG (n : Nat) : Nat := 0x80200 + 0x20 * n
def POS_AX_POS (n : Nat) : Nat := 0x80204 + 0x20 * n
def POS_AX_SPD (n : Nat) : Nat := 0x80208 + 0x20 * n
def POS_AX_LAT (n : Nat) : Nat := 0x8020C + 0x20 * n
def POS_AX_ST (n : Nat) : Nat := 0x80210 + 0x20 * n
def POS_RES_CFG (n : Nat) : Nat := 0x80400 + 0x10 * n
def POS_RES_ST (n : Nat) : Nat := 0x80404 + 0x10 * n
def POS_ENC_CFG (n : Nat) : Nat := 0x80500 + 0x10 * n
def POS_ENC_ZLAT (n : Nat) : Nat := 0x80504 + 0x10 * n
def POS_HALL_CFG (n : Nat) : Nat := 0x80580 + 0x10 * n
def POS_SSI_CFG (n : Nat) : Nat := 0x80600 + 0x10 * n
def POS_SSI_RAW (n : Nat) : Nat := 0x80604 + 0x10 * n
def POS_PRB_CFG (n : Nat) : Nat := 0x80700 + 0x20 * n
def POS_PRB_POS (n : Nat) : Nat := 0x80704 + 0x20 * n
def POS_PRB_TRV (n : Nat) : Nat := 0x80708 + 0x20 * n
def POS_PRB_TIME (n : Nat) : Nat := 0x8070C + 0x20 * n
def POS_PRB_TAG (n : Nat) : Nat := 0x80710 + 0x20 * n
def POS_EMU_CFG (n : Nat) : Nat := 0x80800 + 0x10 * n
def POS_EMU_DIV (n : Nat) : Nat := 0x80804 + 0x10 * n
def POS_EMU_LAG (n : Nat) : Nat := 0x80808 + 0x10 * n
def GTE_STAT : Nat := 0x90000
def GTE_CFG : Nat := 0x90004
def GTE_NETCFG : Nat := 0x90008
def GTE_NETTIM : Nat := 0x9000C
def GTE_REARM : Nat := 0x90010
def GTE_OUTPOL : Nat := 0x90014
def GTE_OUT : Nat := 0x90018
def GTE_CTL : Nat := 0x9001C
def GTE_APOS : Nat := 0x90020
def GTE_ASTATE : Nat := 0x90024
def GTE_ACMD : Nat := 0x90028
def GTE_ASTAT : Nat := 0x9002C
def GTE_TEST : Nat := 0x90030
def GTE_TESTTRV : Nat := 0x90034
def GTE_QPOP : Nat := 0x90040
def GTE_QSTAT : Nat := 0x90044
def GTE_QCTL : Nat := 0x90048
def GTE_CNT : Nat := 0x9004C
def GTE_VC : Nat := 0x90050
def GTE_VD : Nat := 0x90054
def GTE_SEC_CFG (n : Nat) : Nat := 0x91000 + 0x20 * n
def GTE_SEC_K (n : Nat) : Nat := 0x91004 + 0x20 * n
def GTE_SEC_NODE (n : Nat) : Nat := 0x91008 + 0x20 * n
def GTE_SEC_CRS (n : Nat) : Nat := 0x9100C + 0x20 * n
def GTE_SEC_PTR (n : Nat) : Nat := 0x91010 + 0x20 * n
def GTE_SEC_TRV (n : Nat) : Nat := 0x91014 + 0x20 * n
def GTE_SEC_NEXT (n : Nat) : Nat := 0x91018 + 0x20 * n
def GTE_SEC_ST (n : Nat) : Nat := 0x9101C + 0x20 * n
def ACT_STAT : Nat := 0xA0000
def ACT_SS : Nat := 0xA0004
def ACT_SYNC : Nat := 0xA0008
def ACT_SYNCRAT : Nat := 0xA000C
def ACT_NSPD : Nat := 0xA0010
def ACT_NUDGEA : Nat := 0xA0014
def ACT_NUDGEB : Nat := 0xA0018
def ACT_PARKSPD : Nat := 0xA001C
def ACT_PARKST : Nat := 0xA0020
def ACT_SYNCST : Nat := 0xA0024
def ACT_CMD_P_AN (n : Nat) : Nat := 0xA0040 + 8 * n
def ACT_CMD_P_AV (n : Nat) : Nat := 0xA0044 + 8 * n
def ACT_D_CFG (n : Nat) : Nat := 0xA0100 + 0x40 * n
def ACT_D_ICH (n : Nat) : Nat := 0xA0104 + 0x40 * n
def ACT_D_CMD (n : Nat) : Nat := 0xA0108 + 0x40 * n
def ACT_D_SREF (n : Nat) : Nat := 0xA010C + 0x40 * n
def ACT_D_PK (n : Nat) : Nat := 0xA0110 + 0x40 * n
def ACT_D_PSAFE (n : Nat) : Nat := 0xA0114 + 0x40 * n
def ACT_D_ST (n : Nat) : Nat := 0xA0118 + 0x40 * n
def ACT_D_POS (n : Nat) : Nat := 0xA011C + 0x40 * n
def ACT_D_SPD (n : Nat) : Nat := 0xA0120 + 0x40 * n
def ACT_D_ANG (n : Nat) : Nat := 0xA0124 + 0x40 * n
def ENP_STAT : Nat := 0xB0000
def ENP_STATE : Nat := 0xB0004
def ENP_CMD : Nat := 0xB0008
def ENP_CFG : Nat := 0xB000C
def ENP_SRCTAB : Nat := 0xB0010
def ENP_SRCST : Nat := 0xB0014
def ENP_LIM0 : Nat := 0xB0018
def ENP_LIM1 : Nat := 0xB001C
def ENP_PLTST : Nat := 0xB0020
def ENP_PROX : Nat := 0xB0024
def ENP_MAINS : Nat := 0xB0028
def ENP_MAINSST : Nat := 0xB002C
def ENP_ICH : Nat := 0xB0030
def ENP_ICAL : Nat := 0xB0034
def ENP_SLOT0 : Nat := 0xB0038
def ENP_SLOT1 : Nat := 0xB003C
def ENP_TB : Nat := 0xB0040
def ENP_LINK : Nat := 0xB0044
def ENP_LGAIN : Nat := 0xB0048
def ENP_BUS : Nat := 0xB004C
def ENP_BHOLD : Nat := 0xB0050
def ENP_RLY : Nat := 0xB0054
def ENP_HINGE : Nat := 0xB0058
def ENP_BMSCFG : Nat := 0xB005C
def ENP_BMSLIM : Nat := 0xB0060
def ENP_BMSIN : Nat := 0xB0064
def ENP_BMSST : Nat := 0xB0068
def ENP_EXP : Nat := 0xB006C
def ENP_EXPST : Nat := 0xB0070
def ENP_SBCFG : Nat := 0xB0100
def ENP_SBRATE : Nat := 0xB0104
def ENP_SBTOK : Nat := 0xB0108
def ENP_SBQ : Nat := 0xB010C
def ENP_SBST : Nat := 0xB0110
def ENP_SBFW_REQ (n : Nat) : Nat := 0xB0120 + 8 * n
def ENP_SBFW_RES (n : Nat) : Nat := 0xB0124 + 8 * n
def AUX_STAT : Nat := 0xC0000
def AUX_CTL : Nat := 0xC0004
def AUX_STATE : Nat := 0xC0008
def AUX_CFG : Nat := 0xC000C
def AUX_VSET : Nat := 0xC0010
def AUX_RATE : Nat := 0xC0014
def AUX_LL : Nat := 0xC0018
def AUX_PHC : Nat := 0xC001C
def AUX_STEP : Nat := 0xC0020
def AUX_VCH : Nat := 0xC0024
def AUX_IGAIN : Nat := 0xC0028
def AUX_KT : Nat := 0xC002C
def AUX_PREK : Nat := 0xC0030
def AUX_DUTY : Nat := 0xC0034
def AUX_VREF : Nat := 0xC0038
def AUX_IOUT : Nat := 0xC003C
def AUX_PH (n : Nat) : Nat := 0xC0040 + 4 * n
def AUX_TRIM (n : Nat) : Nat := 0xC0060 + 4 * n
def AUX_CNT : Nat := 0xC0080
def NET_STAT : Nat := 0xD0000
def NET_TIME : Nat := 0xD0004
def NET_TM : Nat := 0xD0008
def NET_TMST : Nat := 0xD000C
def NET_RXQ : Nat := 0xD0010
def NET_RXQST : Nat := 0xD0014
def NET_RXQCTL : Nat := 0xD0018
def NET_CH_CFG (n : Nat) : Nat := 0xD0100 + 0x40 * n
def NET_CH_NBT (n : Nat) : Nat := 0xD0104 + 0x40 * n
def NET_CH_DBT (n : Nat) : Nat := 0xD0108 + 0x40 * n
def NET_CH_ST (n : Nat) : Nat := 0xD010C + 0x40 * n
def NET_CH_FLG (n : Nat) : Nat := 0xD0110 + 0x40 * n
def NET_CH_TXQ (n : Nat) : Nat := 0xD0114 + 0x40 * n
def NET_CH_TXQST (n : Nat) : Nat := 0xD0118 + 0x40 * n
def NET_CH_TXCTL (n : Nat) : Nat := 0xD011C + 0x40 * n
def NET_CH_TB (n k : Nat) : Nat := 0xD0120 + 0x40 * n + 4 * k
def NET_CH_CNT (n : Nat) : Nat := 0xD012C + 0x40 * n
def NET_CH_REFT (n : Nat) : Nat := 0xD0130 + 0x40 * n
def NET_FLT_ID (n : Nat) : Nat := 0xD0800 + 8 * n
def NET_FLT_MSK (n : Nat) : Nat := 0xD0804 + 8 * n
def NET_ETH_CFG (n : Nat) : Nat := 0xD1000 + 0x40 * n
def NET_ETH_ST (n : Nat) : Nat := 0xD1004 + 0x40 * n
def NET_ETH_CTL (n : Nat) : Nat := 0xD1008 + 0x40 * n
def NET_ETH_RXR (n : Nat) : Nat := 0xD100C + 0x40 * n
def NET_ETH_TXR (n : Nat) : Nat := 0xD1010 + 0x40 * n
def NET_ETH_IDX (n : Nat) : Nat := 0xD1014 + 0x40 * n
def NET_ETH_MAC0 (n : Nat) : Nat := 0xD1018 + 0x40 * n
def NET_ETH_MAC1 (n : Nat) : Nat := 0xD101C + 0x40 * n
def NET_ETH_TSUS (n : Nat) : Nat := 0xD1020 + 0x40 * n
def NET_ETH_TSTAG (n : Nat) : Nat := 0xD1024 + 0x40 * n
def NET_ETH_CNT (n : Nat) : Nat := 0xD1028 + 0x40 * n
def CNV_STAT : Nat := 0xE0000
def CNV_CFG : Nat := 0xE0004
def CNV_SA0 : Nat := 0xE0008
def CNV_SA1 : Nat := 0xE000C
def CNV_TIM0 : Nat := 0xE0010
def CNV_TIM1 : Nat := 0xE0014
def CNV_TIM2 : Nat := 0xE0018
def CNV_CMD : Nat := 0xE001C
def CNV_CMDST : Nat := 0xE0020
def CNV_CPL : Nat := 0xE0024
def CNV_CPLST : Nat := 0xE0028
def CNV_CPLCTL : Nat := 0xE002C
def CNV_CNT : Nat := 0xE0030
def CNV_CNT2 : Nat := 0xE0034
def CNV_ACT (n : Nat) : Nat := 0xE0040 + 4 * n
def TWN_STAT : Nat := 0xF0000
def TWN_CFG : Nat := 0xF0004
def TWN_MWIN : Nat := 0xF0008
def TWN_ST : Nat := 0xF000C
def TWN_LANE : Nat := 0xF0010
def TWN_LANECLR : Nat := 0xF0014
def TWN_CTL : Nat := 0xF0018
def TWN_SNAP : Nat := 0xF001C
def TWN_SNAPST : Nat := 0xF0020
def TWN_ALIGN : Nat := 0xF0024
def TWN_SIGMSK (n : Nat) : Nat := 0xF0028 + 4 * n
def TWN_SIG : Nat := 0xF0030
def TWN_PSIG : Nat := 0xF0034
def TWN_SIGST : Nat := 0xF0038
def TWN_RAMP : Nat := 0xF003C
def TWN_TRVTOL : Nat := 0xF0040
def TWN_CNT : Nat := 0xF0044
def TWN_APOL (n : Nat) : Nat := 0xF0050 + 4 * n
def TWN_XPOL (n : Nat) : Nat := 0xF0064 + 4 * n
def TWN_CPOL : Nat := 0xF006C
def TWN_PUID (n : Nat) : Nat := 0xF0070 + 4 * n
def SAF_STATE : Nat := 0x100000
def SAF_KEY : Nat := 0x100004
def SAF_PKEY : Nat := 0x100008
def SAF_CMD : Nat := 0x10000C
def SAF_CARG : Nat := 0x100010
def SAF_CMDST : Nat := 0x100014
def SAF_INLVL : Nat := 0x100018
def SAF_INST : Nat := 0x10001C
def SAF_OUT : Nat := 0x100020
def SAF_EN : Nat := 0x100024
def SAF_FUNC : Nat := 0x100028
def SAF_SPD : Nat := 0x10002C
def SAF_CS : Nat := 0x100030
def SAF_SIGST : Nat := 0x100034
def SAF_RSTIN : Nat := 0x100038
def SAF_DISC : Nat := 0x10003C
def HPT_STAT : Nat := 0x110000
def HPT_ERRADDR : Nat := 0x110004
def HPT_REF : Nat := 0x110008
def HPT_REFCNT : Nat := 0x11000C
def HPT_DOORBELL : Nat := 0x110010
def HPT_IRQEN : Nat := 0x110014
def HPT_IRQST : Nat := 0x110018
def HPT_IRQSET : Nat := 0x11001C
def HPT_MBOX (n : Nat) : Nat := 0x110020 + 4 * n
def HPT_BOOTCTL : Nat := 0x110030
def HPT_BOOT (n : Nat) : Nat := 0x110034 + 4 * n
def HPT_FLCTL : Nat := 0x110040
def HPT_FLADDR : Nat := 0x110044
def HPT_FLBUF (n : Nat) : Nat := 0x110048 + 4 * n
def HPT_ECC : Nat := 0x110058
def HPT_ECCADDR : Nat := 0x11005C
def MOD_MODE : Nat := 0x120000
def MOD_REQ : Nat := 0x120004
def MOD_REQSTAT : Nat := 0x120008
def MOD_STAT : Nat := 0x12000C
def MOD_DEG : Nat := 0x120010
def MOD_CFG : Nat := 0x120014
def MOD_WAKECFG : Nat := 0x120018
def MOD_WAKESRC : Nat := 0x12001C
def MOD_RSTCAUSE : Nat := 0x120020
def MOD_LOCKCAUSE : Nat := 0x120024
def MOD_REFAPP : Nat := 0x120028
def MOD_REFCNT : Nat := 0x12002C

end R

/-! The fields of the registers, by the manual's names. -/

namespace F

def SYS_ID_FAMILY : Fld := ⟨31, 16⟩
def SYS_ID_PART : Fld := ⟨15, 8⟩
def SYS_ID_GRADE : Fld := ⟨7, 4⟩
def SYS_ID_STEP : Fld := ⟨3, 0⟩
def SYS_CAPS_NCAN : Fld := ⟨23, 20⟩
def SYS_CAPS_NENG : Fld := ⟨19, 16⟩
def SYS_CAPS_SAFETY : Fld := ⟨7, 7⟩
def SYS_CAPS_ACT : Fld := ⟨6, 6⟩
def SYS_CAPS_GATES : Fld := ⟨5, 5⟩
def SYS_CAPS_AUXCONV : Fld := ⟨4, 4⟩
def SYS_CAPS_PAIRS : Fld := ⟨3, 3⟩
def SYS_CAPS_CHARGER : Fld := ⟨2, 2⟩
def SYS_CAPS_TRAC_B : Fld := ⟨1, 1⟩
def SYS_CAPS_TRAC_A : Fld := ⟨0, 0⟩
def SYS_SMPL_SRC : Fld := ⟨12, 12⟩
def SYS_SMPL_DIV : Fld := ⟨11, 8⟩
def SYS_SMPL_PERIOD : Fld := ⟨7, 0⟩
def SYS_CLKSTAT_LOCK_LOST : Fld := ⟨3, 3⟩
def SYS_CLKSTAT_XTAL_FAIL : Fld := ⟨2, 2⟩
def SYS_CLKSTAT_XTAL_OK : Fld := ⟨1, 1⟩
def SYS_CLKSTAT_PLL_LOCK : Fld := ⟨0, 0⟩
def SYS_STAT_SMPL_IGN : Fld := ⟨1, 1⟩
def SYS_STAT_SMPL_RANGE : Fld := ⟨0, 0⟩
def SYS_DBG_FREEZE : Fld := ⟨0, 0⟩
def MOD_MODE_PEND : Fld := ⟨16, 16⟩
def MOD_MODE_PREV : Fld := ⟨11, 8⟩
def MOD_MODE_TGT : Fld := ⟨7, 4⟩
def MOD_MODE_CUR : Fld := ⟨3, 0⟩
def MOD_REQ_TGT : Fld := ⟨3, 0⟩
def MOD_REQSTAT_DONE : Fld := ⟨31, 31⟩
def MOD_REQSTAT_ENG : Fld := ⟨22, 20⟩
def MOD_REQSTAT_SRC : Fld := ⟨18, 16⟩
def MOD_REQSTAT_TGT : Fld := ⟨15, 12⟩
def MOD_REQSTAT_GUARD : Fld := ⟨11, 8⟩
def MOD_REQSTAT_STATUS : Fld := ⟨7, 0⟩
def MOD_STAT_UNREC : Fld := ⟨4, 4⟩
def MOD_STAT_BOOTSEL_RSV : Fld := ⟨3, 3⟩
def MOD_STAT_RESET_IGN : Fld := ⟨2, 2⟩
def MOD_STAT_REDIRECT : Fld := ⟨1, 1⟩
def MOD_STAT_TRANS_TO : Fld := ⟨0, 0⟩
def MOD_DEG_UNIT : Fld := ⟨4, 4⟩
def MOD_DEG_FEEDBACK : Fld := ⟨3, 3⟩
def MOD_DEG_LEG_B : Fld := ⟨2, 2⟩
def MOD_DEG_LEG_A : Fld := ⟨1, 1⟩
def MOD_DEG_PARTNER : Fld := ⟨0, 0⟩
def MOD_CFG_LIMP_SEC : Fld := ⟨16, 16⟩
def MOD_CFG_TTO : Fld := ⟨15, 0⟩
def MOD_WAKECFG_CAN : Fld := ⟨15, 8⟩
def MOD_WAKECFG_PILOT : Fld := ⟨1, 1⟩
def MOD_WAKECFG_WAKE : Fld := ⟨0, 0⟩
def MOD_WAKESRC_CAN : Fld := ⟨15, 8⟩
def MOD_WAKESRC_PILOT : Fld := ⟨1, 1⟩
def MOD_WAKESRC_WAKE : Fld := ⟨0, 0⟩
def MOD_LOCKCAUSE_LATCHED : Fld := ⟨31, 31⟩
def MOD_LOCKCAUSE_ALL : Fld := ⟨25, 16⟩
def MOD_LOCKCAUSE_DETAIL : Fld := ⟨15, 8⟩
def MOD_LOCKCAUSE_CAUSE : Fld := ⟨7, 0⟩
def MOD_REFAPP_REFUSED : Fld := ⟨31, 31⟩
def MOD_REFAPP_CORE : Fld := ⟨28, 28⟩
def MOD_REFAPP_MODE : Fld := ⟨27, 24⟩
def MOD_REFAPP_BLOCK : Fld := ⟨20, 16⟩
def MOD_REFAPP_OFFSET : Fld := ⟨15, 0⟩
def MOD_REFCNT_COUNT : Fld := ⟨7, 0⟩
def SEQ_GO_STOP : Fld := ⟨15, 8⟩
def SEQ_GO_START : Fld := ⟨7, 0⟩
def SEQ_RUNSTAT_FAULT : Fld := ⟨23, 16⟩
def SEQ_RUNSTAT_SWAPPEND : Fld := ⟨15, 8⟩
def SEQ_RUNSTAT_ACTIVE : Fld := ⟨7, 0⟩
def SEQ_CTL_SWAPMODE : Fld := ⟨3, 3⟩
def SEQ_CTL_SWAP : Fld := ⟨2, 2⟩
def SEQ_CTL_STOP : Fld := ⟨1, 1⟩
def SEQ_CTL_START : Fld := ⟨0, 0⟩
def SEQ_STAT_FAULT : Fld := ⟨23, 20⟩
def SEQ_STAT_WAITKIND : Fld := ⟨19, 16⟩
def SEQ_STAT_STAGED : Fld := ⟨13, 8⟩
def SEQ_STAT_CDEPTH : Fld := ⟨6, 4⟩
def SEQ_STAT_STATE : Fld := ⟨2, 0⟩
def SEQ_ENTRY_ADDR : Fld := ⟨18, 2⟩
def SEQ_NEXT_ADDR : Fld := ⟨18, 2⟩
def SEQ_PC_ADDR : Fld := ⟨18, 2⟩
def SEQ_LAST_OPCODE : Fld := ⟨31, 26⟩
def SEQ_LAST_SIGVAL : Fld := ⟨23, 8⟩
def SEQ_LAST_STATUS : Fld := ⟨7, 0⟩
def SEQ_EXC_EXC : Fld := ⟨31, 31⟩
def SEQ_EXC_OPCODE : Fld := ⟨30, 25⟩
def SEQ_EXC_ADDR : Fld := ⟨24, 8⟩
def SEQ_EXC_STATUS : Fld := ⟨7, 0⟩
def SEQ_REF_REFUSED : Fld := ⟨31, 31⟩
def SEQ_REF_OPCODE : Fld := ⟨30, 25⟩
def SEQ_REF_ADDR : Fld := ⟨24, 8⟩
def SEQ_REF_MODE : Fld := ⟨7, 4⟩
def SEQ_CNT_NPCNT : Fld := ⟨31, 24⟩
def SEQ_CNT_TRANS : Fld := ⟨23, 16⟩
def SEQ_CNT_EXCCNT : Fld := ⟨15, 8⟩
def SEQ_CNT_REFCNT : Fld := ⟨7, 0⟩
def ACQ_STAT_QOVF : Fld := ⟨1, 1⟩
def ACQ_STAT_TRGOVR : Fld := ⟨0, 0⟩
def ACQ_QPOP_CH : Fld := ⟨23, 18⟩
def ACQ_QPOP_REJ : Fld := ⟨17, 17⟩
def ACQ_QPOP_RAW : Fld := ⟨11, 0⟩
def ACQ_QSTAT_WORDS : Fld := ⟨25, 16⟩
def ACQ_QSTAT_PKTS : Fld := ⟨8, 0⟩
def ACQ_QCTL_FLUSH : Fld := ⟨0, 0⟩
def ACQ_C_CFG_QPRI : Fld := ⟨31, 28⟩
def ACQ_C_CFG_QMASK : Fld := ⟨27, 22⟩
def ACQ_C_CFG_MASK : Fld := ⟨21, 16⟩
def ACQ_C_CFG_TRIG : Fld := ⟨7, 0⟩
def ACQ_C_SW_GO : Fld := ⟨0, 0⟩
def ACQ_C_STAT_OVRCNT : Fld := ⟨15, 8⟩
def ACQ_C_STAT_PEND : Fld := ⟨1, 1⟩
def ACQ_C_STAT_BUSY : Fld := ⟨0, 0⟩
def ACQ_CH_CFG_SUBPOL : Fld := ⟨12, 12⟩
def ACQ_CH_CFG_SHIFT : Fld := ⟨11, 8⟩
def ACQ_CH_CFG_AVGN : Fld := ⟨3, 0⟩
def ACQ_CH_WIN_MAX : Fld := ⟨27, 16⟩
def ACQ_CH_WIN_MIN : Fld := ⟨11, 0⟩
def ACQ_CH_RES_VALID : Fld := ⟨31, 31⟩
def ACQ_CH_RES_STALE : Fld := ⟨30, 30⟩
def ACQ_CH_RES_SUBST : Fld := ⟨29, 29⟩
def ACQ_CH_RES_VALUE : Fld := ⟨19, 0⟩
def ACQ_CH_ST_INVALID : Fld := ⟨31, 31⟩
def ACQ_CH_ST_TCLR : Fld := ⟨30, 30⟩
def ACQ_CH_ST_TRANS : Fld := ⟨23, 16⟩
def ACQ_CH_ST_LAST : Fld := ⟨11, 0⟩
def POS_STAT_EMULAG : Fld := ⟨3, 3⟩
def POS_STAT_PRBOVR : Fld := ⟨2, 2⟩
def POS_STAT_TRVFRZ : Fld := ⟨1, 1⟩
def POS_STAT_AXFAIL : Fld := ⟨0, 0⟩
def POS_INV_AX : Fld := ⟨10, 0⟩
def POS_STOP_AX : Fld := ⟨10, 0⟩
def POS_TRVSRC_SEL : Fld := ⟨20, 20⟩
def POS_TRVSRC_RFINV : Fld := ⟨19, 19⟩
def POS_TRVSRC_LFINV : Fld := ⟨18, 18⟩
def POS_TRVSRC_RPINV : Fld := ⟨17, 17⟩
def POS_TRVSRC_LPINV : Fld := ⟨16, 16⟩
def POS_TRVSRC_RFALL : Fld := ⟨15, 12⟩
def POS_TRVSRC_LFALL : Fld := ⟨11, 8⟩
def POS_TRVSRC_RPRIM : Fld := ⟨7, 4⟩
def POS_TRVSRC_LPRIM : Fld := ⟨3, 0⟩
def POS_TRVSTAT_RFRZ : Fld := ⟨2, 2⟩
def POS_TRVSTAT_LFRZ : Fld := ⟨1, 1⟩
def POS_TRVSTAT_SEL : Fld := ⟨0, 0⟩
def POS_MOT_CFG_INV : Fld := ⟨12, 12⟩
def POS_MOT_CFG_PP : Fld := ⟨11, 8⟩
def POS_MOT_CFG_RPP : Fld := ⟨5, 4⟩
def POS_MOT_CFG_SRC : Fld := ⟨1, 0⟩
def POS_AX_CFG_TMAX : Fld := ⟨31, 16⟩
def POS_AX_CFG_FILT : Fld := ⟨6, 0⟩
def POS_AX_ST_INVALID : Fld := ⟨31, 31⟩
def POS_AX_ST_TCLR : Fld := ⟨30, 30⟩
def POS_AX_ST_STOP : Fld := ⟨29, 29⟩
def POS_AX_ST_DIRCHG : Fld := ⟨28, 28⟩
def POS_AX_ST_TRANS : Fld := ⟨23, 16⟩
def POS_AX_ST_CAUSE : Fld := ⟨7, 0⟩
def POS_RES_CFG_AMAX : Fld := ⟨31, 20⟩
def POS_RES_CFG_AMIN : Fld := ⟨19, 8⟩
def POS_RES_CFG_TERR : Fld := ⟨7, 0⟩
def POS_RES_ST_AMP : Fld := ⟨27, 16⟩
def POS_RES_ST_TRKERR : Fld := ⟨15, 0⟩
def POS_ENC_CFG_INV : Fld := ⟨2, 2⟩
def POS_ENC_CFG_ZPOL : Fld := ⟨1, 1⟩
def POS_ENC_CFG_ZEN : Fld := ⟨0, 0⟩
def POS_HALL_CFG_INV : Fld := ⟨3, 3⟩
def POS_HALL_CFG_POL : Fld := ⟨2, 0⟩
def POS_SSI_CFG_PER : Fld := ⟨31, 24⟩
def POS_SSI_CFG_CDIV : Fld := ⟨23, 16⟩
def POS_SSI_CFG_MT : Fld := ⟨15, 11⟩
def POS_SSI_CFG_ST : Fld := ⟨10, 6⟩
def POS_SSI_CFG_GRAY : Fld := ⟨5, 5⟩
def POS_SSI_CFG_PAR : Fld := ⟨4, 4⟩
def POS_PRB_CFG_AXIS : Fld := ⟨23, 20⟩
def POS_PRB_CFG_TRV : Fld := ⟨17, 16⟩
def POS_PRB_CFG_EDGE : Fld := ⟨9, 8⟩
def POS_PRB_CFG_FILT : Fld := ⟨6, 0⟩
def POS_PRB_TAG_VALID : Fld := ⟨31, 31⟩
def POS_PRB_TAG_EDGE : Fld := ⟨30, 30⟩
def POS_PRB_TAG_OVR : Fld := ⟨29, 29⟩
def POS_PRB_TAG_FINE : Fld := ⟨7, 0⟩
def POS_EMU_CFG_ZCNT : Fld := ⟨31, 16⟩
def POS_EMU_CFG_MINSP : Fld := ⟨15, 8⟩
def POS_EMU_CFG_SRC : Fld := ⟨5, 4⟩
def POS_EMU_CFG_INV : Fld := ⟨3, 3⟩
def POS_EMU_CFG_MODE : Fld := ⟨2, 2⟩
def CLE_STAT_RTCLR : Fld := ⟨4, 4⟩
def CLE_STAT_CMDTO : Fld := ⟨3, 3⟩
def CLE_STAT_BLK : Fld := ⟨2, 2⟩
def CLE_STAT_VBLOW1 : Fld := ⟨1, 1⟩
def CLE_STAT_VBLOW0 : Fld := ⟨0, 0⟩
def CLE_RUNT_MAX : Fld := ⟨31, 16⟩
def CLE_RUNT_LAST : Fld := ⟨15, 0⟩
def CLE_VB_CFG_VBMIN : Fld := ⟨31, 12⟩
def CLE_VB_CFG_CH : Fld := ⟨5, 0⟩
def CLE_VB_NOM_VNOM : Fld := ⟨19, 0⟩
def CLE_CAP_EN : Fld := ⟨31, 31⟩
def CLE_CAP_REVS : Fld := ⟨23, 16⟩
def CLE_CAP_PAGE : Fld := ⟨15, 8⟩
def CLE_CAP_SLOT : Fld := ⟨5, 0⟩
def CLE_CAPST_DONE : Fld := ⟨31, 31⟩
def CLE_CAPST_ABORT : Fld := ⟨30, 30⟩
def CLE_CAPST_EMPTY : Fld := ⟨8, 0⟩
def CLE_CMD_CFG_FILT : Fld := ⟨14, 8⟩
def CLE_CMD_CFG_POL : Fld := ⟨2, 2⟩
def CLE_CMD_CFG_FORM : Fld := ⟨1, 0⟩
def CLE_CMD_VAL_TO : Fld := ⟨31, 31⟩
def CLE_CMD_VAL_RNG : Fld := ⟨30, 30⟩
def CLE_CMD_VAL_VALUE : Fld := ⟨23, 0⟩
def CLE_SL_CFG_HOLD : Fld := ⟨31, 16⟩
def CLE_SL_CFG_VBSEL : Fld := ⟨6, 6⟩
def CLE_SL_CFG_VFF : Fld := ⟨5, 5⟩
def CLE_SL_CFG_TFF : Fld := ⟨4, 4⟩
def CLE_SL_CFG_LAW : Fld := ⟨1, 0⟩
def CLE_SL_SRC_MIDX : Fld := ⟨29, 24⟩
def CLE_SL_SRC_MKIND : Fld := ⟨19, 16⟩
def CLE_SL_SRC_SPIDX : Fld := ⟨13, 8⟩
def CLE_SL_SRC_SPKIND : Fld := ⟨3, 0⟩
def CLE_SL_OSC_NCNT : Fld := ⟨31, 28⟩
def CLE_SL_OSC_ALTEN : Fld := ⟨27, 27⟩
def CLE_SL_OSC_WIN : Fld := ⟨23, 16⟩
def CLE_SL_FFT_AXIS : Fld := ⟨11, 8⟩
def CLE_SL_FFT_PAGE : Fld := ⟨7, 0⟩
def CLE_SL_DEST_EN : Fld := ⟨31, 31⟩
def CLE_SL_DEST_WID : Fld := ⟨30, 26⟩
def CLE_SL_DEST_LSB : Fld := ⟨25, 21⟩
def CLE_SL_DEST_BLK : Fld := ⟨20, 16⟩
def CLE_SL_DEST_OFS : Fld := ⟨15, 2⟩
def CLE_SL_CMD_ALTB : Fld := ⟨2, 2⟩
def CLE_SL_CMD_ALTA : Fld := ⟨1, 1⟩
def CLE_SL_CMD_RST : Fld := ⟨0, 0⟩
def CLE_SL_ST_SAT : Fld := ⟨31, 31⟩
def CLE_SL_ST_OSC : Fld := ⟨30, 30⟩
def CLE_SL_ST_ALT : Fld := ⟨29, 29⟩
def CLE_SL_ST_LIM : Fld := ⟨28, 28⟩
def CLE_SL_ST_BLK : Fld := ⟨27, 27⟩
def CLE_SL_ST_OSCCNT : Fld := ⟨11, 8⟩
def CLE_SL_ST_OPS : Fld := ⟨4, 0⟩
def WFU_STAT_CLEAR_REFUSED : Fld := ⟨2, 2⟩
def WFU_STAT_SUP : Fld := ⟨1, 1⟩
def WFU_STAT_TRIP : Fld := ⟨0, 0⟩
def WFU_TRIPST_LIVE : Fld := ⟨11, 8⟩
def WFU_TRIPST_LATCH : Fld := ⟨3, 0⟩
def WFU_TRIPCLR_CLR : Fld := ⟨3, 0⟩
def WFU_TBCTL_RUN : Fld := ⟨9, 0⟩
def WFU_TRIP_CFG_EN : Fld := ⟨31, 31⟩
def WFU_TRIP_CFG_POL : Fld := ⟨30, 30⟩
def WFU_TRIP_CFG_FILT : Fld := ⟨7, 0⟩
def WFU_TRIP_M0_LEGS : Fld := ⟨31, 0⟩
def WFU_TRIP_M1_LEGS : Fld := ⟨9, 0⟩
def WFU_TB_CFG_PRE : Fld := ⟨19, 16⟩
def WFU_TB_CFG_PERIOD : Fld := ⟨15, 0⟩
def WFU_TB_CNT_DPH : Fld := ⟨27, 24⟩
def WFU_TB_CNT_DOWN : Fld := ⟨16, 16⟩
def WFU_TB_CNT_COUNT : Fld := ⟨15, 0⟩
def WFU_LEG_CFG_TB : Fld := ⟨31, 28⟩
def WFU_LEG_CFG_DRV : Fld := ⟨27, 26⟩
def WFU_LEG_CFG_SAFE : Fld := ⟨25, 24⟩
def WFU_LEG_CFG_TD : Fld := ⟨23, 23⟩
def WFU_LEG_CFG_EN : Fld := ⟨22, 22⟩
def WFU_LEG_CFG_PHS : Fld := ⟨15, 0⟩
def WFU_LEG_DT_DTL : Fld := ⟨26, 16⟩
def WFU_LEG_DT_DTH : Fld := ⟨10, 0⟩
def WFU_LEG_PULSE_REFW : Fld := ⟨31, 23⟩
def WFU_LEG_PULSE_MINP : Fld := ⟨22, 14⟩
def WFU_LEG_PULSE_REFN : Fld := ⟨7, 0⟩
def WFU_LEG_CMPA_INT : Fld := ⟨19, 4⟩
def WFU_LEG_CMPA_FRAC : Fld := ⟨3, 0⟩
def WFU_LEG_CMPB_INT : Fld := ⟨19, 4⟩
def WFU_LEG_CMPB_FRAC : Fld := ⟨3, 0⟩
def WFU_LEG_ST_SUP : Fld := ⟨31, 31⟩
def WFU_LEG_ST_SCLR : Fld := ⟨30, 30⟩
def WFU_LEG_ST_TRIP : Fld := ⟨29, 29⟩
def WFU_LEG_ST_HOLD : Fld := ⟨28, 28⟩
def WFU_LEG_ST_HIZ : Fld := ⟨27, 27⟩
def WFU_LEG_ST_TDACT : Fld := ⟨26, 26⟩
def WFU_LEG_ST_SUPCNT : Fld := ⟨15, 8⟩
def WFU_LEG_ST_REFCNT : Fld := ⟨7, 0⟩
def WFU_LEG_SWC_HIGH : Fld := ⟨31, 16⟩
def WFU_LEG_SWC_LOW : Fld := ⟨15, 0⟩
def TDU_CFG_DK : Fld := ⟨12, 8⟩
def TDU_CFG_MODEN : Fld := ⟨4, 4⟩
def TDU_CFG_SOLO : Fld := ⟨3, 3⟩
def TDU_CFG_SETS : Fld := ⟨2, 1⟩
def TDU_CFG_EN : Fld := ⟨0, 0⟩
def TDU_ISEL0_IS3 : Fld := ⟨29, 24⟩
def TDU_ISEL0_IS2 : Fld := ⟨21, 16⟩
def TDU_ISEL0_IS1 : Fld := ⟨13, 8⟩
def TDU_ISEL0_IS0 : Fld := ⟨5, 0⟩
def TDU_ISEL1_VB : Fld := ⟨21, 16⟩
def TDU_ISEL1_IS5 : Fld := ⟨13, 8⟩
def TDU_ISEL1_IS4 : Fld := ⟨5, 0⟩
def TDU_TIM_TSTART : Fld := ⟨10, 0⟩
def TDU_ICAL_GAIN : Fld := ⟨31, 16⟩
def TDU_ICAL_OFS : Fld := ⟨11, 0⟩
def TDU_VBCAL_VBGAIN : Fld := ⟨31, 16⟩
def TDU_RS_RS : Fld := ⟨15, 0⟩
def TDU_LDQ_LQ : Fld := ⟨31, 16⟩
def TDU_LDQ_LD : Fld := ⟨15, 0⟩
def TDU_PSIPM_PSIPM : Fld := ⟨15, 0⟩
def TDU_ANG_SOFS : Fld := ⟨15, 0⟩
def TDU_BAND_FB : Fld := ⟨31, 16⟩
def TDU_BAND_TB : Fld := ⟨15, 0⟩
def TDU_TREF_TREF : Fld := ⟨15, 0⟩
def TDU_FREF_FREF : Fld := ⟨15, 0⟩
def TDU_TLIM_TGT : Fld := ⟨15, 0⟩
def TDU_TLIM_RAMP : Fld := ⟨15, 0⟩
def TDU_TRAMP_TGT : Fld := ⟨15, 0⟩
def TDU_TRAMP_RAMP : Fld := ⟨15, 0⟩
def TDU_RATED_RATED : Fld := ⟨15, 0⟩
def TDU_HOV_HHI : Fld := ⟨25, 16⟩
def TDU_HOV_HLO : Fld := ⟨9, 0⟩
def TDU_HSL_EN : Fld := ⟨31, 31⟩
def TDU_HSL_SQ2 : Fld := ⟨29, 24⟩
def TDU_HSL_SD2 : Fld := ⟨21, 16⟩
def TDU_HSL_SQ1 : Fld := ⟨13, 8⟩
def TDU_HSL_SD1 : Fld := ⟨5, 0⟩
def TDU_IDREF_IDREF : Fld := ⟨15, 0⟩
def TDU_TBASE_TBASE : Fld := ⟨15, 0⟩
def TDU_FSW_TLIM : Fld := ⟨7, 0⟩
def TDU_STATE_DWELL : Fld := ⟨31, 24⟩
def TDU_STATE_SCALE : Fld := ⟨21, 20⟩
def TDU_STATE_TABLE : Fld := ⟨18, 16⟩
def TDU_STATE_SECTOR : Fld := ⟨15, 12⟩
def TDU_STATE_CT : Fld := ⟨11, 10⟩
def TDU_STATE_CPSI : Fld := ⟨9, 9⟩
def TDU_STATE_HIZ : Fld := ⟨7, 2⟩
def TDU_STATE_OP : Fld := ⟨1, 0⟩
def TDU_ST_INV : Fld := ⟨31, 31⟩
def TDU_ST_STALE : Fld := ⟨30, 30⟩
def TDU_ST_MULTI : Fld := ⟨29, 29⟩
def TDU_ST_XMISS : Fld := ⟨28, 28⟩
def TDU_ST_SCALED : Fld := ⟨27, 27⟩
def TDU_ST_CCLR : Fld := ⟨26, 26⟩
def TDU_CNT_STALECNT : Fld := ⟨31, 24⟩
def TDU_CNT_XMISSCNT : Fld := ⟨23, 16⟩
def TDU_CNT_TABCHG : Fld := ⟨15, 8⟩
def TDU_CNT_TRANS : Fld := ⟨7, 0⟩
def TDU_PSI_PSB : Fld := ⟨31, 16⟩
def TDU_PSI_PSA : Fld := ⟨15, 0⟩
def TDU_TQ_ELIM : Fld := ⟨31, 16⟩
def TDU_TQ_T : Fld := ⟨15, 0⟩
def GDP_STAT_CLR_ACTIVE : Fld := ⟨5, 5⟩
def GDP_STAT_SUPPLY_DIP : Fld := ⟨4, 4⟩
def GDP_STAT_SHOOT_CMD : Fld := ⟨3, 3⟩
def GDP_STAT_STAGE : Fld := ⟨2, 2⟩
def GDP_STAT_LASTING : Fld := ⟨1, 1⟩
def GDP_STAT_FAULT : Fld := ⟨0, 0⟩
def GDP_STGST_ASC : Fld := ⟨17, 16⟩
def GDP_STGST_SAFE : Fld := ⟨9, 0⟩
def GDP_CLR_LEG : Fld := ⟨5, 0⟩
def GDP_CLRST_LEG : Fld := ⟨13, 8⟩
def GDP_CLRST_STATUS : Fld := ⟨7, 0⟩
def GDP_RETRY_COOL : Fld := ⟨7, 0⟩
def GDP_XCFG_ENBLANK : Fld := ⟨15, 8⟩
def GDP_XCFG_FILT : Fld := ⟨7, 0⟩
def GDP_XEN_PAD : Fld := ⟨11, 8⟩
def GDP_XEN_CMD : Fld := ⟨3, 0⟩
def GDP_SUPPLY_DIPCNT : Fld := ⟨15, 8⟩
def GDP_SUPPLY_VDRV_OK : Fld := ⟨1, 1⟩
def GDP_SUPPLY_VCP_OK : Fld := ⟨0, 0⟩
def GDP_TRC_ASC_EN : Fld := ⟨31, 31⟩
def GDP_TRC_ASC_INV : Fld := ⟨30, 30⟩
def GDP_TRC_ASC_HI : Fld := ⟨27, 16⟩
def GDP_TRC_ASC_LO : Fld := ⟨11, 0⟩
def GDP_DRV_CFG_DSEN : Fld := ⟨31, 31⟩
def GDP_DRV_CFG_DSTH : Fld := ⟨13, 8⟩
def GDP_DRV_CFG_BLANK : Fld := ⟨6, 0⟩
def GDP_OC_CFG_EN : Fld := ⟨31, 31⟩
def GDP_OC_CFG_OCTH : Fld := ⟨7, 0⟩
def GDP_LEG_ST_FAULT : Fld := ⟨31, 31⟩
def GDP_LEG_ST_TCLR : Fld := ⟨30, 30⟩
def GDP_LEG_ST_SHOOT : Fld := ⟨29, 29⟩
def GDP_LEG_ST_LASTING : Fld := ⟨28, 28⟩
def GDP_LEG_ST_COOL : Fld := ⟨27, 27⟩
def GDP_LEG_ST_WATCH : Fld := ⟨26, 26⟩
def GDP_LEG_ST_STAGE : Fld := ⟨25, 25⟩
def GDP_LEG_ST_ASC : Fld := ⟨24, 24⟩
def GDP_LEG_ST_TRANS : Fld := ⟨23, 16⟩
def GDP_LEG_ST_STATUS : Fld := ⟨15, 8⟩
def GDP_LEG_ST_CAUSE : Fld := ⟨3, 0⟩
def ACT_STAT_NUDGE_IGN : Fld := ⟨3, 3⟩
def ACT_STAT_SSHOLD : Fld := ⟨2, 2⟩
def ACT_STAT_PARKREF : Fld := ⟨1, 1⟩
def ACT_STAT_LOCK : Fld := ⟨0, 0⟩
def ACT_SS_TSET : Fld := ⟨25, 16⟩
def ACT_SS_TW : Fld := ⟨9, 0⟩
def ACT_SYNC_EN : Fld := ⟨31, 31⟩
def ACT_SYNC_SLOTB : Fld := ⟨29, 24⟩
def ACT_SYNC_SLOTA : Fld := ⟨21, 16⟩
def ACT_SYNC_SCNT : Fld := ⟨15, 8⟩
def ACT_SYNC_SWIN : Fld := ⟨7, 0⟩
def ACT_PARKST_VALID : Fld := ⟨2, 2⟩
def ACT_PARKST_REL : Fld := ⟨1, 1⟩
def ACT_PARKST_ENG : Fld := ⟨0, 0⟩
def ACT_SYNCST_NUDB : Fld := ⟨17, 17⟩
def ACT_SYNCST_NUDA : Fld := ⟨16, 16⟩
def ACT_SYNCST_CNT : Fld := ⟨7, 0⟩
def ACT_CMD_P_AN_MAX : Fld := ⟨27, 16⟩
def ACT_CMD_P_AN_MIN : Fld := ⟨11, 0⟩
def ACT_CMD_P_AV_INVALID : Fld := ⟨31, 31⟩
def ACT_CMD_P_AV_TRANS : Fld := ⟨23, 16⟩
def ACT_CMD_P_AV_VALUE : Fld := ⟨15, 0⟩
def ACT_D_CFG_PAR : Fld := ⟨31, 16⟩
def ACT_D_CFG_COST : Fld := ⟨15, 8⟩
def ACT_D_CFG_EVEN : Fld := ⟨7, 7⟩
def ACT_D_CFG_DEG : Fld := ⟨6, 6⟩
def ACT_D_CFG_AUTO : Fld := ⟨5, 5⟩
def ACT_D_CFG_DIRP : Fld := ⟨4, 4⟩
def ACT_D_CFG_ANG : Fld := ⟨2, 0⟩
def ACT_D_ICH_PCH : Fld := ⟨29, 24⟩
def ACT_D_ICH_ICH2 : Fld := ⟨21, 16⟩
def ACT_D_ICH_ICH1 : Fld := ⟨13, 8⟩
def ACT_D_ICH_ICH0 : Fld := ⟨5, 0⟩
def ACT_D_CMD_OP : Fld := ⟨31, 30⟩
def ACT_D_CMD_SRC : Fld := ⟨9, 9⟩
def ACT_D_CMD_PAD : Fld := ⟨5, 4⟩
def ACT_D_CMD_TGT : Fld := ⟨2, 0⟩
def ACT_D_ST_LOCK : Fld := ⟨31, 31⟩
def ACT_D_ST_LASTING : Fld := ⟨30, 30⟩
def ACT_D_ST_PAUSE : Fld := ⟨29, 29⟩
def ACT_D_ST_TCLR : Fld := ⟨28, 28⟩
def ACT_D_ST_STATE : Fld := ⟨26, 24⟩
def ACT_D_ST_TRANS : Fld := ⟨23, 16⟩
def ACT_D_ST_HOLDCNT : Fld := ⟨15, 8⟩
def ACT_D_ST_STATUS : Fld := ⟨7, 0⟩
def ACT_D_POS_VALID : Fld := ⟨31, 31⟩
def ACT_D_POS_IN : Fld := ⟨30, 30⟩
def ACT_D_POS_CODE : Fld := ⟨11, 0⟩
def ACT_D_ANG_PROBE : Fld := ⟨31, 16⟩
def ACT_D_ANG_EANG : Fld := ⟨15, 0⟩
def ENP_STAT_NOBAT : Fld := ⟨5, 5⟩
def ENP_STAT_BATRM : Fld := ⟨4, 4⟩
def ENP_STAT_REPLUG : Fld := ⟨3, 3⟩
def ENP_STAT_VENT : Fld := ⟨2, 2⟩
def ENP_STAT_DIGCOM : Fld := ⟨1, 1⟩
def ENP_STAT_RETRY : Fld := ⟨0, 0⟩
def ENP_STATE_SAFE : Fld := ⟨31, 31⟩
def ENP_STATE_STATUS : Fld := ⟨27, 24⟩
def ENP_STATE_SESS : Fld := ⟨23, 16⟩
def ENP_STATE_CAUSE : Fld := ⟨15, 12⟩
def ENP_STATE_STATE : Fld := ⟨11, 8⟩
def ENP_STATE_CMDST : Fld := ⟨7, 0⟩
def ENP_CMD_OP : Fld := ⟨1, 0⟩
def ENP_CFG_MQUAL : Fld := ⟨23, 16⟩
def ENP_CFG_QUAL : Fld := ⟨15, 8⟩
def ENP_CFG_PFILT : Fld := ⟨7, 4⟩
def ENP_CFG_F60 : Fld := ⟨3, 3⟩
def ENP_CFG_EXTOOL : Fld := ⟨2, 2⟩
def ENP_CFG_BHOLD : Fld := ⟨1, 1⟩
def ENP_SRCTAB_SOCK : Fld := ⟨31, 16⟩
def ENP_SRCTAB_TBASE : Fld := ⟨15, 0⟩
def ENP_SRCST_TYPE : Fld := ⟨31, 24⟩
def ENP_SRCST_PH : Fld := ⟨21, 20⟩
def ENP_SRCST_PX : Fld := ⟨18, 16⟩
def ENP_SRCST_PL : Fld := ⟨13, 12⟩
def ENP_SRCST_PWM : Fld := ⟨11, 11⟩
def ENP_SRCST_PSTATE : Fld := ⟨10, 8⟩
def ENP_SRCST_CONN : Fld := ⟨0, 0⟩
def ENP_LIM0_CABLE : Fld := ⟨31, 16⟩
def ENP_LIM0_PILOT : Fld := ⟨15, 0⟩
def ENP_LIM1_ILIM : Fld := ⟨31, 16⟩
def ENP_LIM1_IREF : Fld := ⟨15, 0⟩
def ENP_PLTST_DUTY : Fld := ⟨25, 16⟩
def ENP_PLTST_PPOS : Fld := ⟨15, 8⟩
def ENP_PLTST_PNEG : Fld := ⟨7, 0⟩
def ENP_PROX_RES : Fld := ⟨15, 0⟩
def ENP_MAINS_ICOL : Fld := ⟨31, 24⟩
def ENP_MAINS_ICT : Fld := ⟨23, 16⟩
def ENP_MAINS_VMIN : Fld := ⟨15, 0⟩
def ENP_MAINSST_PRES : Fld := ⟨30, 28⟩
def ENP_MAINSST_FREQ : Fld := ⟨27, 16⟩
def ENP_MAINSST_PEAK : Fld := ⟨15, 0⟩
def ENP_ICH_IC2 : Fld := ⟨21, 16⟩
def ENP_ICH_IC1 : Fld := ⟨13, 8⟩
def ENP_ICH_IC0 : Fld := ⟨5, 0⟩
def ENP_ICAL_GAIN : Fld := ⟨31, 16⟩
def ENP_ICAL_OFS : Fld := ⟨11, 0⟩
def ENP_SLOT0_K : Fld := ⟨31, 24⟩
def ENP_SLOT0_H : Fld := ⟨23, 16⟩
def ENP_SLOT0_B : Fld := ⟨15, 8⟩
def ENP_SLOT0_I : Fld := ⟨7, 0⟩
def ENP_SLOT1_X : Fld := ⟨7, 0⟩
def ENP_TB_TBD : Fld := ⟨7, 4⟩
def ENP_TB_TBR : Fld := ⟨3, 0⟩
def ENP_LINK_PREK : Fld := ⟨31, 24⟩
def ENP_LINK_LCH : Fld := ⟨21, 16⟩
def ENP_LINK_VSET : Fld := ⟨15, 0⟩
def ENP_LGAIN_GAIN : Fld := ⟨15, 0⟩
def ENP_BUS_DV : Fld := ⟨31, 20⟩
def ENP_BUS_WIN : Fld := ⟨15, 8⟩
def ENP_BUS_CH : Fld := ⟨5, 0⟩
def ENP_BHOLD_DLY : Fld := ⟨31, 24⟩
def ENP_BHOLD_VSET : Fld := ⟨19, 0⟩
def ENP_RLY_FBEN : Fld := ⟨31, 31⟩
def ENP_RLY_FBPOL : Fld := ⟨30, 30⟩
def ENP_RLY_FB : Fld := ⟨19, 16⟩
def ENP_RLY_TRLY : Fld := ⟨15, 8⟩
def ENP_RLY_OUT : Fld := ⟨3, 0⟩
def ENP_HINGE_PZT : Fld := ⟨23, 16⟩
def ENP_HINGE_HOLD : Fld := ⟨15, 0⟩
def ENP_BMSCFG_TO : Fld := ⟨31, 16⟩
def ENP_BMSCFG_SAFE : Fld := ⟨15, 0⟩
def ENP_BMSLIM_ICHG : Fld := ⟨15, 0⟩
def ENP_BMSIN_FULL : Fld := ⟨6, 6⟩
def ENP_BMSIN_FAULT : Fld := ⟨5, 5⟩
def ENP_BMSIN_CONT : Fld := ⟨4, 4⟩
def ENP_BMSIN_SEQ : Fld := ⟨3, 0⟩
def ENP_BMSST_STATE : Fld := ⟨31, 30⟩
def ENP_BMSST_CONT : Fld := ⟨29, 29⟩
def ENP_BMSST_FULL : Fld := ⟨28, 28⟩
def ENP_BMSST_FAULT : Fld := ⟨27, 27⟩
def ENP_BMSST_TRANS : Fld := ⟨23, 16⟩
def ENP_BMSST_DUPCNT : Fld := ⟨15, 8⟩
def ENP_BMSST_OOSCNT : Fld := ⟨7, 0⟩
def ENP_EXP_VPK : Fld := ⟨31, 16⟩
def ENP_EXP_LIM : Fld := ⟨15, 0⟩
def ENP_EXPST_DUTY : Fld := ⟨25, 16⟩
def ENP_EXPST_IOUT : Fld := ⟨15, 0⟩
def ENP_SBCFG_EN : Fld := ⟨31, 31⟩
def ENP_SBCFG_CAP : Fld := ⟨30, 16⟩
def ENP_SBCFG_CBASE : Fld := ⟨15, 0⟩
def ENP_SBTOK_INT : Fld := ⟨22, 8⟩
def ENP_SBTOK_FRAC : Fld := ⟨7, 0⟩
def ENP_SBQ_HEAD : Fld := ⟨20, 16⟩
def ENP_SBQ_WAIT : Fld := ⟨11, 0⟩
def ENP_SBST_TO : Fld := ⟨31, 31⟩
def ENP_SBST_OOR : Fld := ⟨30, 30⟩
def ENP_SBST_TOCNT : Fld := ⟨15, 8⟩
def ENP_SBFW_REQ_CAN : Fld := ⟨31, 31⟩
def ENP_SBFW_REQ_CLS : Fld := ⟨3, 0⟩
def ENP_SBFW_RES_VALID : Fld := ⟨31, 31⟩
def ENP_SBFW_RES_CLS : Fld := ⟨11, 8⟩
def ENP_SBFW_RES_STATUS : Fld := ⟨7, 0⟩
def AUX_STAT_TRIMLIM : Fld := ⟨3, 3⟩
def AUX_STAT_PHLOST : Fld := ⟨2, 2⟩
def AUX_STAT_STEP : Fld := ⟨1, 1⟩
def AUX_STAT_ABORT : Fld := ⟨0, 0⟩
def AUX_CTL_OP : Fld := ⟨1, 0⟩
def AUX_STATE_STATE : Fld := ⟨31, 28⟩
def AUX_STATE_N : Fld := ⟨27, 24⟩
def AUX_STATE_HOLDOFF : Fld := ⟨23, 23⟩
def AUX_STATE_PAUSE : Fld := ⟨22, 22⟩
def AUX_STATE_RAMP : Fld := ⟨21, 20⟩
def AUX_STATE_STATUS : Fld := ⟨7, 0⟩
def AUX_CFG_TB : Fld := ⟨31, 28⟩
def AUX_CFG_SLOTV : Fld := ⟨21, 16⟩
def AUX_CFG_COST : Fld := ⟨15, 8⟩
def AUX_VSET_VSET : Fld := ⟨15, 0⟩
def AUX_RATE_RATE : Fld := ⟨9, 0⟩
def AUX_LL_RLL : Fld := ⟨9, 0⟩
def AUX_PHC_TBASE : Fld := ⟨31, 16⟩
def AUX_PHC_HOLD : Fld := ⟨15, 8⟩
def AUX_PHC_NMAX : Fld := ⟨7, 4⟩
def AUX_PHC_NMIN : Fld := ⟨3, 0⟩
def AUX_STEP_DV : Fld := ⟨31, 16⟩
def AUX_STEP_DI : Fld := ⟨15, 0⟩
def AUX_VCH_VGAIN : Fld := ⟨31, 16⟩
def AUX_VCH_CH : Fld := ⟨5, 0⟩
def AUX_IGAIN_IGAIN : Fld := ⟨31, 16⟩
def AUX_DUTY_DUTY : Fld := ⟨15, 0⟩
def AUX_VREF_VT : Fld := ⟨31, 16⟩
def AUX_VREF_VREF : Fld := ⟨15, 0⟩
def AUX_IOUT_IOUT : Fld := ⟨15, 0⟩
def AUX_PH_OFS : Fld := ⟨27, 16⟩
def AUX_PH_CH : Fld := ⟨5, 0⟩
def AUX_TRIM_ACTIVE : Fld := ⟨31, 31⟩
def AUX_TRIM_AVAIL : Fld := ⟨30, 30⟩
def AUX_TRIM_SHARE : Fld := ⟨20, 16⟩
def AUX_TRIM_TRIM : Fld := ⟨15, 0⟩
def AUX_CNT_ABORTS : Fld := ⟨31, 24⟩
def AUX_CNT_STEPS : Fld := ⟨23, 16⟩
def AUX_CNT_ADDS : Fld := ⟨15, 8⟩
def AUX_CNT_SHEDS : Fld := ⟨7, 0⟩
def SYS_THCFG_EN : Fld := ⟨31, 31⟩
def SYS_THCFG_PBASE : Fld := ⟨15, 0⟩
def SYS_THNTC_NTB1 : Fld := ⟨31, 16⟩
def SYS_THNTC_NTB0 : Fld := ⟨15, 0⟩
def SYS_THHYS_TSUB : Fld := ⟨31, 16⟩
def SYS_THHYS_HYS : Fld := ⟨7, 0⟩
def SYS_THSTAT_REFINV : Fld := ⟨6, 6⟩
def SYS_THSTAT_MODT : Fld := ⟨5, 5⟩
def SYS_THSTAT_MODW : Fld := ⟨4, 4⟩
def SYS_THSTAT_WINDT : Fld := ⟨3, 3⟩
def SYS_THSTAT_WINDW : Fld := ⟨2, 2⟩
def SYS_THSTAT_LEGT : Fld := ⟨1, 1⟩
def SYS_THSTAT_LEGW : Fld := ⟨0, 0⟩
def SYS_THTHR_LEVEL : Fld := ⟨1, 0⟩
def SYS_THHOT_T : Fld := ⟨31, 16⟩
def SYS_THHOT_LEG : Fld := ⟨5, 0⟩
def SYS_THDER0_FB : Fld := ⟨31, 16⟩
def SYS_THDER0_FA : Fld := ⟨15, 0⟩
def SYS_THDER1_D3 : Fld := ⟨31, 24⟩
def SYS_THDER1_D2 : Fld := ⟨23, 16⟩
def SYS_THDER1_D1 : Fld := ⟨15, 8⟩
def SYS_THDER1_D0 : Fld := ⟨7, 0⟩
def SYS_THDER2_NCH : Fld := ⟨23, 16⟩
def SYS_THDER2_NAUX : Fld := ⟨15, 8⟩
def SYS_THDER2_D4 : Fld := ⟨7, 0⟩
def SYS_THN_P : Fld := ⟨31, 16⟩
def SYS_THN_T : Fld := ⟨15, 0⟩
def GTE_STAT_CCLR : Fld := ⟨7, 7⟩
def GTE_STAT_UNK : Fld := ⟨6, 6⟩
def GTE_STAT_QOVF : Fld := ⟨5, 5⟩
def GTE_STAT_SKEW : Fld := ⟨4, 4⟩
def GTE_STAT_NFAIL : Fld := ⟨2, 2⟩
def GTE_STAT_RETRY : Fld := ⟨1, 1⟩
def GTE_STAT_LATE : Fld := ⟨0, 0⟩
def GTE_CFG_VMIN : Fld := ⟨31, 24⟩
def GTE_NETCFG_IDBASE : Fld := ⟨28, 16⟩
def GTE_NETCFG_FD : Fld := ⟨8, 8⟩
def GTE_NETCFG_CHMASK : Fld := ⟨7, 0⟩
def GTE_NETTIM_AWIN : Fld := ⟨31, 24⟩
def GTE_NETTIM_CTO : Fld := ⟨23, 16⟩
def GTE_NETTIM_DTO : Fld := ⟨15, 8⟩
def GTE_NETTIM_LEAD : Fld := ⟨7, 0⟩
def GTE_REARM_REARM : Fld := ⟨15, 0⟩
def GTE_OUTPOL_SEC : Fld := ⟨15, 0⟩
def GTE_OUT_SEC : Fld := ⟨15, 0⟩
def GTE_CTL_FLUSH : Fld := ⟨31, 31⟩
def GTE_CTL_SEC : Fld := ⟨7, 0⟩
def GTE_ACMD_REL : Fld := ⟨8, 8⟩
def GTE_ACMD_SEC : Fld := ⟨7, 0⟩
def GTE_ASTAT_SEC : Fld := ⟨15, 8⟩
def GTE_ASTAT_STATUS : Fld := ⟨7, 0⟩
def GTE_TEST_RUN : Fld := ⟨31, 31⟩
def GTE_TEST_SPD : Fld := ⟨15, 0⟩
def GTE_QPOP_PAYLOAD : Fld := ⟨23, 0⟩
def GTE_QSTAT_WORDS : Fld := ⟨24, 16⟩
def GTE_QSTAT_PKTS : Fld := ⟨7, 0⟩
def GTE_QCTL_FLUSH : Fld := ⟨0, 0⟩
def GTE_CNT_LATECNT : Fld := ⟨31, 24⟩
def GTE_CNT_RETRYCNT : Fld := ⟨23, 16⟩
def GTE_CNT_FAILCNT : Fld := ⟨15, 8⟩
def GTE_CNT_DUPCNT : Fld := ⟨7, 0⟩
def GTE_SEC_CFG_EN : Fld := ⟨31, 31⟩
def GTE_SEC_CFG_TEST : Fld := ⟨30, 30⟩
def GTE_SEC_CFG_TGT : Fld := ⟨29, 28⟩
def GTE_SEC_CFG_OUT : Fld := ⟨27, 24⟩
def GTE_SEC_CFG_DLY : Fld := ⟨14, 0⟩
def GTE_SEC_K_K : Fld := ⟨31, 0⟩
def GTE_SEC_NODE_CH : Fld := ⟨26, 24⟩
def GTE_SEC_NODE_ADDR : Fld := ⟨23, 16⟩
def GTE_SEC_NODE_OUT : Fld := ⟨7, 0⟩
def GTE_SEC_CRS_LEN : Fld := ⟨31, 16⟩
def GTE_SEC_CRS_BASE : Fld := ⟨14, 0⟩
def GTE_SEC_PTR_COUNT : Fld := ⟨31, 16⟩
def GTE_SEC_PTR_HEAD : Fld := ⟨14, 0⟩
def GTE_SEC_ST_LATE : Fld := ⟨31, 31⟩
def GTE_SEC_ST_NFAIL : Fld := ⟨30, 30⟩
def GTE_SEC_ST_RETRY : Fld := ⟨29, 29⟩
def GTE_SEC_ST_SKEW : Fld := ⟨28, 28⟩
def GTE_SEC_ST_NVALID : Fld := ⟨27, 27⟩
def GTE_SEC_ST_HELD : Fld := ⟨26, 26⟩
def GTE_SEC_ST_ARM : Fld := ⟨25, 24⟩
def GTE_SEC_ST_SEQ : Fld := ⟨23, 16⟩
def GTE_SEC_ST_CONF : Fld := ⟨15, 8⟩
def GTE_SEC_ST_CMD : Fld := ⟨7, 0⟩
def NET_STAT_TMCONF : Fld := ⟨5, 5⟩
def NET_STAT_TMTAKE : Fld := ⟨4, 4⟩
def NET_STAT_REFMISS : Fld := ⟨3, 3⟩
def NET_STAT_TXQOVF : Fld := ⟨2, 2⟩
def NET_STAT_RXQOVF : Fld := ⟨1, 1⟩
def NET_STAT_BUSOFF : Fld := ⟨0, 0⟩
def NET_TM_ROLE : Fld := ⟨31, 30⟩
def NET_TM_PRIO : Fld := ⟨26, 24⟩
def NET_TM_RPER : Fld := ⟨23, 16⟩
def NET_TM_ID : Fld := ⟨15, 8⟩
def NET_TM_CHMASK : Fld := ⟨7, 0⟩
def NET_TMST_ACT : Fld := ⟨31, 31⟩
def NET_TMST_CYCLE : Fld := ⟨13, 8⟩
def NET_TMST_REFMISS : Fld := ⟨7, 0⟩
def NET_RXQ_PAYLOAD : Fld := ⟨23, 0⟩
def NET_RXQST_WORDS : Fld := ⟨27, 16⟩
def NET_RXQST_PKTS : Fld := ⟨9, 0⟩
def NET_RXQCTL_FLUSH : Fld := ⟨0, 0⟩
def NET_CH_CFG_EN : Fld := ⟨31, 31⟩
def NET_CH_CFG_LOM : Fld := ⟨30, 30⟩
def NET_CH_CFG_FDE : Fld := ⟨29, 29⟩
def NET_CH_CFG_PXE : Fld := ⟨28, 28⟩
def NET_CH_CFG_ORDER : Fld := ⟨27, 27⟩
def NET_CH_CFG_AUTOREC : Fld := ⟨26, 26⟩
def NET_CH_CFG_NOMATCH : Fld := ⟨25, 25⟩
def NET_CH_DBT_TDC : Fld := ⟨31, 31⟩
def NET_CH_DBT_TDCO : Fld := ⟨30, 24⟩
def NET_CH_ST_BUSOFF : Fld := ⟨31, 31⟩
def NET_CH_ST_PASSIVE : Fld := ⟨30, 30⟩
def NET_CH_ST_REC : Fld := ⟨23, 16⟩
def NET_CH_ST_TEC : Fld := ⟨8, 0⟩
def NET_CH_FLG_BUSOFF : Fld := ⟨3, 3⟩
def NET_CH_FLG_PASSIVE : Fld := ⟨2, 2⟩
def NET_CH_FLG_TXQOVF : Fld := ⟨1, 1⟩
def NET_CH_FLG_PXEV : Fld := ⟨0, 0⟩
def NET_CH_TXQ_WORD : Fld := ⟨31, 0⟩
def NET_CH_TXQST_WORDS : Fld := ⟨24, 16⟩
def NET_CH_TXQST_PKTS : Fld := ⟨7, 0⟩
def NET_CH_TXCTL_REC : Fld := ⟨8, 8⟩
def NET_CH_TXCTL_FLUSH : Fld := ⟨4, 4⟩
def NET_CH_TXCTL_CAN : Fld := ⟨2, 0⟩
def NET_CH_TB_STATE : Fld := ⟨31, 30⟩
def NET_CH_TB_IDE : Fld := ⟨29, 29⟩
def NET_CH_TB_ID : Fld := ⟨28, 0⟩
def NET_CH_CNT_CANCNT : Fld := ⟨31, 24⟩
def NET_CH_CNT_ABORTCNT : Fld := ⟨23, 16⟩
def NET_CH_CNT_BOCNT : Fld := ⟨7, 0⟩
def NET_CH_REFT_T : Fld := ⟨31, 0⟩
def NET_FLT_ID_PRI : Fld := ⟨31, 30⟩
def NET_FLT_ID_IDE : Fld := ⟨29, 29⟩
def NET_FLT_ID_ID : Fld := ⟨28, 0⟩
def NET_FLT_MSK_TGT : Fld := ⟨31, 30⟩
def NET_FLT_MSK_MASK : Fld := ⟨28, 0⟩
def NET_ETH_CFG_EN : Fld := ⟨31, 31⟩
def NET_ETH_CFG_ROLE : Fld := ⟨30, 30⟩
def NET_ETH_CFG_SPEED : Fld := ⟨29, 28⟩
def NET_ETH_CFG_PROM : Fld := ⟨27, 27⟩
def NET_ETH_CFG_MCAST : Fld := ⟨26, 26⟩
def NET_ETH_ST_LINK : Fld := ⟨31, 31⟩
def NET_ETH_ST_SPD100 : Fld := ⟨30, 30⟩
def NET_ETH_CTL_TXGO : Fld := ⟨0, 0⟩
def NET_ETH_RXR_LEN : Fld := ⟨31, 20⟩
def NET_ETH_RXR_BASE : Fld := ⟨19, 3⟩
def NET_ETH_TXR_LEN : Fld := ⟨31, 20⟩
def NET_ETH_TXR_BASE : Fld := ⟨19, 3⟩
def NET_ETH_IDX_TXNEXT : Fld := ⟨27, 16⟩
def NET_ETH_IDX_RXNEXT : Fld := ⟨11, 0⟩
def NET_ETH_MAC0_ADDR : Fld := ⟨31, 0⟩
def NET_ETH_MAC1_ADDR : Fld := ⟨15, 0⟩
def NET_ETH_TSUS_US : Fld := ⟨31, 0⟩
def NET_ETH_TSTAG_VALID : Fld := ⟨31, 31⟩
def NET_ETH_TSTAG_DIR : Fld := ⟨30, 30⟩
def NET_ETH_TSTAG_OVR : Fld := ⟨29, 29⟩
def NET_ETH_TSTAG_NS : Fld := ⟨25, 16⟩
def NET_ETH_TSTAG_SEQ : Fld := ⟨15, 0⟩
def NET_ETH_CNT_RXDROP : Fld := ⟨31, 16⟩
def NET_ETH_CNT_RXERR : Fld := ⟨15, 0⟩
def CNV_STAT_TAKEOVER : Fld := ⟨5, 5⟩
def CNV_STAT_GDROP : Fld := ⟨4, 4⟩
def CNV_STAT_CPLOVF : Fld := ⟨3, 3⟩
def CNV_STAT_NOCTX : Fld := ⟨2, 2⟩
def CNV_STAT_FAILED : Fld := ⟨1, 1⟩
def CNV_STAT_RETRY : Fld := ⟨0, 0⟩
def CNV_CFG_EN : Fld := ⟨31, 31⟩
def CNV_CFG_QUIET : Fld := ⟨30, 30⟩
def CNV_CFG_BAMGAP : Fld := ⟨7, 0⟩
def CNV_CMD_OP : Fld := ⟨31, 30⟩
def CNV_CMD_SES : Fld := ⟨7, 0⟩
def CNV_CMDST_SES : Fld := ⟨15, 8⟩
def CNV_CMDST_STATUS : Fld := ⟨7, 0⟩
def CNV_CPL_PAYLOAD : Fld := ⟨23, 0⟩
def CNV_CPLST_WORDS : Fld := ⟨24, 16⟩
def CNV_CPLST_PKTS : Fld := ⟨7, 0⟩
def CNV_CPLCTL_FLUSH : Fld := ⟨0, 0⟩
def CNV_CNT_RETRY : Fld := ⟨31, 24⟩
def CNV_CNT_ABTX : Fld := ⟨23, 16⟩
def CNV_CNT_ABRX : Fld := ⟨15, 8⟩
def CNV_CNT_DUP : Fld := ⟨7, 0⟩
def CNV_CNT2_NOCTX : Fld := ⟨31, 24⟩
def CNV_CNT2_OVSZ : Fld := ⟨23, 16⟩
def CNV_CNT2_BAD : Fld := ⟨15, 8⟩
def CNV_CNT2_GDROP : Fld := ⟨7, 0⟩
def CNV_ACT_ACT : Fld := ⟨31, 0⟩
def TWN_STAT_FOREIGN : Fld := ⟨6, 6⟩
def TWN_STAT_DIVERGE : Fld := ⟨5, 5⟩
def TWN_STAT_XRUN : Fld := ⟨4, 4⟩
def TWN_STAT_SIGMIS : Fld := ⟨3, 3⟩
def TWN_STAT_SNAPMISS : Fld := ⟨2, 2⟩
def TWN_STAT_LANEFAIL : Fld := ⟨1, 1⟩
def TWN_STAT_LOST : Fld := ⟨0, 0⟩
def TWN_CFG_EN : Fld := ⟨31, 31⟩
def TWN_CFG_LANES : Fld := ⟨19, 16⟩
def TWN_CFG_SIGWIN : Fld := ⟨15, 8⟩
def TWN_CFG_XRUN : Fld := ⟨7, 0⟩
def TWN_MWIN_OPEN : Fld := ⟨15, 8⟩
def TWN_MWIN_CLOSE : Fld := ⟨7, 0⟩
def TWN_ST_ROLE : Fld := ⟨31, 30⟩
def TWN_ST_ACTLEAD : Fld := ⟨29, 29⟩
def TWN_ST_ROLEPAD : Fld := ⟨28, 28⟩
def TWN_ST_ALIVE : Fld := ⟨27, 27⟩
def TWN_ST_STATE : Fld := ⟨26, 24⟩
def TWN_ST_WARMCNT : Fld := ⟨22, 16⟩
def TWN_ST_SHARE : Fld := ⟨15, 0⟩
def TWN_LANE_TRANS : Fld := ⟨23, 16⟩
def TWN_LANE_DOWN : Fld := ⟨11, 8⟩
def TWN_LANE_UP : Fld := ⟨3, 0⟩
def TWN_LANECLR_LANE : Fld := ⟨3, 0⟩
def TWN_CTL_ACLR : Fld := ⟨1, 1⟩
def TWN_CTL_CCLR : Fld := ⟨0, 0⟩
def TWN_SNAP_NSES : Fld := ⟨7, 0⟩
def TWN_SNAPST_CUT : Fld := ⟨31, 31⟩
def TWN_SNAPST_NOFIT : Fld := ⟨30, 30⟩
def TWN_SNAPST_NSENT : Fld := ⟨23, 16⟩
def TWN_SNAPST_SIZE : Fld := ⟨15, 0⟩
def TWN_ALIGN_MAX : Fld := ⟨31, 16⟩
def TWN_ALIGN_ERR : Fld := ⟨15, 0⟩
def TWN_SIGMSK_SLOT : Fld := ⟨31, 0⟩
def TWN_SIGST_WIN : Fld := ⟨31, 16⟩
def TWN_SIGST_TRANS : Fld := ⟨15, 8⟩
def TWN_SIGST_STATUS : Fld := ⟨7, 0⟩
def TWN_RAMP_RAMP : Fld := ⟨15, 0⟩
def TWN_TRVTOL_TOL : Fld := ⟨15, 0⟩
def TWN_CNT_HBMISS : Fld := ⟨31, 24⟩
def TWN_CNT_SNAPMISS : Fld := ⟨23, 16⟩
def TWN_CNT_XRUNCNT : Fld := ⟨15, 8⟩
def TWN_CNT_AGMISS : Fld := ⟨7, 0⟩
def TWN_PUID_UID : Fld := ⟨31, 0⟩
def SAF_STATE_SCAN : Fld := ⟨31, 16⟩
def SAF_STATE_SELFTEST : Fld := ⟨11, 11⟩
def SAF_STATE_BLOCK : Fld := ⟨9, 8⟩
def SAF_STATE_LOADED : Fld := ⟨7, 7⟩
def SAF_STATE_PENDING : Fld := ⟨6, 6⟩
def SAF_KEY_KEY : Fld := ⟨31, 0⟩
def SAF_PKEY_KEY : Fld := ⟨31, 0⟩
def SAF_CMD_OP : Fld := ⟨1, 0⟩
def SAF_CARG_ARG : Fld := ⟨31, 0⟩
def SAF_CMDST_DONE : Fld := ⟨31, 31⟩
def SAF_CMDST_DETAIL : Fld := ⟨27, 16⟩
def SAF_CMDST_OP : Fld := ⟨9, 8⟩
def SAF_CMDST_STATUS : Fld := ⟨7, 0⟩
def SAF_INLVL_B : Fld := ⟨31, 16⟩
def SAF_INLVL_A : Fld := ⟨15, 0⟩
def SAF_INST_DEMAND : Fld := ⟨31, 16⟩
def SAF_INST_RUN : Fld := ⟨15, 0⟩
def SAF_OUT_RBL : Fld := ⟨23, 16⟩
def SAF_OUT_RBH : Fld := ⟨15, 8⟩
def SAF_OUT_CMD : Fld := ⟨7, 0⟩
def SAF_EN_STG : Fld := ⟨8, 4⟩
def SAF_EN_XEN : Fld := ⟨3, 0⟩
def SAF_SPD_V2 : Fld := ⟨31, 16⟩
def SAF_SPD_V1 : Fld := ⟨15, 0⟩
def SAF_CS_ACTIVE : Fld := ⟨31, 31⟩
def SAF_CS_FUNC : Fld := ⟨27, 24⟩
def SAF_CS_CAUSE : Fld := ⟨23, 16⟩
def SAF_CS_REM : Fld := ⟨15, 0⟩
def SAF_SIGST_WIN : Fld := ⟨31, 16⟩
def SAF_SIGST_TRANS : Fld := ⟨15, 8⟩
def SAF_SIGST_STATUS : Fld := ⟨7, 0⟩
def SAF_RSTIN_HELD : Fld := ⟨31, 31⟩
def SAF_RSTIN_STUCK : Fld := ⟨30, 30⟩
def SAF_RSTIN_VALID : Fld := ⟨29, 29⟩
def SAF_RSTIN_HOLD : Fld := ⟨15, 0⟩
def SAF_DISC_PAIRS : Fld := ⟨15, 0⟩
def EVT_PEND_SRC : Fld := ⟨31, 0⟩
def EVT_ACT_SRC : Fld := ⟨31, 0⟩
def EVT_GRP_HOLD_RUN : Fld := ⟨31, 31⟩
def EVT_GRP_HOLD_HOLD : Fld := ⟨15, 0⟩
def EVT_SRC_CFG_EN : Fld := ⟨31, 31⟩
def EVT_SRC_CFG_CORE : Fld := ⟨30, 30⟩
def EVT_SRC_CFG_PRIO : Fld := ⟨3, 0⟩
def EVT_SRC_VEC_ADDR : Fld := ⟨31, 1⟩
def HPT_STAT_ECC2 : Fld := ⟨3, 3⟩
def HPT_STAT_XTRA : Fld := ⟨2, 2⟩
def HPT_STAT_BADCMD : Fld := ⟨1, 1⟩
def HPT_STAT_ACCERR : Fld := ⟨0, 0⟩
def HPT_REF_REFUSED : Fld := ⟨31, 31⟩
def HPT_REF_MODE : Fld := ⟨27, 24⟩
def HPT_REF_BLOCK : Fld := ⟨20, 16⟩
def HPT_REF_OFFSET : Fld := ⟨15, 0⟩
def HPT_REFCNT_COUNT : Fld := ⟨7, 0⟩
def HPT_DOORBELL_RING : Fld := ⟨1, 0⟩
def HPT_IRQEN_FLDONE : Fld := ⟨15, 15⟩
def HPT_IRQEN_FW : Fld := ⟨14, 0⟩
def HPT_IRQST_FLDONE : Fld := ⟨15, 15⟩
def HPT_IRQST_FW : Fld := ⟨14, 0⟩
def HPT_IRQSET_FLDONE : Fld := ⟨15, 15⟩
def HPT_IRQSET_FW : Fld := ⟨14, 0⟩
def HPT_MBOX_DATA : Fld := ⟨31, 0⟩
def HPT_BOOTCTL_BOOTSEL : Fld := ⟨9, 8⟩
def HPT_BOOTCTL_RELEASE : Fld := ⟨1, 0⟩
def HPT_BOOT_ADDR : Fld := ⟨31, 1⟩
def HPT_FLCTL_KEY : Fld := ⟨31, 24⟩
def HPT_FLCTL_BUSY : Fld := ⟨16, 16⟩
def HPT_FLCTL_STATUS : Fld := ⟨15, 8⟩
def HPT_FLCTL_OP : Fld := ⟨1, 0⟩
def HPT_FLADDR_ADDR : Fld := ⟨21, 4⟩
def HPT_ECC_SRC : Fld := ⟨31, 31⟩
def HPT_ECC_DBL : Fld := ⟨30, 30⟩
def HPT_ECC_CORR : Fld := ⟨15, 0⟩

end F

end Sys2Proof.Machine
end

