-- ==== Sys2Proof/Machine/State.lean ====
section
/-!
DEFINITION. The state of the block, as plain data, and the state after reset. The registers the manual lists are kept
in one store under their numbers (RegMap); beside it stand the mode manager, the engines, the queues and the other
state the manual's rules name or imply, one record for each unit. The queue of waiting commands is `pending`.
-/

namespace Sys2Proof.Machine

/-! ### Variants, modes and status codes -/

/-- The parts of R1. -/
inductive Part where
  | ixl4800 | ixl4810 | ixl4820 | ixl4830
  deriving DecidableEq, Repr, Inhabited

/-- The module's identity (R1, R2, R39, R40). -/
structure Variant where
  part : Part
  /-- -K rather than -E -/
  gradeK : Bool
  step : BitVec 4
  uid0 : Word
  uid1 : Word
  deriving DecidableEq, Repr

/-- The operating modes of R52. -/
inductive Mode where
  | off | boot | idle | commission | parked | drive | field | charge | supply | service | limp | lockout
  deriving DecidableEq, Repr, Inhabited

/-- The status codes of R13. -/
inductive Status where
  | ok | busy | notPresent | wrongMode | outOfRange | timeout | retriedOk | failedTwice | locked | late
  deriving DecidableEq, Repr, Inhabited

/-- Who places a mode request (R78). -/
inductive ReqSource where
  | core0 | core1 | host | engine (e : Fin 8) | manager
  deriving DecidableEq, Repr

/-- A mode request that is taken: waiting for the next boundary (`pend` false) or pending (R57). `recorded` says that
`MOD_REQSTAT` follows it (R78). -/
structure Transition where
  src : ReqSource
  tgt : Mode
  redirected : Bool
  pend : Bool
  /-- word address of the `mreq`, for an engine's request -/
  addr : Nat
  deriving DecidableEq, Repr

/-- The lock-out of R73: none; pending, from the fault to the start of the steps of the table; in force. -/
inductive LockPhase where
  | none | pending | inForce
  deriving DecidableEq, Repr, Inhabited

/-- The outcome of the start-up steps before the boundary of step 8 of R66. -/
inductive BootPhase where
  /-- before step 3: no sample boundary can fall -/
  | early
  /-- the steps are done: the next boundary gives IDLE, or LOCKOUT under a lock-out -/
  | ready
  /-- BOOT is left -/
  | done
  deriving DecidableEq, Repr, Inhabited

/-- The mode manager (R52 to R87). -/
structure ModeMgr where
  cur : Mode
  prev : Mode
  trans : Option Transition
  lock : LockPhase
  /-- steps 1 to 3 of the table of R73 are done -/
  lockDone : Bool
  boot : BootPhase
  /-- sleep entry is running (R69) -/
  sleeping : Bool
  /-- the wakes kept during sleep entry, as bits of `MOD_WAKESRC` (R69) -/
  keptWake : Word
  /-- target of a transition abandoned while pending: it limits what is permitted up to the next boundary (R57) -/
  suspended : Option Mode
  /-- a bit of `MOD_DEG` became 1 since the last boundary (R59) -/
  degRose : Bool
  /-- a request has reached step 7 of R55 in the CORE clock under way (R54) -/
  took : Bool
  deriving DecidableEq, Repr

/-! ### Clocks -/

/-- The sample generator and the clocks (R21 to R34). -/
structure Clocks where
  /-- CORE clocks within the present microsecond -/
  coreSub : Nat
  /-- CORE clocks since reset, the cores' `mcycle`, and the upper half of their 64-bit time (R532) -/
  cycles : BitVec 64
  timeHigh : Word
  /-- the `SYS_SMPL` configuration in effect -/
  smplEff : Word
  /-- the generator fell back to PERIOD under R23 -/
  fallback : Bool
  /-- the sample generator has started (step 3 of R66) -/
  started : Bool
  /-- a clock fault has been declared (R33) and no reset has followed -/
  fault : Bool
  /-- the CORE clock still runs after it (R34, R579) -/
  clocked : Bool
  /-- boundaries fall on reloads of timebase 0 (R21, R22) -/
  aligned : Bool
  /-- reloads of timebase 0 since the last boundary, and whether one has brought the next boundary -/
  reloads : Nat
  due : Bool
  /-- network time and CORE clocks within its microsecond at the last boundary -/
  began : Word
  beganSub : Nat
  /-- length in ns of a sample that the first reload of timebase 0 cuts (R22) -/
  cut : Option Nat
  deriving DecidableEq, Repr

/-! ### Schedule engines -/

/-- The states of R90 but FROZEN, which is kept beside. -/
inductive EngineState where
  | stopped | running | waiting | halted | faulted
  deriving DecidableEq, Repr, Inhabited

/-- What a WAITING engine waits for (R98, R95). -/
inductive Wait where
  | none
  | time (target : Word)
  /-- boundaries left, offset in µs, and the network time of the last boundary once none is left -/
  | sample (left : Nat) (ofs : Nat) (passed : Option Word)
  | position (reverse : Bool) (target : Word) (axis : Nat)
  | travel (reverse : Bool) (target : Word) (axis : Nat)
  | event (src : BitVec 8)
  /-- registers whose commit points have not passed, and the status of R96 -/
  | commit (left : List Nat) (st : Status)
  deriving DecidableEq, Repr

/-- What a completing instruction does: its opcode, its word address and the next instruction's, its status, and the v
register it writes (R104, R124). -/
structure Finish where
  op : Nat
  was : Nat
  next : Nat
  st : Status
  vd : Option (Fin 16 × Word)
  deriving DecidableEq, Repr

/-- What an engine completes in a later clock: an instruction of several clocks, or a wait whose condition has held or whose
timeout has expired (R101, R124). -/
inductive Ending where
  | instr (f : Finish)
  | waitOk
  | waitLate
  deriving DecidableEq, Repr

/-- One schedule engine (R91); its v registers, entry, status words and counts are in the register store. -/
structure Engine where
  state : EngineState
  frozen : Bool
  /-- program counter, a word address -/
  pc : Nat
  /-- opcode of the instruction that waits, and its length in words -/
  waitOp : Nat
  waitLen : Nat
  /-- loop levels, innermost first: passes left and start address -/
  loops : List (Nat × Nat)
  /-- return addresses, latest first -/
  calls : List Nat
  /-- grouped stores in the order staged: register number and value -/
  staging : List (Nat × Word)
  evl : BitVec 256
  wait : Wait
  /-- network time at which the wait's timeout expires (R99) -/
  expires : Option Word
  /-- the cause of R109 -/
  fault : Nat
  /-- CORE clocks to pass before the clock in which `ending` completes (R124) -/
  busy : Nat
  ending : Option Ending
  /-- the wait's timeout expired while the engine was FROZEN (R111) -/
  late : Bool
  deriving DecidableEq, Repr

/-! ### Events, cores and the host port -/

/-- What the event controller and the rules of R531 to R542 keep of an application core. -/
structure Core where
  /-- released from reset (R535) -/
  released : Bool
  /-- held until a debugger resumes it (R535), or halted by one (R551) -/
  halted : Bool
  active : Option (BitVec 8)
  /-- exception depth (R541) -/
  depth : Nat
  /-- machine mode (R540) -/
  machine : Bool
  pc : Word
  mepc : Word
  mcause : Word
  /-- `mstatus.MIE`, `mstatus.MPIE`, and whether `mstatus.MPP` is machine mode -/
  mie : Bool
  mpie : Bool
  mppMachine : Bool
  /-- the word held by a load-reserve (R533) -/
  reservation : Option Nat
  deriving DecidableEq, Repr

/-- The event controller (R538 to R543). -/
structure EventCtl where
  pend : BitVec 256
  act : BitVec 256
  /-- groups in hold-off -/
  hold : BitVec 16
  core0 : Core
  core1 : Core
  /-- the core whose branch trace leaves on the trace pads, where tracing is enabled (R552) -/
  trace : Option (Fin 2)
  deriving DecidableEq, Repr

/-- A running flash operation (R536): erase or program, the granule or sector address, and whether it is the retry. -/
structure FlashOp where
  erase : Bool
  addr : Nat
  retry : Bool
  deriving DecidableEq, Repr

/-- A core's read of code flash that waits for a running flash operation (R537). -/
structure HeldRead where
  addr : Nat
  kind : CoreRead
  ecc : Ecc
  deriving DecidableEq, Repr

/-- The registers and the instruction cache of an application core (R531, R532). The registers and PMP addresses list what is
not zero; the cache lists the words of code flash that were fetched, the latest first. -/
structure CoreOwn where
  x : List (Nat × Word)
  f : List (Nat × Word)
  fcsr : Word
  /-- `pmpcfg0` to `pmpcfg7` in rising order of bytes, and the eight `pmpaddr` -/
  pmpcfg : BitVec 64
  pmpaddr : List (Nat × Word)
  /-- the CSR `mie` -/
  mieReg : Word
  minstret : BitVec 64
  cache : List (Nat × Word)
  /-- a read that waits -/
  wait : Option HeldRead
  deriving DecidableEq, Repr

/-- A core's own registers at reset: all zero, the cache empty (log entry 128). -/
def CoreOwn.reset : CoreOwn := ⟨[], [], 0, 0, [], 0, 0, [], none⟩

/-- What reads and writes gave back to the masters: the status of each master's last command (R13), the data of the
cores' last reads, the response and data of the host port's last read frame (R546), and an access fault on a core; and the cores'
own registers, into which they read. -/
structure BusOut where
  hostStatus : Status
  core0Status : Status
  core1Status : Status
  core0Data : Word
  core1Data : Word
  hostResponse : BitVec 8
  hostData : List Word
  core0Fault : Bool
  core1Fault : Bool
  own0 : CoreOwn
  own1 : CoreOwn
  deriving DecidableEq, Repr

/-! ### Queues -/

/-- A packet of a queue: its priority and its tagged words (R11, R12). -/
structure Packet where
  prio : Nat
  words : List Word
  deriving DecidableEq, Repr

/-- A packet queue (R12): the rest of the packet begun, and the whole packets in arrival order. -/
structure PktQueue where
  begun : List Word
  waiting : List Packet
  deriving DecidableEq, Repr

/-! ### Analogue acquisition -/

/-- Converter `k` (R150 to R154): the channels its scan has still to convert, the table-drive channel whose trigger
started the scan, a held trigger with the same mark, and the packet being formed (none: its scan is not queued). -/
structure AcqConv where
  scan : List Nat
  scanTd : Option (Fin 2)
  held : Option (Option (Fin 2))
  pkt : Option (List Word)
  /-- words reserved in the queue for the packet -/
  reserved : Nat
  /-- QMASK and QPRI as the scan's start found them (log entry 147) -/
  qmask : Nat
  qpri : Nat
  deriving DecidableEq, Repr

/-- Channel `n` (R155 to R161); INVALID, TRANS and LAST stand in `ACQ_CHn_ST`. -/
structure AcqChan where
  sum : Nat
  count : Nat
  /-- latest average -/
  avg : Nat
  /-- the latest conversion was a first rejection -/
  rejected : Bool
  lastGood : Nat
  newAvg : Bool
  latched : Nat
  stale : Bool
  subst : Bool
  /-- the latched value has not been read -/
  ready : Bool
  deriving DecidableEq, Repr

/-- The acquisition unit. -/
structure AcqState where
  conv : Vector AcqConv 8
  chan : Vector AcqChan 48
  queue : PktQueue
  deriving DecidableEq, Repr

/-! ### Position feedback -/

/-- What the unit keeps of an axis beside its registers (R171 to R184). -/
structure Axis where
  /-- a first failure waits for its second attempt -/
  failed : Bool
  /-- 5 ns time of the first illegal transition (R178) -/
  failTime : Nat
  /-- a good reading has been taken since BOOT (R171) -/
  seen : Bool
  /-- the sensor's last reading: resolver or SSI angle, levels of A and B, Hall code -/
  sensor : Nat
  /-- the resolver angle the counter stands at (R171, R179) -/
  held : Nat
  /-- the remainder of the division by RPP -/
  rem : Int
  /-- 5 ns time and counter of the latest counted edge or frame -/
  last : Option (Nat × Word)
  /-- the reference edge of R182 -/
  ref : Option (Nat × Word)
  /-- an edge has arrived since the previous boundary -/
  edged : Bool
  /-- the latest direction was up -/
  upward : Bool
  deriving DecidableEq, Repr

/-- Probe `p`'s tag (R192, R199). -/
structure Probe where
  waiting : Bool
  rising : Bool
  ovr : Bool
  fine : Nat
  deriving DecidableEq, Repr

/-- Emulation output `m` (R193): travel not yet an edge, edges owed (negative: backwards), the quadrature phase, the
direction level, and edges since the last Z pulse. -/
structure Emulation where
  acc : Int
  owed : Int
  phase : Nat
  forward : Bool
  zcount : Nat
  /-- 5 ns time of the latest edge, and whether `EMUm_Z` pulses with it -/
  last : Option Nat
  zedge : Bool
  deriving DecidableEq, Repr

/-- The position unit. -/
structure PosState where
  axis : Vector Axis 11
  probe : Vector Probe 4
  emu : Vector Emulation 2
  /-- the axis counters the wheels last took (R185), left and right -/
  refL : Word
  refR : Word
  remL : Int
  remR : Int
  remC : Int
  /-- the write of `POS_TRVADJ` that waits for the boundary (R190) -/
  adjust : Option Word
  deriving DecidableEq, Repr

/-! ### Control engine -/

/-- The stored state of a loop slot (R204, R205); I stands in `CLE_SLn_INT`, the flags in `CLE_SLn_ST`. -/
structure Slot where
  d : Int
  e1 : Int
  v1 : Int
  r1 : Int
  /-- the output it last formed (R207) -/
  y : Int
  /-- the state is cleared and r1 takes rw at the next evaluation (R205) -/
  fresh : Bool
  /-- RST waits for the boundary -/
  rst : Bool
  altA : Bool
  altB : Bool
  /-- sign of the last error beyond BAND: -1, 1, or 0 before any -/
  sign : Int
  /-- samples into the present detector window -/
  win : Nat
  /-- the unread word of `CLE_SLn_RES` -/
  res : Option Word
  deriving DecidableEq, Repr

/-- A command pad's latest measurement (R208, R209), and for the analogue form of R328 its judgement. -/
structure CmdPad where
  value : Nat
  timedOut : Bool
  range : Bool
  /-- a first rejection of the analogue form waits for its re-sample -/
  failed : Bool
  deriving DecidableEq, Repr

/-- A running capture (R212): the bins' sums and counts, the travel so far, and the counter last seen. -/
structure Capture where
  bins : List (Nat × (Int × Nat))
  travelled : Nat
  pos : Word
  deriving DecidableEq, Repr

/-- The control engine. -/
structure CleState where
  slot : Vector Slot 64
  pad : Vector CmdPad 4
  capture : Option Capture
  /-- the bus values below their floor in the previous sample (R210) -/
  low0 : Bool
  low1 : Bool
  /-- the axis speeds latched for the sample (R194, R206) -/
  spd : Vector Word 11
  /-- set-points that units put in place of `CLE_SLn_SPR` for the sample: slot and value (R325, R344, R372) -/
  spr : List (Nat × Int)
  deriving DecidableEq, Repr

/-! ### Legs -/

/-- A leg: its commands, pads and period (R233 to R247), and what gate protection keeps of it (R292 to R301); the
sticky flags and counts stand in `WFU_LEGn_ST` and `GDP_LEGn_ST`. -/
structure Leg where
  /-- commands of the high and the low switch, before the interlock, the enables and the driver supplies -/
  cmdH : Bool
  cmdL : Bool
  /-- levels at the pads -/
  hi : Bool
  lo : Bool
  /-- the switch whose turn-on waits for its dead time -/
  dead : Option Switch
  /-- the high, the low switch may not turn on yet: its partner was commanded off less than its own dead time ago, and both
  are off (R244) -/
  guardH : Bool
  guardL : Bool
  /-- the leg resumes at its first valley (R242, R245, R246) -/
  resume : Bool
  /-- the leg has resumed and has not turned a switch on yet (R242) -/
  first : Bool
  /-- its function was permitted at the last boundary (R242) -/
  perm : Bool
  /-- P and the compares of the present period, dithered, in ticks (R233) -/
  per : Nat
  a : Nat
  b : Nat
  /-- the high pulse, the low interval of the present period is suppressed (R237) -/
  supH : Bool
  supL : Bool
  /-- the present period carries a refresh (R239) -/
  refresh : Bool
  /-- the low switch has been on in the present period -/
  lowSeen : Bool
  /-- consecutive periods without the low switch on -/
  noLow : Nat
  /-- turn-ons counted in the running sample (R247) -/
  swH : Nat
  swL : Nat
  /-- held high-impedance by gate protection (R295) -/
  hiz : Bool
  /-- the switch in soft turn-off (R295) -/
  soft : Option Switch
  /-- blanking of each switch runs (R292) -/
  blankH : Bool
  blankL : Bool
  /-- the filtered fault line is active (R294) -/
  line : Bool
  /-- detected together with the other legs of its actuator (R299) -/
  group : Bool
  /-- compares, in sixteenths of a tick, that a unit forms in place of the committed ones (R271, R321, R376) -/
  gov : Option (Nat × Nat)
  /-- switch states that an actuator's probe imposes in place of row 5 of R241 (R313) -/
  forced : Option (Bool × Bool)
  /-- the present period is skipped (R388) -/
  skip : Bool
  /-- TD as the leg's latest valley took it (R233, R240) -/
  td : Bool
  deriving DecidableEq, Repr

/-- A timebase (R229, R230); PRE and PERIOD stand in `WFU_TBt_CFG`. -/
structure Timebase where
  running : Bool
  stopping : Bool
  /-- past its peak -/
  down : Bool
  /-- dither position -/
  k : Nat
  deriving DecidableEq, Repr

/-- The waveform unit: legs, timebases, trip latches and the filtered levels of the trip pads. -/
structure WfuState where
  leg : Vector Leg 42
  tb : Vector Timebase 10
  trip : BitVec 4
  tripPad : BitVec 4
  deriving DecidableEq, Repr

/-- Gate protection beside the legs (R289, R293, R297, R302). -/
structure GdpState where
  /-- the safety controller's enable of each stage of R290; stages 3 and 4 share `XEN_CH` -/
  en : BitVec 10
  /-- fault lines still ignored after an enable rose: `XEN_TA`, `XEN_TB`, `XEN_DC`, `XEN_CH` -/
  blank : BitVec 4
  /-- shunt comparators across their thresholds -/
  shunt : BitVec 9
  /-- the latest detection of each stage: leg, network time, CORE clock within the microsecond -/
  last : Vector (Option (Nat × Word × Nat)) 10
  vcpOk : Bool
  vdrvOk : Bool
  /-- a supply dip is running (R302) -/
  dip : Bool
  deriving DecidableEq, Repr

/-! ### Table drive -/

/-- The operations of R257. -/
inductive TdOp where
  | off | modulated | table
  deriving DecidableEq, Repr, Inhabited

/-- One table-drive channel (R257 to R278); its counts and sticky flags stand in `TDU_CHx_CNT` and `TDU_CHx_ST`. -/
structure TdChan where
  op : TdOp
  /-- torque and flux states (R264) -/
  cT : Int
  cPsi : Bool
  dwell : Nat
  /-- S = 2 ^ scale -/
  scale : Nat
  /-- table selection 0 to 6, 7 all off (R270) -/
  table : Nat
  sector : Nat
  /-- the switch states in force: HI in bits 11:6, LO in 5:0; none before the first entry -/
  applied : Option (BitVec 12)
  /-- the states the running decision passes to the legs -/
  next : Option (BitVec 12)
  /-- a tick has been issued and its input time is awaited; a decision runs -/
  ticked : Bool
  deciding : Bool
  /-- deliveries since the tick: analogue channel and value (R154, R260) -/
  got : List (Nat × Nat)
  /-- the conversions that the latest decision took: legs 0 to 5 and the bus (R260) -/
  code : Vector (Option Nat) 7
  /-- currents, bus voltage and high-impedance legs of the latest decision -/
  cur : Vector Int 6
  ub : Int
  hiz : BitVec 6
  psa : Int
  psb : Int
  psm : Int
  ang : Int
  tq : Int
  elim : Int
  trans : Nat
  /-- the partner's frame for the decision (R276) and the run of missing frames (R486) -/
  frame : Option DecIn
  missRun : Nat
  /-- a run of missing frames holds every switch off until a boundary with a frame in time (R486) -/
  xoff : Bool
  /-- the entry in force, before a share ramp shapes it (R496), and decisions since the ramp began -/
  entry : Option (BitVec 12)
  rampJ : Nat
  /-- values 0 to 15 of R278: of the latest decision, of the latest completed one, and as latched for the sample -/
  val : Vector Int 16
  done : Vector Int 16
  lat : Vector Int 16
  /-- the time of the running sample that decisions cover, in ns, and over it the sums of d and q voltage of set 1 and of set 2
  (R275) -/
  accT : Nat
  acc : Vector Int 4
  /-- in a pair, the entries applied in the running sample, the latest first (R492) -/
  log : List (BitVec 12)
  deriving DecidableEq, Repr

/-! ### Start budget, actuators, converter, energy path -/

/-- A request on a port of the start budget, with its cost, priority and timeout as it was made (R361, R362); `partner` marks the
partner module's (R488). -/
structure BudgetReq where
  port : Nat
  cls : Nat
  cost : Nat
  prio : Nat
  /-- TO in ms, 0 for none -/
  wait : Nat
  partner : Bool
  deriving DecidableEq, Repr

/-- The start budget (R360 to R363). -/
structure Budget where
  /-- tokens, in 1/256,000 of a token -/
  tokens : Nat
  /-- waiting requests, the head first -/
  queue : List BudgetReq
  /-- requests of a quiet module, sent to the acting lead: port and class (R488) -/
  sent : List (Nat × Nat)
  /-- unread results of the firmware ports -/
  res : Vector (Option Word) 4
  deriving DecidableEq, Repr

/-- One actuator or motor drive (R311 to R327) beside `ACT_Dd_ST`. -/
structure ActDrive where
  /-- the command whose first failure stands -/
  failed : Option Word
  /-- the present attempt is the retry -/
  retrying : Bool
  /-- it entered FAULT with DEG = 1 and LASTING stands -/
  deg : Bool
  /-- STOPPED by a low speed reference with its command kept (R327) -/
  idle : Bool
  /-- currents of the test pulses measured so far -/
  m : List Int
  /-- consecutive samples inside the target window -/
  arrive : Nat
  /-- speed reference, Q16.16 counts per ms -/
  ref : Int
  /-- leg currents, 1/16 A -/
  cur : Vector Int 3
  /-- single-shunt sampling: the lo and hi leg of the period, none without a trigger; conversions taken -/
  order : Option (Nat × Nat)
  taken : Nat
  /-- integrators of the speed loop and of the current loop's d and q axis (R314) -/
  spdI : Int
  curD : Int
  curQ : Int
  /-- the q current that the speed loop asks for, 1/16 A, and the voltage that the current loop asks for (R313, R314) -/
  iq : Int
  vd : Int
  vq : Int
  /-- ns since the ramp began (R318) -/
  ramp : Nat
  deriving DecidableEq, Repr

/-- A nudge of a traction motor (R326): the excess, in 1/65,536,000,000 of an angle unit, and the counter last seen. -/
structure Nudge where
  running : Bool
  p : Int
  pos : Word
  deriving DecidableEq, Repr

/-- The actuator unit. -/
structure ActState where
  drive : Vector ActDrive 5
  nudge : Vector Nudge 2
  /-- consecutive samples that count toward synchronisation -/
  sync : Nat
  deriving DecidableEq, Repr

/-- One converter phase (R369): its share in sixteenths (0 inactive) and its trim. -/
structure AuxPhase where
  share : Nat
  trim : Int
  deriving DecidableEq, Repr

/-- The states of R373. -/
inductive AuxRun where
  | stopped | wait | ramp | run
  deriving DecidableEq, Repr, Inhabited

/-- The auxiliary converter (R369 to R378). -/
structure AuxState where
  run : AuxRun
  status : Status
  pause : Bool
  /-- a fresh budget request of R374 waits -/
  again : Bool
  phase : Vector AuxPhase 8
  /-- the running share ramp: phase, add or shed, reloads so far -/
  ramp : Option (Nat × Bool × Nat)
  holdoff : Bool
  /-- Vref in 1/10,000 mV -/
  vref : Int
  vt : Int
  iout : Int
  /-- Itot at the previous reload -/
  itot : Option Int
  deriving DecidableEq, Repr

/-- The session states of R336. -/
inductive EnpPhase where
  | idle | detect | qualify | mains | precharge | close | run | busHold | hinge | holdOff | halted | expWait | expRun
  | fault
  deriving DecidableEq, Repr, Inhabited

/-- How a running ending ends (R353, R356): its cause, status and next state. -/
structure EnpEnding where
  cause : Nat
  status : Status
  next : EnpPhase
  deriving DecidableEq, Repr

/-- The energy path (R335 to R359) beside its registers. -/
structure EnpState where
  phase : EnpPhase
  cmdst : Status
  /-- the session exports -/
  exporting : Bool
  /-- S2, `PLT_SW` -/
  s2 : Bool
  /-- drive of `PLT_DRV`: 0 off, 1 steady, 2 PWM, steady while ADV is below 6 A; and ADV -/
  pilot : Nat
  adv : Nat
  /-- relays commanded closed; what is confirmed, if the command is -/
  relay : Bool
  confirmed : Option Bool
  /-- the level that ENP drives on the GPIO `ENP_RLY.OUT`; none while high-impedance, before its first command (R335, R364) -/
  relayPad : Option Bool
  /-- a budget request of the session waits -/
  asked : Bool
  /-- a retry pause of R349 runs -/
  pause : Bool
  mainsFailed : Bool
  linkFailed : Bool
  relayFailed : Bool
  /-- the start leads to BUSHOLD -/
  toHold : Bool
  /-- the source word of R342, and that the session's lookup has been made -/
  source : Word
  looked : Bool
  /-- phases in use; for L1, L2, L3 the half-cycles missing in a row (R341, R352) -/
  used : BitVec 3
  miss : Vector Nat 3
  /-- for L1, L2, L3 the sum of the squares of the running half-cycle's currents, their number, and the RMS current of the last
  half-cycle in 1/16 A (R352, R359) -/
  sumsq : Vector Nat 3
  count : Vector Nat 3
  rms : Vector Nat 3
  /-- after a STOP, the input current falls -/
  stopping : Bool
  /-- a removal stop before a bus-hold restart -/
  removal : Bool
  /-- the steps of the hinge: 2 the bridge stops, 3 the rectifier stops, 5 the relays open -/
  hinge : Nat
  ending : EnpEnding
  /-- the last accepted message's counter; the latest was out of sequence; its charge limit -/
  bmsSeq : Option Nat
  bmsOos : Bool
  bmsLim : Nat
  /-- conversions of the bus channel within the window: network time and code -/
  bus : List (Word × Nat)
  /-- angle of R344: frequency times elapsed ns, modulo 10^9 -/
  phi : Nat
  deriving DecidableEq, Repr

/-! ### Thermal model -/

/-- A node (R382, R386): stage rises, the energy account in 1 / (65,536 × 10^15) J, and the armed events of R390. -/
structure ThNode where
  r1 : Int
  r2 : Int
  r3 : Int
  energy : Int
  warn : Bool
  trip : Bool
  deriving DecidableEq, Repr

/-- The thermal model: nodes, for each timebase the reloads since N was formed (R388), and the factors of the drives, of which
`SYS_THDER1` and `SYS_THDER2` show the upper eight bits (R387). -/
structure ThState where
  node : Vector ThNode 45
  kAux : Vector Nat 10
  kCh : Vector Nat 10
  drive : Vector Nat 5
  /-- an update has taken EN = 1, and the networks stand (R391) -/
  on : Bool
  deriving DecidableEq, Repr

/-! ### Section gates -/

/-- An open gate conversation (R408, R409): the last frame sent and what is known of it. -/
structure GateConv where
  /-- the last frame was a FIRENOW, otherwise an ARM -/
  fire : Bool
  seq : BitVec 8
  /-- the gate's second word -/
  word : Word
  /-- fire time of the last ARM sent for the gate -/
  ta : Word
  /-- latest command time formed for the gate -/
  tcmd : Option Word
  /-- the gate has been served -/
  served : Bool
  confirmed : Bool
  /-- the one re-send has been made -/
  retried : Bool
  /-- the gate is marked late already, or the FIRENOW restores a section and serves no gate -/
  late : Bool
  /-- an ARM has been sent for the gate; one that a later frame replaced was confirmed (R410) -/
  armed : Bool
  armOk : Bool
  deriving DecidableEq, Repr

/-- What the unit keeps of a section beside its registers (R400 to R414). -/
structure GateSec where
  /-- remainder of the travel, in 1/65,536 tu -/
  rem : Int
  /-- travel and lead L_i at the previous evaluation at which the section was eligible, or at its restore (R404) -/
  prev : Option (Word × Int)
  /-- EN at the latest evaluation -/
  on : Bool
  /-- serving is held (R412, R413) -/
  held : Bool
  /-- restored at the next evaluation -/
  restore : Bool
  /-- a flush waits for the next evaluation (R414) -/
  flush : Bool
  conv : Option GateConv
  deriving DecidableEq, Repr

/-- The section gate unit (R396 to R416). -/
structure GteState where
  sec : Vector GateSec 256
  /-- s_L, s_R and s_c at the latest evaluation -/
  last : Option (Word × Word × Word)
  /-- wheel speeds of the present sample (R401) -/
  vl : Int
  vr : Int
  /-- hundredths of a tu of the test travel -/
  testRem : Nat
  /-- section gates were permitted, and the mode was SERVICE, at the last boundary -/
  granted : Bool
  service : Bool
  /-- a hold of R412 lasts: HALT is repeated -/
  halting : Bool
  /-- CONF and DONE frames for the next evaluation: DONE, and the frame (R465) -/
  inbox : List (Bool × NodeMsg)
  queue : PktQueue
  deriving DecidableEq, Repr

/-! ### Field network and conversations -/

/-- Whose frame a transmit buffer holds (R430): a control or a data frame belongs to a session, 256 to none. -/
inductive TxSrc where
  | reference | queue | gate | control (ses : Nat) | bulk (ses : Nat)
  deriving DecidableEq, Repr

/-- A frame in a transmit buffer: PENDING, or ACTIVE with the time of its SOF; whether a cancel is held (R433). -/
structure TxBuf where
  frame : CanFrame
  src : TxSrc
  active : Bool
  sof : Word
  cancel : Bool
  deriving DecidableEq, Repr

/-- A CAN channel (R422 to R438) beside its registers. -/
structure CanChan where
  buf : Vector (Option TxBuf) 3
  /-- the transmit queue, its packets as pushed, without tags -/
  txq : PktQueue
  /-- words of the packet being pushed -/
  push : List Word
  /-- the rest of the packet being pushed is dropped -/
  dropping : Bool
  /-- the gate session's queue: HALT, and the frame (R465) -/
  gate : List (Bool × CanFrame)
  /-- transport control frames in the order queued: session and frame (R453) -/
  control : List (Nat × CanFrame)
  /-- the session whose data frame was loaded last -/
  turn : Nat
  /-- a reference message that waits to be loaded (R438) -/
  refWait : Option CanFrame
  /-- SOF of the last reference message sent since the module began acting (R437) -/
  refSof : Option Word
  /-- bus-off recovery runs (R425) -/
  recovering : Bool
  deriving DecidableEq, Repr

/-- An Ethernet port (R439 to R442) beside its registers: whether it sends descriptors, the speed it tries without link,
and the waiting timestamp tag. -/
structure EthPort where
  sending : Bool
  try100 : Bool
  tag : Option Word
  deriving DecidableEq, Repr

/-- The field network. -/
structure NetState where
  chan : Vector CanChan 8
  rxq : PktQueue
  /-- the module stopped acting for a more urgent master (R436) -/
  stood : Bool
  /-- reference channels on which the present message has not been sent -/
  unsent : List Nat
  eth : Vector EthPort 2
  deriving DecidableEq, Repr

/-- What the conversation engine keeps of a session beside its context record (R450 to R469). -/
structure Session where
  /-- a data or single frame may be loaded -/
  ready : Bool
  /-- parameter group of the message in progress -/
  pgn : Nat
  /-- first packet of the present window -/
  first : Nat
  /-- the last CTS answered: count and next packet -/
  cts : Option (Nat × Nat)
  /-- packets per window that the RTS allows (R459) -/
  limit : Nat
  /-- the rest of the window is ignored (R461) -/
  ignoring : Bool
  /-- data of the message have been sent or stored (R463) -/
  begun : Bool
  /-- packets that a receive shadow has heard and stored (R468, R469) -/
  heard : List Nat
  deriving DecidableEq, Repr

/-- A received data frame that waits for the bulk path (R467): channel, sender, whether sent to all, whether extended, sequence
number and data. -/
structure BulkIn where
  ch : Fin 8
  peer : Nat
  all : Bool
  etp : Bool
  seq : Nat
  data : List Byte
  deriving DecidableEq, Repr

/-- The conversation engine. -/
structure CnvState where
  ses : Vector Session 256
  queue : PktQueue
  /-- the 64-frame input queue of the bulk path, the oldest first (R467) -/
  input : List BulkIn
  /-- CORE clocks until the bulk path takes the next frame (R467) -/
  bulk : Nat
  deriving DecidableEq, Repr

/-! ### Pairs link -/

/-- The pairs link (R475 to R497) beside its registers. -/
structure TwnState where
  /-- the time of each lane's first failure -/
  failed : Vector (Option Word) 4
  /-- network time has been stepped to the lead's in this join (R481) -/
  stepped : Bool
  /-- consecutive heartbeats missed -/
  missed : Nat
  /-- the latest heartbeat -/
  heard : Option HeartbeatIn
  /-- the partner's inputs of the sample (R484) -/
  agreed : List AgreeItem
  /-- a request taken here and forwarded: who asked, for what, and the word address of an `mreq` (R485) -/
  forwarded : Option (ReqSource × BitVec 4 × Nat)
  /-- the status of the partner's request, for the next heartbeat -/
  reply : Option Status
  /-- the change that the acting lead has announced, made at the next boundary (R485) -/
  announced : Option Mode
  /-- a loss declared in this sample: the takeover falls on the next boundary (R494) -/
  takeover : Bool
  /-- the control engine makes no writes for the rest of the sample (R494) -/
  hold : Bool
  /-- the acting lead's sample count less this module's (R479) -/
  ofs : Word
  /-- WARMCNT has reached 64: the ramp begins at the next boundary (R495) -/
  warmed : Bool
  /-- the lead's sample count at the start of the share ramp (R495, R496) -/
  rampStart : Word
  /-- segments received since OPEN, and whether one was broken (R489) -/
  got : List Nat
  broken : Bool
  /-- size of the snapshot on its way, and a complete one waits for the boundary -/
  size : Nat
  complete : Bool
  /-- a complete snapshot stands in the last-complete slot -/
  stored : Bool
  /-- s_c at OPEN (R491) -/
  sc : Word
  /-- the acting units' formations of the boundary wait for the sample's agreed values (R484) -/
  owed : Bool
  /-- a signature window runs, and its CRC-32 so far (R492) -/
  sigOn : Bool
  crc : Word
  /-- the next slot of the signature history -/
  hist : Nat
  /-- a window's signature waits for the partner's in this sample; its exchange is repeated, or is to be; mismatching
  windows in a row -/
  sigWait : Bool
  sigAgain : Bool
  sigBad : Nat
  deriving DecidableEq, Repr

/-! ### Safety controller -/

/-- A parameter block (R519): its bytes that are not zero, by rising offset. -/
abbrev SafBlock := List (Nat × Byte)

/-- A running tumbler check of a pair (R507): the channel that changed first (A: true), and whether it came to its run
level. -/
structure Tumble where
  chanA : Bool
  toRun : Bool
  deriving DecidableEq, Repr

/-- A controlled stop (R515 to R517): its function (none for a lock-out's), the enables it ends on, the lock-out that
follows, ms to its end, and its monitor lines, each as the speed at its start and the ms since. -/
structure CStop where
  func : Option Nat
  enmask : Nat
  cause : Option (Nat × Nat)
  left : Nat
  lines : List (Int × Nat)
  deriving DecidableEq, Repr

/-- Where an output stands (R508): the low switch on, its readback not yet (`lowOn`) or already (`lowHeld`) seen to hold; the
high switch on too, or both off, while the readback has not yet been seen to hold (`rising`, `falling`); the high switch on
although the readback of step 1 was never seen (`unproved`); on and off outside transitions. -/
inductive OutPhase where
  | off | lowOn | lowHeld | rising | unproved | on | falling
  deriving DecidableEq, Repr, Inhabited

/-- The safety controller (R502 to R523) beside its registers. -/
structure SafState where
  /-- the active block, and the one in safety flash with its key -/
  block : SafBlock
  flash : SafBlock
  flashKey : Word
  confirmed : Bool
  /-- the block a LOAD checked -/
  loaded : Option SafBlock
  /-- a LOAD that runs: its SRAM offset -/
  loading : Option Nat
  /-- ms since the LOAD of the loaded block, and since the one that runs, counted to 600,001 -/
  sinceLoad : Nat
  loadAge : Nat
  /-- the master that wrote `SAF_CARG` last; none since reset (R530) -/
  cargBy : Option Master
  /-- role and partner's number as read at BOOT (R475, R521) -/
  role : Nat
  puid0 : Word
  puid1 : Word
  /-- each pair's open tumbler checks, oldest first (R507) -/
  tumble : Vector (List Tumble) 16
  /-- pairs in demand and speeds as the previous scan read them (R505) -/
  demand : BitVec 16
  v1 : Nat
  v2 : Nat
  invalid : Bool
  /-- counters of the speed axes over the last ten scans, latest first -/
  track : List (Word × Word)
  /-- ms of disagreement; ms each function's demand or limit has stood -/
  disagree : Nat
  count : Vector Nat 16
  /-- functions that withhold the enables of their ENMASK -/
  withheld : BitVec 16
  /-- the grants of core 0 and core 1 (R503) -/
  grant0 : BitVec 9
  grant1 : BitVec 9
  /-- functions that entered demand or were latched at the last scan (R516) -/
  fresh : BitVec 16
  stop : Option CStop
  out : Vector OutPhase 8
  /-- the window of R518 is open -/
  presence : Bool
  /-- consecutive mismatching windows -/
  sigBad : Nat
  deriving DecidableEq, Repr

/-! ### Stops -/

/-- The faults. -/
inductive Fault where
  /-- raised where a command is a host mistake (R49, R50, R87, R121, R123, R149 and the chapters' lists; log entry 10): REGISTER_WRITE,
  SYS_SMPL_WRITE, TIME_MASTER_WRITE, HOST_PORT_WRITE, CAPTURE_START, TXQ_PUSH and a core's atomic store of a word the manual forbids;
  RESULT_PORT_READ and the host port frames at a misaligned address or of a reserved size; EVENT_LATCH_CLEAR, LEG_CLEAR, GATE_APPEND,
  SAFETY_LOAD and SAFETY_CONFIRM that the chapter names; CAN_FRAME_RECEIVED of a second master's reference; TD_INPUT that reaches a
  table entry the chapter forbids; SAMPLE_BOUNDARY with settings that contradict each other; STU, COMMIT, WPS, WTR, ENDL and GATE of
  an engine; and a malformed word that an engine fetches. The manual calls what follows unpredictable. Safe: the model stops where
  the hardware goes on in a way nobody can rely on. -/
  | hostMistake
  deriving DecidableEq, Repr

/-- The refusals. -/
inductive Refusal where
  /-- raised by an arm of Dispatch.lean whose command has no meaning yet. Safe: nothing can be proved of it. -/
  | notModelled (mnemonic : String)
  deriving DecidableEq, Repr

/-! ### The state -/

/-- The state of the block. -/
structure State where
  /-- the commands that wait, first in, first out -/
  pending : List Instr
  variant : Variant
  /-- the registers that differ from their reset values, by rising number -/
  regs : List (Nat × Word)
  /-- values written to shadowed registers and not yet committed (R92, R97), by rising number -/
  shadow : List (Nat × Word)
  /-- values the control engine wrote, committing at a reload (R27), by rising number -/
  cleShadow : List (Nat × Word)
  /-- memory bytes that differ from what an unlisted address reads as, by rising address -/
  mem : List Host.Cell
  mod : ModeMgr
  clk : Clocks
  seq : Vector Engine 8
  evt : EventCtl
  flash : Option FlashOp
  bus : BusOut
  acq : AcqState
  pos : PosState
  cle : CleState
  wfu : WfuState
  gdp : GdpState
  tdu : Vector TdChan 2
  budget : Budget
  act : ActState
  aux : AuxState
  enp : EnpState
  th : ThState
  gte : GteState
  net : NetState
  cnv : CnvState
  twn : TwnState
  saf : SafState
  /-- the model's own: how many free values have been taken -/
  freeCount : Nat
  deriving DecidableEq, Repr

/-! ### Reset

The machine right after power-on reset: BOOT begins, every register has its reset value, no step of R66 has been made.
Where the manual gives no value for what is no register, the model's values below stand in log entries 3 to 7. -/

/-- A queue with nothing in it. -/
def PktQueue.empty : PktQueue := ⟨[], []⟩

/-- The schedule engine at reset (R110). -/
def Engine.reset : Engine :=
  ⟨.stopped, false, 0, 0, 0, [], [], [], 0, .none, none, 0, 0, none, false⟩

/-- An application core at reset; it has not been released (R535). The values of its own registers are the model's
(log entry 7). DESIGN CHOICE, unsafe. -/
def Core.reset : Core := ⟨false, false, none, 0, true, 0, 0, 0, false, false, false, none⟩

/-- A converter at reset. -/
def AcqConv.reset : AcqConv := ⟨[], none, none, none, 0, 0, 0⟩

/-- A channel at reset. -/
def AcqChan.reset : AcqChan := ⟨0, 0, 0, false, 0, false, 0, false, false, false⟩

/-- An axis at reset. -/
def Axis.reset : Axis := ⟨false, 0, false, 0, 0, 0, none, none, false, false⟩

/-- A loop slot at reset (R205, R223). -/
def Slot.reset : Slot := ⟨0, 0, 0, 0, 0, true, false, false, false, 0, 0, none⟩

/-- A leg at reset: no switch on (R249). -/
def Leg.reset : Leg :=
  ⟨false, false, false, false, none, false, false, false, false, false, 2, 0, 0, false, false, false, false, 0, 0, 0,
    false, none, false, false, false, false, none, none, false, false⟩

/-- A table-drive channel at reset (R279). -/
def TdChan.reset : TdChan :=
  ⟨.off, 0, false, 0, 0, 0, 0, none, none, false, false, [], Vector.replicate 7 none, Vector.replicate 6 0, 0, 0, 0, 0, 0, 0,
    0, 0, 0, none, 0, false, none, 0, Vector.replicate 16 0, Vector.replicate 16 0, Vector.replicate 16 0, 0,
    Vector.replicate 4 0, []⟩

/-- A drive at reset (R329). -/
def ActDrive.reset : ActDrive :=
  ⟨none, false, false, false, [], 0, 0, Vector.replicate 3 0, none, 0, 0, 0, 0, 0, 0, 0, 0⟩

/-- The energy path at reset: IDLE, the relays open (R364). -/
def EnpState.reset : EnpState :=
  { phase := .idle, cmdst := .ok, exporting := false, s2 := false, pilot := 0, adv := 0, relay := false,
    confirmed := some false, relayPad := none, asked := false, pause := false, mainsFailed := false, linkFailed := false,
    relayFailed := false, toHold := false, source := 0, looked := false, used := 0, miss := Vector.replicate 3 0,
    sumsq := Vector.replicate 3 0, count := Vector.replicate 3 0, rms := Vector.replicate 3 0, stopping := false, removal := false, hinge := 0,
    ending := ⟨0, .ok, .idle⟩, bmsSeq := none, bmsOos := false, bmsLim := 0, bus := [], phi := 0 }

/-- A section at reset (R416). -/
def GateSec.reset : GateSec := ⟨0, none, false, true, false, false, none⟩

/-- A CAN channel at reset (R443). -/
def CanChan.reset : CanChan :=
  ⟨Vector.replicate 3 none, PktQueue.empty, [], false, [], [], 255, none, none, false⟩

/-- A session at reset. -/
def Session.reset : Session := ⟨false, 0, 1, none, 255, false, false, []⟩

/-- The pairs link at reset (R497). -/
def TwnState.reset : TwnState :=
  { failed := Vector.replicate 4 none, stepped := false, missed := 0, heard := none, agreed := [], forwarded := none,
    reply := none, announced := none, takeover := false, hold := false, ofs := 0, warmed := false, rampStart := 0, got := [], broken := false,
    size := 0, complete := false, stored := false, sc := 0, owed := false, sigOn := false, crc := 0, hist := 0, sigWait := false, sigAgain := false, sigBad := 0 }

/-- The block of R520, a part of code 0x00: ROLE 3, RSTIN 15 with RSTHOLD 5, pair 15 equivalent with FILT 6 and TDISC
10, every function and output unused. What R520 leaves unsaid: axes 0x2 and 0x3, REL 100, the longest disagreement
time, and zeros (log entry 5). DESIGN CHOICE, unsafe. -/
def delivery4800 : SafBlock :=
  [(0x000, 1), (0x003, 3), (0x00C, 15), (0x00D, 5), (0x010, 2), (0x011, 3), (0x012, 100), (0x01E, 0xFF), (0x01F, 0xFF),
    (0x130, 1), (0x132, 6), (0x134, 10)]

/-- The safety controller at reset (R530), with the delivery block and its CRC-32 in safety flash (R519, R520). -/
def SafState.reset : SafState :=
  { block := delivery4800, flash := delivery4800, flashKey := 0x3AF7A872, confirmed := false, loaded := none,
    loading := none, sinceLoad := 0, loadAge := 0, cargBy := none, role := 0, puid0 := 0, puid1 := 0
    tumble := Vector.replicate 16 [], demand := 0, v1 := 0, v2 := 0, invalid := false, track := [], disagree := 0
    count := Vector.replicate 16 0, withheld := 0, grant0 := 0, grant1 := 0, fresh := 0, stop := none, out := Vector.replicate 8 .off, presence := false, sigBad := 0 }

/-- The state right after power-on reset of an IXL-4800-E of step 1 with unique number 0 (log entries 3 to 7). The
registers that differ from the tables' reset values are those given there per variant, per reset and per wake: `SYS_ID`
(R40), `SYS_CAPS` (R42), `MOD_WAKECFG` (R75), `MOD_WAKESRC.POWERON` (R82) and `MOD_RSTCAUSE.POR` (R83). -/
def State.reset : State where
  pending := []
  variant := ⟨.ixl4800, false, 1, 0, 0⟩
  regs := [(0x000000, 0x1C0A0001), (0x000004, 0x008800FF), (0x120018, 0x103), (0x12001C, 0x80000000), (0x120020, 1)]
  shadow := []
  cleShadow := []
  mem := []
  mod := ⟨.boot, .off, none, .none, false, .early, false, 0, none, false, false⟩
  clk := ⟨0, 0, 0, 0x132, false, false, false, true, false, 0, false, 0, 0, none⟩
  seq := Vector.replicate 8 Engine.reset
  evt := ⟨0, 0, 0, Core.reset, Core.reset, none⟩
  flash := none
  bus := ⟨.ok, .ok, .ok, 0, 0, 0, [], false, false, CoreOwn.reset, CoreOwn.reset⟩
  acq := ⟨Vector.replicate 8 AcqConv.reset, Vector.replicate 48 AcqChan.reset, PktQueue.empty⟩
  pos := ⟨Vector.replicate 11 Axis.reset, Vector.replicate 4 ⟨false, false, false, 0⟩,
    Vector.replicate 2 ⟨0, 0, 0, true, 0, none, false⟩, 0, 0, 0, 0, 0, none⟩
  cle := ⟨Vector.replicate 64 Slot.reset, Vector.replicate 4 ⟨0, false, false, false⟩, none, false, false,
    Vector.replicate 11 0, []⟩
  wfu := ⟨Vector.replicate 42 Leg.reset, Vector.replicate 10 ⟨false, false, false, 0⟩, 0, 0⟩
  gdp := ⟨0, 0, 0, Vector.replicate 10 none, false, false, false⟩
  tdu := Vector.replicate 2 TdChan.reset
  budget := ⟨0, [], [], Vector.replicate 4 none⟩
  act := ⟨Vector.replicate 5 ActDrive.reset, Vector.replicate 2 ⟨false, 0, 0⟩, 0⟩
  aux := ⟨.stopped, .ok, false, false, Vector.replicate 8 ⟨0, 0⟩, none, false, 0, 0, 0, none⟩
  enp := EnpState.reset
  th := ⟨Vector.replicate 45 ⟨0, 0, 0, 0, true, true⟩, Vector.replicate 10 0, Vector.replicate 10 0, Vector.replicate 5 0xFFFF, false⟩
  gte := ⟨Vector.replicate 256 GateSec.reset, none, 0, 0, 0, false, false, false, [], PktQueue.empty⟩
  net := ⟨Vector.replicate 8 CanChan.reset, PktQueue.empty, false, [], Vector.replicate 2 ⟨false, false, none⟩⟩
  cnv := ⟨Vector.replicate 256 Session.reset, PktQueue.empty, [], 0⟩
  twn := TwnState.reset
  saf := SafState.reset
  freeCount := 0

end Sys2Proof.Machine
end

