-- ==== Sys2Proof/Machine/Ops.lean ====
section
/-!
DEFINITION. The operations every unit shares: reading and writing registers, fields, shadows and memory, the
presence of units in a variant (R1 to R6), and what a mode permits (R53, R57, R577).
-/

namespace Sys2Proof.Machine

/-! ### Finite loops and vectors -/

/-- `f 0`, `f 1`, …, `f (n - 1)` applied in turn. -/
def forN {σ : Type} : Nat → (Nat → σ → σ) → σ → σ
  | 0, _, s => s
  | n + 1, f, s => f n (forN n f s)

/-- `f` applied for each index of a vector of length `n`, in rising order. -/
def forFin {σ : Type} (n : Nat) (f : Fin n → σ → σ) (s : σ) : σ :=
  forN n (fun i s => if h : i < n then f ⟨i, h⟩ s else s) s

/-- Element `i` of `v` changed by `f`. -/
def vupd {α : Type} {n : Nat} (v : Vector α n) (i : Fin n) (f : α → α) : Vector α n := v.set i (f v[i])

/-- The least `i` below `n` with `p i`. -/
def firstN (n : Nat) (p : Nat → Bool) : Option Nat := (List.range n).find? p

/-- The index `i` cut to the length of an array. -/
def fin (n i : Nat) (h : 0 < n := by decide) : Fin n := ⟨i % n, Nat.mod_lt i h⟩

/-! ### Keyed stores

A store lists, by rising key, the entries that differ from what an unlisted key reads as. -/

/-- Key `a`'s entry. -/
def kvGet {α : Type} (l : List (Nat × α)) (a : Nat) : Option α :=
  match l with
  | [] => none
  | (b, w) :: t => if b = a then some w else kvGet t a

/-- The list without entries of key `a`. -/
def kvErase {α : Type} (l : List (Nat × α)) (a : Nat) : List (Nat × α) :=
  match l with
  | [] => []
  | (b, w) :: t => if b = a then kvErase t a else (b, w) :: kvErase t a

/-- `(a, v)` put in front of the first entry with a greater key. -/
def kvInsert {α : Type} (l : List (Nat × α)) (a : Nat) (v : α) : List (Nat × α) :=
  match l with
  | [] => [(a, v)]
  | (b, w) :: t => if a < b then (a, v) :: (b, w) :: t else (b, w) :: kvInsert t a v

/-- Key `a` set to `v`; `d` is what the key reads as when unlisted. -/
def kvSet {α : Type} [DecidableEq α] (l : List (Nat × α)) (a : Nat) (v d : α) : List (Nat × α) :=
  if v = d then kvErase l a else kvInsert (kvErase l a) a v

/-! ### Registers -/

namespace State

/-- The value register `r` holds. -/
def reg (s : State) (r : Nat) : Word := (kvGet s.regs r).getD (regReset r)

/-- Register `r` takes `v`. -/
def setReg (s : State) (r : Nat) (v : Word) : State := { s with regs := kvSet s.regs r v (regReset r) }

/-- Register `r` changed by `f`. -/
def modReg (s : State) (r : Nat) (f : Word → Word) : State := s.setReg r (f (s.reg r))

/-- Field `f` of register `r`, as a number. -/
def fld (s : State) (r : Nat) (f : Fld) : Nat := (s.reg r).bits f.hi f.lo

/-- Whether the one-bit field `f` of register `r` is set. -/
def bit (s : State) (r : Nat) (f : Fld) : Bool := (s.reg r).bit f.lo

/-- Field `f` of register `r` as a signed number. -/
def sfld (s : State) (r : Nat) (f : Fld) : Int :=
  let n := s.fld r f
  if 2 ^ (f.hi - f.lo) ≤ n then (n : Int) - 2 ^ (f.hi + 1 - f.lo) else n

/-- Field `f` of register `r` takes `v`. -/
def setFld (s : State) (r : Nat) (f : Fld) (v : Nat) : State := s.modReg r (·.setBits f.hi f.lo v)

/-- The one-bit field `f` of register `r` is set to one. -/
def raise (s : State) (r : Nat) (f : Fld) : State := s.setFld r f 1

/-- Field `f` of register `r`, a count that saturates at the field's greatest value, is counted up. -/
def countUp (s : State) (r : Nat) (f : Fld) : State :=
  s.setFld r f (min (s.fld r f + 1) (2 ^ (f.hi + 1 - f.lo) - 1))

/-- The value of register `r` as a signed number. -/
def sreg (s : State) (r : Nat) : Int := (s.reg r).toInt

/-- The value of register `r` as a number. -/
def nreg (s : State) (r : Nat) : Nat := (s.reg r).toNat

/-! ### Shadows -/

/-- `v` waits in the shadow of register `r` for its commit point (R92). -/
def setShadow (s : State) (r : Nat) (v : Word) : State :=
  { s with shadow := kvInsert (kvErase s.shadow r) r v }

/-- `v`, written by the control engine, waits for the reload that commits register `r` (R27). -/
def setCleShadow (s : State) (r : Nat) (v : Word) : State :=
  { s with cleShadow := kvInsert (kvErase s.cleShadow r) r v }

/-- The value waiting for register `r`. -/
def shadowOf (s : State) (r : Nat) : Option Word := kvGet s.shadow r

/-- The network time (R435). -/
def now (s : State) : Word := s.reg R.NET_TIME

/-! ### Memory -/

end State

/-- The memory regions of R35. -/
inductive Region where
  | flash | sram | sched | table | session | mirror | gate
  deriving DecidableEq, Repr

/-- The region that holds byte address `a`, if any (R35). -/
def region? (a : Nat) : Option Region :=
  if a < 0x00400000 then some .flash
  else if 0x20000000 ≤ a && a < 0x20100000 then some .sram
  else if 0x21000000 ≤ a && a < 0x21080000 then some .sched
  else if 0x22000000 ≤ a && a < 0x22040000 then some .table
  else if 0x23000000 ≤ a && a < 0x23084000 then some .session
  else if 0x24000000 ≤ a && a < 0x24020000 then some .mirror
  else if 0x25000000 ≤ a && a < 0x25040000 then some .gate
  else none

/-- What a byte that nothing has written reads as: 0xFF in code flash, 0x00 elsewhere. The manual gives no contents
after power-on (log entry 3). DESIGN CHOICE, unsafe. -/
def memDefault (a : Nat) : Byte := if a < 0x00400000 then 0xFF else 0x00

namespace State

/-- The byte at address `a`. -/
def byte (s : State) (a : Nat) : Byte := (kvGet s.mem a).getD (memDefault a)

/-- The byte at address `a` takes `v`. -/
def setByte (s : State) (a : Nat) (v : Byte) : State := { s with mem := kvSet s.mem a v (memDefault a) }

/-- The half-word at address `a`, little-endian (log entry 9). PRESUMED, unsafe. -/
def half (s : State) (a : Nat) : BitVec 16 := s.byte (a + 1) ++ s.byte a

/-- The word at address `a`, little-endian (log entry 9). PRESUMED, unsafe. -/
def word (s : State) (a : Nat) : Word := s.byte (a + 3) ++ s.byte (a + 2) ++ s.byte (a + 1) ++ s.byte a

/-- The half-word at address `a` takes `v`. -/
def setHalf (s : State) (a : Nat) (v : BitVec 16) : State :=
  (s.setByte a (v.extractLsb' 0 8)).setByte (a + 1) (v.extractLsb' 8 8)

/-- The word at address `a` takes `v`. -/
def setWord (s : State) (a : Nat) (v : Word) : State :=
  (((s.setByte a (v.extractLsb' 0 8)).setByte (a + 1) (v.extractLsb' 8 8)).setByte (a + 2)
    (v.extractLsb' 16 8)).setByte (a + 3) (v.extractLsb' 24 8)

/-- The bytes from address `a` on take `l`. -/
def setBytes (s : State) (a : Nat) : List Byte → State
  | [] => s
  | b :: t => (s.setByte a b).setBytes (a + 1) t

/-- `n` bytes from address `a` on. -/
def bytes (s : State) (a n : Nat) : List Byte := (List.range n).map fun i => s.byte (a + i)

/-- Word `i` of table memory (R35, R135). -/
def tableWord (s : State) (i : Nat) : Word := s.word (0x22000000 + 4 * (i % 65536))

/-! ### Presence (R1 to R6) -/

/-- Traction motor B is present (R1). -/
def hasB (s : State) : Bool := s.variant.part != .ixl4830

/-- The charger is present (R1). -/
def hasCharger (s : State) : Bool := s.variant.part == .ixl4800 || s.variant.part == .ixl4820

/-- The pairs link is present (R1). -/
def hasPairs (s : State) : Bool := s.variant.part == .ixl4800 || s.variant.part == .ixl4810

end State

/-! ### Modes and what they permit -/

/-- The code of R52. -/
def Mode.code : Mode → Nat
  | .off => 0 | .boot => 1 | .idle => 2 | .commission => 3 | .parked => 4 | .drive => 5 | .field => 6
  | .charge => 7 | .supply => 8 | .service => 9 | .limp => 10 | .lockout => 11

/-- The mode of a code; none for 0xC to 0xF (R52). -/
def Mode.ofCode : Nat → Option Mode
  | 0 => some .off | 1 => some .boot | 2 => some .idle | 3 => some .commission | 4 => some .parked
  | 5 => some .drive | 6 => some .field | 7 => some .charge | 8 => some .supply | 9 => some .service
  | 10 => some .limp | 11 => some .lockout | _ => none

/-- The code of R13. -/
def Status.code : Status → Nat
  | .ok => 0 | .busy => 1 | .notPresent => 2 | .wrongMode => 3 | .outOfRange => 4 | .timeout => 5
  | .retriedOk => 6 | .failedTwice => 7 | .locked => 8 | .late => 9

/-- The functions of the table of R53; the park lock and the other gearbox actuators are told apart. -/
inductive Func where
  | traction | sections | charger | exportPort | aux | parkLock | gearbox | stageTest
  deriving DecidableEq, Repr

/-- The table of R53, with the reading of "test only" of R577; `limpSec` is `MOD_CFG.LIMP_SEC`. -/
def Mode.permits (m : Mode) (limpSec : Bool) : Func → Bool
  | .traction => m == .drive || m == .field || m == .limp || m == .service
  | .sections => m == .field || m == .service || (m == .limp && limpSec)
  | .charger => m == .charge || m == .service
  | .exportPort => m == .supply || m == .service
  | .aux => m == .parked || m == .drive || m == .field || m == .charge || m == .supply || m == .service || m == .limp
  | .parkLock => m == .idle || m == .parked || m == .drive || m == .field || m == .charge || m == .supply
      || m == .service || m == .limp
  | .gearbox => m == .parked || m == .drive || m == .field || m == .service || m == .limp
  | .stageTest => m == .service

namespace State

/-- The present mode. -/
def mode (s : State) : Mode := s.mod.cur

/-- The units that run in every mode but OFF and BOOT run (R110, R163, R195). -/
def up (s : State) : Bool := s.mode != .off && s.mode != .boot

/-- `MOD_CFG.LIMP_SEC`. -/
def limpSec (s : State) : Bool := s.bit R.MOD_CFG F.MOD_CFG_LIMP_SEC

/-- The target of the pending transition, where one is pending, or of one abandoned since the last boundary (R57). -/
def pendTarget (s : State) : Option Mode :=
  match s.mod.trans with
  | some t => if t.pend then some t.tgt else s.mod.suspended
  | none => s.mod.suspended

/-- The lock-out is in force (R73). -/
def lockInForce (s : State) : Bool := s.mod.lock == .inForce

/-- The mode, and while a transition is pending its target too, permits the function (R53, R57). -/
def modePermits (s : State) (f : Func) : Bool :=
  s.mode.permits s.limpSec f &&
    (match s.pendTarget with
     | some m => m.permits s.limpSec f
     | none => true)

/-- The function is permitted: by the mode, and not shut off by a lock-out in force (R53, R73). -/
def permits (s : State) (f : Func) : Bool := s.modePermits f && !s.lockInForce

end State

/-! ### Packet queues (R11, R12) -/

/-- Words held. -/
def PktQueue.words (q : PktQueue) : Nat := q.begun.length + (q.waiting.map (·.words.length)).sum

/-- Whole packets waiting (R12). -/
def PktQueue.count (q : PktQueue) : Nat := q.waiting.length

/-- A packet arrives. -/
def PktQueue.push (q : PktQueue) (p : Packet) : PktQueue := { q with waiting := q.waiting ++ [p] }

/-- The most urgent packet, the earliest among equals, taken out of a list. -/
def takeUrgent : List Packet → Option (Packet × List Packet)
  | [] => none
  | p :: t =>
    match takeUrgent t with
    | none => some (p, t)
    | some (q, r) => if q.prio < p.prio then some (q, p :: r) else some (p, t)

/-- The next word, and the queue after it: the packet begun goes on to its END word before any other (R12). -/
def PktQueue.pop (q : PktQueue) : Option (Word × PktQueue) :=
  match q.begun with
  | w :: t => some (w, { q with begun := t })
  | [] =>
    match takeUrgent q.waiting with
    | some (p, rest) =>
      match p.words with
      | w :: t => some (w, ⟨t, rest⟩)
      | [] => none
    | none => none

/-- The tag of a queue word (R11): VALID, END, CNT and PRI over a 24-bit payload. -/
def tagWord (last : Bool) (cnt prio payload : Nat) : Word :=
  Word.field 31 31 1 ||| Word.field 30 30 (Word.ofBool last) ||| Word.field 29 28 cnt ||| Word.field 27 24 prio
    ||| Word.field 23 0 payload

/-- Payloads tagged as a packet whose words are no byte-stream data: CNT 0b11, END on the last (R11). -/
def tagPlain (prio : Nat) : List Nat → List Word
  | [] => []
  | [p] => [tagWord true 3 prio p]
  | p :: t => tagWord false 3 prio p :: tagPlain prio t

/-- A byte stream as data words of three bytes, the first byte in the low bits, with each word's count (R11). -/
def tagBytes (prio : Nat) : List Byte → List Word
  | [] => []
  | [a] => [tagWord true 0 prio a.toNat]
  | [a, b] => [tagWord true 1 prio (a.toNat + 256 * b.toNat)]
  | [a, b, c] => [tagWord true 2 prio (a.toNat + 256 * b.toNat + 65536 * c.toNat)]
  | a :: b :: c :: t => tagWord false 2 prio (a.toNat + 256 * b.toNat + 65536 * c.toNat) :: tagBytes prio t

/-! ### The canonical form of the stores -/

/-- Keys strictly rising from `lo` on, and no entry that an unlisted key reads as. -/
def kvWf {α : Type} [DecidableEq α] (d : Nat → α) (lo : Nat) : List (Nat × α) → Bool
  | [] => true
  | (a, v) :: t => decide (lo ≤ a) && v != d a && kvWf d (a + 1) t

/-- The canonical form of memory: addresses strictly rising, and no byte listed that an unlisted address reads as. -/
def Memory.wf (l : List Host.Cell) : Bool := kvWf memDefault 0 l

/-- The canonical form of the registers. -/
def regsWf (l : List (Nat × Word)) : Bool := kvWf regReset 0 l

end Sys2Proof.Machine
end

