-- ==== Sys2Proof/Machine/SchedWords.lean ====
section
/-!
DEFINITION. The words of the schedule instructions in schedule memory (R122 to R148): their decoder, which refuses the
malformed encodings of R123, and their encoder.
-/

namespace Sys2Proof.Machine

/-! ### The instruction words (R122 to R148) -/

/-- Bits `hi` down to `lo` of a word as a bit vector. -/
def cut (w : Word) (hi lo : Nat) : BitVec (hi + 1 - lo) := w.extractLsb' lo (hi + 1 - lo)

/-- The v register that bits `lo + 3` down to `lo` name. -/
def vAt (w : Word) (lo : Nat) : Fin 16 := fin 16 (w.bits (lo + 3) lo)

/-- Bits `hi` down to `lo` are zero, as R123 asks of reserved bits. -/
def clearBits (w : Word) (hi lo : Nat) : Bool := w.bits hi lo == 0

/-- `some x` where the reserved bits stand as they must. -/
def checked {α : Type} (ok : Bool) (x : α) : Option α := if ok then some x else none

/-- The functions of `alu`; codes 0x9 to 0xF are reserved (R132). -/
def aluOfCode : Nat → Option AluFn
  | 0 => some .add | 1 => some .sub | 2 => some .and | 3 => some .or | 4 => some .xor | 5 => some .shl | 6 => some .shr
  | 7 => some .sar | 8 => some .mul | _ => none

/-- The timeout an instruction carries (R126): none without X; bits 31:24 of the extension word are reserved. -/
def timeoutOf (x : Bool) (ext : Word) : Option Timeout :=
  if x then checked (clearBits ext 31 24) (some (cut ext 23 0)) else some none

/-- The instruction of engine `e` that word `w`, followed by `ext`, holds; none for a malformed one (R123). -/
def decodeSched (e : Fin 8) (w ext : Word) : Option Instr :=
  match w.bits 31 26 with
  | 0x00 => checked (clearBits w 25 0) (.halt e)
  | 0x01 => checked (clearBits w 17 0) (.mov e (vAt w 22) (vAt w 18))
  | 0x02 =>
    if w.bit 21 then checked (clearBits w 20 0) (.ldi e (vAt w 22) (.ext ext))
    else checked (clearBits w 20 16) (.ldi e (vAt w 22) (.imm (cut w 15 0)))
  | 0x03 =>
    match aluOfCode (w.bits 17 14) with
    | some fn =>
      if w.bit 13 then checked (clearBits w 12 0) (.alu e (vAt w 22) (vAt w 18) fn (.ext ext))
      else checked (clearBits w 12 4) (.alu e (vAt w 22) (vAt w 18) fn (.reg (vAt w 0)))
    | none => none
  | 0x04 => checked (clearBits w 21 21 && clearBits w 1 0) (.ldu e (vAt w 22) (cut w 20 16) (cut w 15 2))
  | 0x05 =>
    if w.bit 1 then checked (clearBits w 25 22 && clearBits w 0 0) (.stu e (.ext ext) (w.bit 21) (cut w 20 16) (cut w 15 2))
    else checked (clearBits w 0 0) (.stu e (.reg (vAt w 22)) (w.bit 21) (cut w 20 16) (cut w 15 2))
  | 0x06 => checked (clearBits w 17 16) (.ldt e (vAt w 22) (vAt w 18) (cut w 15 0))
  | 0x07 => do
    let tmo ← timeoutOf (w.bit 24) ext
    checked (clearBits w 23 0) (.commit e (w.bit 25) tmo)
  | 0x08 =>
    if w.bit 25 then checked (clearBits w 24 22 && clearBits w 17 0) (.wtm e (.abs (vAt w 18)))
    else checked (clearBits w 24 0) (.wtm e (.rel ext))
  | 0x09 => do
    let tmo ← timeoutOf (w.bit 25) ext
    checked (clearBits w 24 24) (.wsm e (cut w 15 0) (cut w 23 16) tmo)
  | 0x0A => do
    let tmo ← timeoutOf (w.bit 25) ext
    checked (clearBits w 23 22 && clearBits w 17 4) (.wps e (w.bit 24) (vAt w 18) (cut w 3 0) tmo)
  | 0x0B => do
    let tmo ← timeoutOf (w.bit 25) ext
    checked (clearBits w 23 22 && clearBits w 17 4) (.wtr e (w.bit 24) (vAt w 18) (cut w 3 0) tmo)
  | 0x0C => do
    let tmo ← timeoutOf (w.bit 25) ext
    checked (clearBits w 24 8) (.wev e (cut w 7 0) tmo)
  | 0x10 => some (.jev e (w.bit 25) (w.bit 24) (cut w 23 16) (cut w 15 0))
  | 0x11 => some (.jmd e (w.bit 25) (cut w 24 13) (cut w 12 0))
  | 0x12 => checked (clearBits w 25 17) (.jmp e (cut w 16 0))
  | 0x13 => checked (clearBits w 25 17) (.call e (cut w 16 0))
  | 0x14 => checked (clearBits w 25 0) (.ret e)
  | 0x15 => checked (clearBits w 25 16) (.loop e (cut w 15 0))
  | 0x16 => checked (clearBits w 24 0) (.endl e (w.bit 25))
  | 0x18 => checked (clearBits w 12 0) (.gate e (vAt w 22) (vAt w 18) (vAt w 14) (w.bit 13))
  | 0x19 => checked (clearBits w 11 8) (.send e (w.bit 25) (vAt w 21) (cut w 20 12) (cut w 7 0))
  | 0x1A => checked (clearBits w 25 16) (.sig e (cut w 15 0))
  | 0x1B => checked (clearBits w 25 4) (.mreq e (cut w 3 0))
  | _ => none

/-! ### The flow of a program -/

/-- The words that instruction `i` at word address `pc` takes, where `ext` tells that it has an extension word (R122). -/
def schedLen (i : Instr) : Nat :=
  match i with
  | .ldi _ _ (.ext _) | .alu _ _ _ _ (.ext _) | .stu _ (.ext _) _ _ _ | .wtm _ (.rel _) => 2
  | .commit _ _ (some _) | .wsm _ _ _ (some _) | .wps _ _ _ _ (some _) | .wtr _ _ _ _ (some _) | .wev _ _ (some _) => 2
  | _ => 1

/-- The word addresses at which a program may go on after instruction `i` at `pc`; a return and the passes of a loop go to where
their engine's stacks, or the program itself, have been (R141 to R144). -/
def schedNext (i : Instr) (pc : Nat) : List Nat :=
  match i with
  | .halt _ | .ret _ => []
  | .jmp _ a => [a.toNat]
  | .call _ a => [a.toNat, pc + 1]
  | .jev _ _ _ _ d => [pc + 1, ((pc : Int) + d.toInt).toNat]
  | .jmd _ _ _ d => [pc + 1, ((pc : Int) + d.toInt).toNat]
  | i => [pc + schedLen i]

/-! ### The words of an instruction -/

/-- An opcode in bits 31:26 (R122). -/
def opWord (op : Nat) : Word := Word.field 31 26 op

/-- A one-bit field. -/
def bitField (i : Nat) (b : Bool) : Word := Word.field i i (Word.ofBool b)

/-- The v register `v` in bits `lo + 3` down to `lo`. -/
def vField (lo : Nat) (v : Fin 16) : Word := Word.field (lo + 3) lo v.val

/-- The code of an `alu` function (R132). -/
def aluCode : AluFn → Nat
  | .add => 0 | .sub => 1 | .and => 2 | .or => 3 | .xor => 4 | .shl => 5 | .shr => 6 | .sar => 7 | .mul => 8

/-- The extension word of a timeout (R126). -/
def timeoutWord (t : Timeout) : Word := (t.getD 0).setWidth 32

/-- The word of a schedule instruction and its extension word, 0 where it has none (R130 to R148); none for another
command. -/
def encodeSched (i : Instr) : Option (Word × Word) :=
  match i with
  | .halt _ => some (0, 0)
  | .mov _ vd vs => some (opWord 0x01 ||| vField 22 vd ||| vField 18 vs, 0)
  | .ldi _ vd (.imm k) => some (opWord 0x02 ||| vField 22 vd ||| Word.field 15 0 k.toNat, 0)
  | .ldi _ vd (.ext w) => some (opWord 0x02 ||| vField 22 vd ||| bitField 21 true, w)
  | .alu _ vd va fn (.reg vb) =>
    some (opWord 0x03 ||| vField 22 vd ||| vField 18 va ||| Word.field 17 14 (aluCode fn) ||| vField 0 vb, 0)
  | .alu _ vd va fn (.ext w) =>
    some (opWord 0x03 ||| vField 22 vd ||| vField 18 va ||| Word.field 17 14 (aluCode fn) ||| bitField 13 true, w)
  | .ldu _ vd blk ofs => some (opWord 0x04 ||| vField 22 vd ||| Word.field 20 16 blk.toNat ||| Word.field 15 2 ofs.toNat, 0)
  | .stu _ (.reg vs) g blk ofs =>
    some (opWord 0x05 ||| vField 22 vs ||| bitField 21 g ||| Word.field 20 16 blk.toNat ||| Word.field 15 2 ofs.toNat, 0)
  | .stu _ (.ext w) g blk ofs =>
    some (opWord 0x05 ||| bitField 21 g ||| Word.field 20 16 blk.toNat ||| Word.field 15 2 ofs.toNat ||| bitField 1 true, w)
  | .ldt _ vd va wofs => some (opWord 0x06 ||| vField 22 vd ||| vField 18 va ||| Word.field 15 0 wofs.toNat, 0)
  | .commit _ w tmo => some (opWord 0x07 ||| bitField 25 w ||| bitField 24 tmo.isSome, timeoutWord tmo)
  | .wtm _ (.abs vs) => some (opWord 0x08 ||| bitField 25 true ||| vField 18 vs, 0)
  | .wtm _ (.rel w) => some (opWord 0x08, w)
  | .wsm _ cnt ofs tmo =>
    some (opWord 0x09 ||| bitField 25 tmo.isSome ||| Word.field 23 16 ofs.toNat ||| Word.field 15 0 cnt.toNat,
      timeoutWord tmo)
  | .wps _ rev vs axis tmo =>
    some (opWord 0x0A ||| bitField 25 tmo.isSome ||| bitField 24 rev ||| vField 18 vs ||| Word.field 3 0 axis.toNat,
      timeoutWord tmo)
  | .wtr _ rev vs axis tmo =>
    some (opWord 0x0B ||| bitField 25 tmo.isSome ||| bitField 24 rev ||| vField 18 vs ||| Word.field 3 0 axis.toNat,
      timeoutWord tmo)
  | .wev _ src tmo => some (opWord 0x0C ||| bitField 25 tmo.isSome ||| Word.field 7 0 src.toNat, timeoutWord tmo)
  | .jev _ c n src disp =>
    some (opWord 0x10 ||| bitField 25 c ||| bitField 24 n ||| Word.field 23 16 src.toNat ||| Word.field 15 0 disp.toNat, 0)
  | .jmd _ n mask disp => some (opWord 0x11 ||| bitField 25 n ||| Word.field 24 13 mask.toNat ||| Word.field 12 0 disp.toNat, 0)
  | .jmp _ addr => some (opWord 0x12 ||| Word.field 16 0 addr.toNat, 0)
  | .call _ addr => some (opWord 0x13 ||| Word.field 16 0 addr.toNat, 0)
  | .ret _ => some (opWord 0x14, 0)
  | .loop _ cnt => some (opWord 0x15 ||| Word.field 15 0 cnt.toNat, 0)
  | .endl _ k => some (opWord 0x16 ||| bitField 25 k, 0)
  | .gate _ va vb vc rel => some (opWord 0x18 ||| vField 22 va ||| vField 18 vb ||| vField 14 vc ||| bitField 13 rel, 0)
  | .send _ p va widx ses =>
    some (opWord 0x19 ||| bitField 25 p ||| vField 21 va ||| Word.field 20 12 widx.toNat ||| Word.field 7 0 ses.toNat, 0)
  | .sig _ v => some (opWord 0x1A ||| Word.field 15 0 v.toNat, 0)
  | .mreq _ tgt => some (opWord 0x1B ||| Word.field 3 0 tgt.toNat, 0)
  | _ => none

end Sys2Proof.Machine
end

