-- ==== Sys2Proof/Machine/Flags.lean ====
section
/-!
DEFINITION. Events, sticky flags, completions and refusals: what a firing source does (R103, R538), the refused path
of the masters and of the engines (R62, R63), and the recording of an instruction's status (R104).
-/

namespace Sys2Proof.Machine
namespace State

/-! ### Events -/

/-- The bits of `b` are set in the latch of every engine; in OFF and BOOT the latches keep their reset value (R103,
R110). -/
def latchAll (s : State) (b : BitVec 256) : State :=
  { s with seq := if s.up then s.seq.map fun e => { e with evl := e.evl ||| b } else s.seq }

/-- Source `n` fires: it becomes pending and its bit is set in the latch of every engine (R103, R538). -/
def fire (s : State) (n : Nat) : State :=
  let b : BitVec 256 := BitVec.ofNat 256 (2 ^ n)
  { s with evt := { s.evt with pend := s.evt.pend ||| b } }.latchAll b

/-- Source `n` fires where `c` holds. -/
def fireIf (s : State) (c : Bool) (n : Nat) : State := if c then s.fire n else s

/-- `f` is applied where `c` holds. -/
def when (s : State) (c : Bool) (f : State → State) : State := if c then f s else s

/-- The bit `f` of `MOD_DEG` follows `b`; event 23 where it becomes 1 (R59, R61, R86). -/
def setDeg (s : State) (f : Fld) (b : Bool) : State :=
  let rises := b && !s.bit R.MOD_DEG f
  let s := s.setFld R.MOD_DEG f (Word.ofBool b)
  if rises then { s with mod := { s.mod with degRose := true } }.fire 23 else s

/-! ### Free values -/

/-- The next free value is taken. -/
def takeFree (s : State) : State := { s with freeCount := s.freeCount + 1 }

/-! ### The masters' commands -/

/-- The status of a master's last command (R13). -/
def setStatus (s : State) (m : Master) (st : Status) : State :=
  match m with
  | .host => { s with bus := { s.bus with hostStatus := st } }
  | .core0 => { s with bus := { s.bus with core0Status := st } }
  | .core1 => { s with bus := { s.bus with core1Status := st } }

/-- A refusal of a master's access to register `r` is recorded and raised (R62, R63, R85, R549). -/
def recordRefusal (s : State) (m : Master) (r : Nat) : State :=
  let rec' : Word := Word.field 31 31 1 ||| Word.field 27 24 s.mode.code ||| Word.field 20 16 (r / 65536)
    ||| Word.field 15 0 (r % 65536)
  match m with
  | .host =>
    let s := if s.bit R.HPT_REF F.HPT_REF_REFUSED then s else s.setReg R.HPT_REF rec'
    (s.countUp R.HPT_REFCNT F.HPT_REFCNT_COUNT).fire 254
  | .core0 =>
    let s := if s.bit R.MOD_REFAPP F.MOD_REFAPP_REFUSED then s else s.setReg R.MOD_REFAPP rec'
    (s.countUp R.MOD_REFCNT F.MOD_REFCNT_COUNT).fire 21
  | .core1 =>
    let s := if s.bit R.MOD_REFAPP F.MOD_REFAPP_REFUSED then s
      else s.setReg R.MOD_REFAPP (rec' ||| Word.field 28 28 1)
    (s.countUp R.MOD_REFCNT F.MOD_REFCNT_COUNT).fire 21

/-- A master's command on register `r` completes with `st`; WRONG_MODE takes the refused path (R62). -/
def complete (s : State) (m : Master) (r : Nat) (st : Status) : State :=
  let s := s.setStatus m st
  if st = .wrongMode then s.recordRefusal m r else s

/-! ### The engines' instructions -/

/-- Engine `e` changed by `f`. -/
def modEngine (s : State) (e : Fin 8) (f : Engine → Engine) : State := { s with seq := vupd s.seq e f }

/-- Engine `e`. -/
def engine (s : State) (e : Fin 8) : Engine := s.seq[e]

/-- Register v`k` of engine `e`. -/
def v (s : State) (e : Fin 8) (k : Fin 16) : Word := s.reg (R.SEQ_V e.val k.val)

/-- Register v`k` of engine `e` takes `w`. -/
def setV (s : State) (e : Fin 8) (k : Fin 16) (w : Word) : State := s.setReg (R.SEQ_V e.val k.val) w

/-- The refused path of engine `e` for the instruction with opcode `op` at word address `pc` (R62, R63, R118). MODE takes
the mode of the completion, also where a waiting commit completes later than the transfer that dropped its entries (log
entry 134). DESIGN CHOICE, unsafe. -/
def engineRefused (s : State) (e : Fin 8) (op pc : Nat) : State :=
  let n := e.val
  let s := if s.bit (R.SEQ_REF n) F.SEQ_REF_REFUSED then s
    else s.setReg (R.SEQ_REF n) (Word.field 31 31 1 ||| Word.field 30 25 op ||| Word.field 24 8 pc
      ||| Word.field 7 4 s.mode.code)
  (s.countUp (R.SEQ_CNT n) F.SEQ_CNT_REFCNT).fire (34 + 4 * n)

/-- The instruction with opcode `op` at word address `pc` of engine `e` completes with `st` (R104, R117 to R120). -/
def completeInstr (s : State) (e : Fin 8) (op pc : Nat) (st : Status) : State :=
  let n := e.val
  let s := (s.setFld (R.SEQ_LAST n) F.SEQ_LAST_OPCODE op).setFld (R.SEQ_LAST n) F.SEQ_LAST_STATUS st.code
  let head : Word := Word.field 31 31 1 ||| Word.field 30 25 op ||| Word.field 24 8 pc
  match st with
  | .ok => s
  | .retriedOk => s.countUp (R.SEQ_CNT n) F.SEQ_CNT_TRANS
  | .notPresent => s.countUp (R.SEQ_CNT n) F.SEQ_CNT_NPCNT
  | .wrongMode => s.engineRefused e op pc
  | .busy | .outOfRange | .timeout | .failedTwice | .locked | .late =>
    let s := if s.bit (R.SEQ_EXC n) F.SEQ_EXC_EXC then s
      else s.setReg (R.SEQ_EXC n) (head ||| Word.field 7 0 st.code)
    (s.countUp (R.SEQ_CNT n) F.SEQ_CNT_EXCCNT).fire (35 + 4 * n)

end State
end Sys2Proof.Machine
end

