-- ==== Sys2Proof/Machine/Acq.lean ====
section
/-!
DEFINITION. Analogue acquisition (R150 to R169): triggers and scans, window check and averaging, the latch at the
sample boundary, the result queue.
-/

namespace Sys2Proof.Machine
namespace State

/-- Converter `k` changed by `f`. -/
def modConv (s : State) (k : Fin 8) (f : AcqConv → AcqConv) : State :=
  { s with acq := { s.acq with conv := vupd s.acq.conv k f } }

/-- Channel `n` changed by `f`. -/
def modChan (s : State) (n : Fin 48) (f : AcqChan → AcqChan) : State :=
  { s with acq := { s.acq with chan := vupd s.acq.chan n f } }

/-- Channel `n` is invalid (R155). -/
def chanInvalid (s : State) (n : Nat) : Bool := s.bit (R.ACQ_CH_ST n) F.ACQ_CH_ST_INVALID

/-- A packet enters the result queue; event 147 when the packet count rises from zero (R162). -/
def acqQueuePush (s : State) (p : Packet) : State :=
  let was := s.acq.queue.count
  ({ s with acq := { s.acq with queue := s.acq.queue.push p } }).fireIf (was == 0) 147

/-- Words of the result queue in use or reserved (R162). -/
def acqQueueUsed (s : State) : Nat := s.acq.queue.words + (s.acq.conv.toList.map (·.reserved)).sum

/-- The channels of converter `k` whose bits are set in a six-bit mask, rising (R151, R162). -/
def acqMaskChannels (k mask : Nat) : List Nat :=
  ((List.range 6).filter fun j => mask.testBit j).map (6 * k + ·)

/-- A scan of converter `k` starts, with space reserved for its packet or the packet dropped (R151, R162). MASK, QMASK and QPRI
are latched here: a commit of `ACQ_Ck_CFG` during the scan changes neither its channels nor its packet (log entry 147). DESIGN
CHOICE, unsafe. -/
def scanStart (s : State) (k : Fin 8) (td : Option (Fin 2)) : State :=
  let chans := acqMaskChannels k.val (s.fld (R.ACQ_C_CFG k.val) F.ACQ_C_CFG_MASK)
  if chans = [] then s
  else
    let queued := acqMaskChannels k.val (s.fld (R.ACQ_C_CFG k.val) F.ACQ_C_CFG_QMASK)
    let need := (chans.filter fun c => queued.contains c).length
    let qmask := s.fld (R.ACQ_C_CFG k.val) F.ACQ_C_CFG_QMASK
    let qpri := s.fld (R.ACQ_C_CFG k.val) F.ACQ_C_CFG_QPRI
    let s := s.modConv k fun c => { c with qmask := qmask, qpri := qpri }
    if need = 0 then s.modConv k fun c => { c with scan := chans, scanTd := td, pkt := none, reserved := 0 }
    else if s.acqQueueUsed + need ≤ 512 then
      s.modConv k fun c => { c with scan := chans, scanTd := td, pkt := some [], reserved := need }
    else
      ((s.modConv k fun c => { c with scan := chans, scanTd := td, pkt := none, reserved := 0 }).raise
        R.ACQ_STAT F.ACQ_STAT_QOVF).fire 148

/-- A trigger arrives at converter `k`: it starts a scan, is held, or is dropped (R152, R153). `td` names the
table-drive channel whose trigger it is. -/
def triggerConv (s : State) (k : Fin 8) (td : Option (Fin 2)) : State :=
  let c := s.acq.conv[k]
  if c.scan = [] then s.scanStart k td
  else if c.held = none then s.modConv k fun c => { c with held := some td }
  else ((s.countUp (R.ACQ_C_STAT k.val) F.ACQ_C_STAT_OVRCNT).raise R.ACQ_STAT F.ACQ_STAT_TRGOVR).fire 146

/-- The trigger source with this TRIG code fires: every converter set to it is triggered (R152). -/
def acqTrigger (s : State) (code : Nat) : State :=
  let td : Option (Fin 2) := if code = 0x40 then some 0 else if code = 0x41 then some 1 else none
  forFin 8 (fun k s => s.when (s.fld (R.ACQ_C_CFG k.val) F.ACQ_C_CFG_TRIG == code) fun s => s.triggerConv k td) s

/-- Converter `k`'s scan ends: its packet enters the queue, event 149 + k is raised, and a held trigger, or in a
free-running chain the scan's own end, starts the next scan (R152, R153, R162). A chain's trigger that falls on a held
one finds the held trigger's scan running and is held in its turn (log entry 20). DEDUCED. -/
def scanEnd (s : State) (k : Fin 8) : State :=
  let c := s.acq.conv[k]
  let pri := c.qpri
  let s := s.modConv k fun c => { c with held := none, scanTd := none, pkt := none, reserved := 0 }
  let s :=
    match c.pkt with
    | some ws => if ws = [] then s else s.acqQueuePush ⟨pri, tagPlain pri (ws.map BitVec.toNat)⟩
    | none => s
  let s := s.fire (149 + k.val)
  let s :=
    match c.held with
    | some td => s.scanStart k td
    | none => s
  s.when (s.fld (R.ACQ_C_CFG k.val) F.ACQ_C_CFG_TRIG == 1) fun s => s.triggerConv k none

/-- The payload of a queued conversion: CH, REJ and RAW (R165). -/
def acqPayload (n code : Nat) (rej : Bool) : Word :=
  Word.field 23 18 n ||| Word.field 17 17 (Word.ofBool rej) ||| Word.field 11 0 code

/-- The substitute value of an invalid channel under SUBPOL, in the result format (R156). -/
def acqSubstitute (s : State) (n : Fin 48) : Nat :=
  if s.bit (R.ACQ_CH_CFG n.val) F.ACQ_CH_CFG_SUBPOL then
    let code := s.fld (R.ACQ_CH_ST n.val) F.ACQ_CH_ST_LAST
    let code := max (min code (s.fld (R.ACQ_CH_WIN n.val) F.ACQ_CH_WIN_MAX)) (s.fld (R.ACQ_CH_WIN n.val) F.ACQ_CH_WIN_MIN)
    code * 2 ^ s.fld (R.ACQ_CH_CFG n.val) F.ACQ_CH_CFG_AVGN / 2 ^ s.fld (R.ACQ_CH_CFG n.val) F.ACQ_CH_CFG_SHIFT % 2 ^ 20
  else s.acq.chan[n].avg

/-- A good conversion joins the sum, and a full sum becomes the latest average (R159). -/
def acqAccumulate (s : State) (n : Fin 48) (code : Nat) : State :=
  let c := s.acq.chan[n]
  let sum := c.sum + code
  let count := c.count + 1
  if 2 ^ s.fld (R.ACQ_CH_CFG n.val) F.ACQ_CH_CFG_AVGN ≤ count then
    s.modChan n fun c =>
      { c with sum := 0, count := 0, newAvg := true
               avg := sum / 2 ^ s.fld (R.ACQ_CH_CFG n.val) F.ACQ_CH_CFG_SHIFT % 2 ^ 20 }
  else s.modChan n fun c => { c with sum := sum, count := count }

/-- Whether a code lies in channel `n`'s window (R155). -/
def inWindow (s : State) (n code : Nat) : Bool :=
  decide (s.fld (R.ACQ_CH_WIN n) F.ACQ_CH_WIN_MIN ≤ code) && decide (code ≤ s.fld (R.ACQ_CH_WIN n) F.ACQ_CH_WIN_MAX)

/-- A conversion of channel `n` is judged: window, transient and lasting rejection, accumulation (R155, R156, R159). One made
while the channel is invalid does not become its last good conversion (log entry 149). DESIGN CHOICE, unsafe. -/
def judgeConversion (s : State) (n : Fin 48) (code : Nat) : State :=
  let c := s.acq.chan[n]
  let good := s.inWindow n.val code
  let s := s.setFld (R.ACQ_CH_ST n.val) F.ACQ_CH_ST_LAST code
  if s.chanInvalid n.val then s
  else if good then
    let s := s.when c.rejected fun s => s.countUp (R.ACQ_CH_ST n.val) F.ACQ_CH_ST_TRANS
    (s.modChan n fun c => { c with rejected := false, lastGood := code }).acqAccumulate n code
  else if c.rejected then
    ((s.modChan n fun c => { c with rejected := false }).raise (R.ACQ_CH_ST n.val) F.ACQ_CH_ST_INVALID).fire 144
  else (s.modChan n fun c => { c with rejected := true }).fire 145

/-- What a consumer of single conversions receives for the latest conversion of channel `n` (R156); before the first good one
the last good conversion is 0 (log entry 148). DESIGN CHOICE, unsafe. -/
def singleValue (s : State) (n : Fin 48) : Nat :=
  if s.chanInvalid n.val then s.acqSubstitute n
  else if s.acq.chan[n].rejected then s.acq.chan[n].lastGood
  else s.fld (R.ACQ_CH_ST n.val) F.ACQ_CH_ST_LAST

/-- The channel whose conversion completes next on converter `k`, and the table-drive channel it goes to. -/
def nextConversion (s : State) (k : Fin 8) : Option (Fin 48 × Option (Fin 2)) :=
  match s.acq.conv[k].scan with
  | [] => none
  | n :: _ => some (fin 48 n, s.acq.conv[k].scanTd)

/-- Converter `k` delivers `code` for the next channel of its scan (R151, R155, R162). -/
def acqConversion (s : State) (k : Fin 8) (code : BitVec 12) : State :=
  match s.acq.conv[k].scan with
  | [] => s
  | n :: rest =>
    let rej := !s.inWindow n code.toNat
    let s := s.judgeConversion (fin 48 n) code.toNat
    let queued := (acqMaskChannels k.val s.acq.conv[k].qmask).contains n
    let s := s.modConv k fun c =>
      { c with scan := rest
               pkt := if queued then c.pkt.map (· ++ [acqPayload n code.toNat rej]) else c.pkt }
    if rest = [] then s.scanEnd k else s

/-- The latch at a sample boundary (R160, R161). -/
def acqLatch (s : State) : State :=
  forFin 48 (fun n s =>
    let inv := s.chanInvalid n.val
    let v := if inv then s.acqSubstitute n else s.acq.chan[n].avg
    s.modChan n fun c =>
      { c with latched := v, stale := !c.newAvg, subst := inv, newAvg := false, ready := true }) s

/-- The word a read of `ACQ_CHn_RES` returns (R161, R167), and the state with the result consumed (R9). -/
def acqResRead (s : State) (n : Fin 48) : Word × State :=
  let c := s.acq.chan[n]
  if c.ready then
    (Word.field 31 31 1 ||| Word.field 30 30 (Word.ofBool c.stale) ||| Word.field 29 29 (Word.ofBool c.subst)
      ||| Word.field 19 0 c.latched, s.modChan n fun c => { c with ready := false })
  else (0, s)

/-- The word a read of `ACQ_QPOP` returns, and the state with it popped (R12, R162). -/
def acqPop (s : State) : Word × State :=
  match s.acq.queue.pop with
  | some (w, q) => (w, { s with acq := { s.acq with queue := q } })
  | none => (0, s)

/-- The result queue is flushed (R12). -/
def acqFlush (s : State) : State := { s with acq := { s.acq with queue := .empty } }

/-- What the acquisition status registers read as (R165, R166); none for a register that is stored. PKTS has nine bits and reads 0 at
512 packets (log entry 164). DESIGN CHOICE, unsafe. -/
def acqView (s : State) (r : Nat) : Option Word :=
  if r = R.ACQ_INV0 then
    some (BitVec.ofNat 32 (((List.range 32).filter s.chanInvalid).map (2 ^ ·)).sum)
  else if r = R.ACQ_INV1 then
    some (BitVec.ofNat 32 (((List.range 16).filter fun n => s.chanInvalid (32 + n)).map (2 ^ ·)).sum)
  else if r = R.ACQ_QSTAT then
    some (Word.field 25 16 s.acq.queue.words ||| Word.field 8 0 s.acq.queue.count)
  else
    (List.finRange 8).findSome? fun k =>
      if r = R.ACQ_C_STAT k.val then
        some (s.reg r ||| Word.field 1 1 (Word.ofBool s.acq.conv[k].held.isSome)
          ||| Word.field 0 0 (Word.ofBool (!s.acq.conv[k].scan.isEmpty)))
      else none

/-- `ACQ_Ck_CFG` commits `w`; the first scan of a free-running chain is triggered by the commit (R152). -/
def acqCommitConv (s : State) (k : Fin 8) (w : Word) : State :=
  let was := s.reg (R.ACQ_C_CFG k.val)
  let free (w : Word) : Bool := w.bits 7 0 == 1 && w.bits 21 16 != 0
  let s := s.setReg (R.ACQ_C_CFG k.val) w
  s.when (free w && !free was) fun s => s.triggerConv k none

/-- `ACQ_CHn_CFG` commits `w`: the sum in progress is discarded (R160). -/
def acqCommitChan (s : State) (n : Fin 48) (w : Word) : State :=
  (s.setReg (R.ACQ_CH_CFG n.val) w).modChan n fun c => { c with sum := 0, count := 0 }

/-- Channel `n` returns to service (R157). -/
def acqReturn (s : State) (n : Fin 48) : State :=
  (s.setFld (R.ACQ_CH_ST n.val) F.ACQ_CH_ST_INVALID 0).modChan n fun c =>
    { c with sum := 0, count := 0, rejected := false }

/-- Every OVRCNT is zeroed, as clearing TRGOVR does (R165). -/
def acqClearOverruns (s : State) : State :=
  forN 8 (fun k s => s.setFld (R.ACQ_C_STAT k) F.ACQ_C_STAT_OVRCNT 0) s

end State

/-- A write of 1 to `ACQ_Ck_SW.GO` is a trigger under every code, while the unit runs (R152, R163). -/
def State.softTrigger (s : State) (k : Fin 8) : State :=
  if s.up then s.triggerConv k none else s

/-- ACQ_SOFTWARE_TRIGGER (R152, R163). -/
def execAcqSoftwareTrigger (k : Fin 8) (s : State) : Host.Outcome State Fault Refusal := .next (s.softTrigger k)

/-- CHANNEL_RETURN: an invalid channel returns to service (R157). -/
def execChannelReturn (n : Fin 48) (s : State) : Host.Outcome State Fault Refusal :=
  .next (if s.chanInvalid n.val then s.acqReturn n else s)

end Sys2Proof.Machine
end

