-- ==== Sys2Proof/Config.lean ====
section
/-!
DEFINITION. What the manual leaves open and the model leaves free: constants with no body, of which nothing can be
proved but that they exist. The assumption log names each (log entry 8).
-/

namespace Sys2Proof

/-- Whether an inexact quotient `a / b` whose rounding the manual does not state is rounded up. The first argument
tells the places in the manual apart. -/
opaque Config.roundUp : Nat → Int → Int → Bool

/-- A free value of 32 bits: the first argument is the place in the manual, the second how many free values have been
taken. -/
opaque Config.freeWord : Nat → Nat → Word

/-- A result the manual computes with real functions (sine, cosine, square root) to a precision it does not state: the
first argument is the place, the list the exact integer operands. -/
opaque Config.realFn : Nat → List Int → Int

end Sys2Proof
end

