-- ==== Sys2Proof/Machine/Operands.lean ====
section
/-!
DEFINITION. Number formats and operand forms: signed fields, saturation, rounding toward zero, modular differences,
the position a wait or a gate compares, and Gray code.
-/

namespace Sys2Proof.Machine

/-- `n`, of `w` bits, read as two's complement. -/
def signed (w n : Nat) : Int := if 2 ^ (w - 1) ≤ n then (n : Int) - 2 ^ w else n

/-- An integer as a 32-bit word, modulo 2^32. -/
def ofInt (i : Int) : Word := BitVec.ofInt 32 i

/-- `i` as a natural number modulo `2 ^ w`. -/
def modBits (w : Nat) (i : Int) : Nat := (i % (2 ^ w : Int)).toNat

/-- `i` saturated to `lo … hi`. -/
def sat (lo hi i : Int) : Int := if i < lo then lo else if hi < i then hi else i

/-- `i` saturated to 32 signed bits. -/
def sat32 (i : Int) : Int := sat (-2147483648) 2147483647 i

/-- `i` saturated to 16 signed bits. -/
def sat16 (i : Int) : Int := sat (-32768) 32767 i

/-- `i` saturated to `0 … 2 ^ w - 1`. -/
def satU (w : Nat) (i : Int) : Nat := (sat 0 (2 ^ w - 1) i).toNat

/-- The signed modular difference `a - b` of two counters (R16, R100). -/
def modDiff (a b : Word) : Int := (a - b).toInt

/-- `a / b` rounded toward zero; 0 where `b` is 0. -/
def tdiv (a b : Int) : Int := Int.tdiv a b

/-- `a / b` rounded down. -/
def fdiv (a b : Int) : Int := Int.fdiv a b

/-- `a - fdiv a b * b`. -/
def fmod (a b : Int) : Int := Int.fmod a b

/-- `a / b` where the manual does not state the rounding: rounded down or up, freely (log entry 8). -/
def freeDiv (place : Nat) (a b : Int) : Int :=
  fdiv a b + (if fmod a b ≠ 0 && Config.roundUp place a b then 1 else 0)

/-- The product of R202: `x` times the mantissa of coefficient `c`, shifted right and rounded down, before
saturation. -/
def mulCoef (x : Int) (c : Word) : Int := fdiv (x * signed 24 (c.bits 31 8)) (2 ^ c.bits 4 0)

/-- The binary number of an `n`-bit Gray code. -/
def ofGray : Nat → Nat → Nat
  | 0, _ => 0
  | n + 1, g =>
    let hi := ofGray n (g / 2)
    2 * hi + (hi + g) % 2

/-- The integer square root, rounded down, of `n`: the greatest `r` below `2 ^ bits` with `r * r ≤ n`. -/
def isqrt : Nat → Nat → Nat
  | 0, _ => 0
  | b + 1, n =>
    let r := 2 * isqrt b (n / 4)
    if (r + 1) * (r + 1) ≤ n then r + 1 else r

namespace State

/-- The live counter of axis `a` (R170). -/
def axisPos (s : State) (a : Nat) : Word := s.reg (R.POS_AX_POS a)

/-- Axis code `a` names an axis of this variant (R128). -/
def axisPresent (s : State) (a : Nat) : Bool := decide (a ≤ 10) && (a != 1 || s.hasB)

/-- The live travel counter of code `c` (R129). -/
def travel (s : State) (c : Nat) : Word :=
  if c = 0 then s.reg R.POS_TRV_L else if c = 1 then s.reg R.POS_TRV_R else s.reg R.POS_TRV_C

/-- The time within network time in 5 ns steps. -/
def now5 (s : State) : Nat := s.now.toNat * 200 + s.clk.coreSub * 4 / 5

/-- `f` is applied while the units run. -/
def whenUp (s : State) (f : State → State) : State := if s.up then f s else s

/-- The module belongs to a formed pair: WARM, RAMP or JOINED (R476, R495). -/
def paired (s : State) : Bool :=
  decide (2 ≤ s.fld R.TWN_ST F.TWN_ST_STATE) && decide (s.fld R.TWN_ST F.TWN_ST_STATE ≤ 4)

/-- A pair is formed and this module is not the acting lead: it runs quiet (R488, R495). -/
def quiet (s : State) : Bool :=
  let st := s.fld R.TWN_ST F.TWN_ST_STATE
  decide (2 ≤ st) && decide (st ≤ 4) && !s.bit R.TWN_ST F.TWN_ST_ACTLEAD

/-! ### Latched and agreed inputs (R194, R484) -/

/-- The agreed value of input `n` for the sample (R484). -/
def agreedOf (s : State) (n : Nat) : Option AgreeItem := s.twn.agreed.find? fun i => i.input.val == n

/-- The latched value of analogue channel `n` that the control engine, the drives and the energy path read; a CH of 48 to 63
reads channel CH - 48 (R210, log entry 168). DESIGN CHOICE, unsafe. -/
def latchedOf (s : State) (n : Nat) : Nat :=
  match s.agreedOf n with
  | some i => i.value.toNat
  | none => (s.acq.chan[fin 48 n]).latched

/-- The latched counter of axis `a` that they read. -/
def axisLatched (s : State) (a : Nat) : Word :=
  match s.agreedOf (48 + a) with
  | some i => i.value
  | none => s.reg (R.POS_AX_LAT a)

/-- The latched speed of axis `a` that they read. -/
def axisSpeed (s : State) (a : Nat) : Word :=
  match s.agreedOf (48 + a) with
  | some i => i.speed
  | none => s.cle.spd[fin 11 a]

/-- The latched word of command pad `p` that they read. -/
def padLatched (s : State) (p : Nat) : Word :=
  match s.agreedOf (59 + p) with
  | some i => i.value
  | none => s.reg (R.CLE_CMD_VAL p)

end State
end Sys2Proof.Machine
end

