-- ==== Sys2Proof/Machine/Pos.lean ====
section
/-!
DEFINITION. Position, speed and ground travel (R170 to R201): the axis counters and their failures, speeds, the travel
counters, probes and the emulation outputs.
-/

namespace Sys2Proof.Machine
namespace State

/-- Axis `a`'s record changed by `f`. -/
def modAxis (s : State) (a : Fin 11) (f : Axis → Axis) : State :=
  { s with pos := { s.pos with axis := vupd s.pos.axis a f } }

/-- Axis `a` is invalid (R178). -/
def axisInvalid (s : State) (a : Nat) : Bool := s.bit (R.POS_AX_ST a) F.POS_AX_ST_INVALID

/-- `MOD_DEG.FEEDBACK` follows the invalid motor axes; event 23 when it becomes 1 (R61, R86). -/
def refreshFeedback (s : State) : State :=
  s.setDeg F.MOD_DEG_FEEDBACK (s.axisInvalid 0 || (s.hasB && s.axisInvalid 1))

/-- The counter of axis `a` takes `w`; a motor's electrical angle follows (R172), and a change of bit 30 of a motor
counter is raised (R180). -/
def setAxisPos (s : State) (a : Nat) (w : Word) : State :=
  let was := s.axisPos a
  let s := s.setReg (R.POS_AX_POS a) w
  if a ≤ 1 && w != was then
    let pp := s.fld (R.POS_MOT_CFG a) F.POS_MOT_CFG_PP
    let pp := if pp = 0 then 16 else pp
    let eang := (w.bits 15 0 * pp + s.nreg (R.POS_MOT_EOFS a)) % 65536
    (s.setReg (R.POS_MOT_EANG a) (BitVec.ofNat 32 eang)).fireIf (w.bit 30 != was.bit 30) (171 + a)
  else s

/-- A first failure of axis `a` with the cause of R198 (R178). -/
def axisFirstFail (s : State) (a : Fin 11) (cause t : Nat) : State :=
  ((s.modAxis a fun x => { x with failed := true, failTime := t }).setFld (R.POS_AX_ST a.val) F.POS_AX_ST_CAUSE
    cause).fire 161

/-- A lasting failure of axis `a` (R178, R179). -/
def axisLasting (s : State) (a : Fin 11) : State :=
  let s := s.modAxis a fun x => { x with failed := false }
  let s := ((s.raise (R.POS_AX_ST a.val) F.POS_AX_ST_INVALID).raise R.POS_STAT F.POS_STAT_AXFAIL).fire 160
  (s.setReg (R.POS_AX_SPD a.val) 0).when (decide (a.val ≤ 1)) refreshFeedback

/-- A first failure of axis `a` turns out transient (R178). -/
def axisTransient (s : State) (a : Fin 11) : State :=
  (s.modAxis a fun x => { x with failed := false }).countUp (R.POS_AX_ST a.val) F.POS_AX_ST_TRANS

/-! ### Resolvers -/

/-- A pole-pair count of two bits, where 0 encodes 4 (R197). -/
def rpp (s : State) (x : Nat) : Nat :=
  let n := s.fld (R.POS_MOT_CFG x) F.POS_MOT_CFG_RPP
  if n = 0 then 4 else n

/-- The resolver angle in the counting direction of `POS_MOTx_CFG.INV`. -/
def resolverAngle (s : State) (x : Nat) (angle : Nat) : Nat :=
  if s.bit (R.POS_MOT_CFG x) F.POS_MOT_CFG_INV then (65536 - angle) % 65536 else angle

/-- The motor's speed from that of the tracking converter, which is the resolver's: in the counting direction, divided by RPP
and rounded toward zero (R171, R181). -/
def resolverSpeed (s : State) (x : Nat) (speed : Word) : Int :=
  let v := tdiv speed.toInt (s.rpp x)
  if s.bit (R.POS_MOT_CFG x) F.POS_MOT_CFG_INV then -v else v

/-- Motor counter `x` takes a good resolver angle (R171, R179). A commit that changes INV or SRC leaves what was held, so the first
angle after a change of INV counts the change of sign as well (log entry 165). DESIGN CHOICE, unsafe. -/
def resolverCount (s : State) (x : Fin 2) (angle : Nat) : State :=
  let a : Fin 11 := fin 11 x.val
  let ax := s.pos.axis[a]
  let n := s.rpp x.val
  if ax.seen then
    let total := ax.rem + signed 16 (modBits 16 ((angle : Int) - ax.held))
    (s.modAxis a fun y => { y with held := angle, rem := fmod total n }).setAxisPos a.val
      (s.axisPos a.val + ofInt (fdiv total n))
  else
    (s.modAxis a fun y => { y with held := angle, rem := (angle % n : Nat), seen := true }).setAxisPos a.val
      (BitVec.ofNat 32 (angle / n))

/-- The check of an excitation period (R173, R178, R181): amplitude first, then the tracking error. -/
def resolverCheck (s : State) (r : Fin 2) (amp : BitVec 12) (terr angle : BitVec 16) (speed : Word) : State :=
  let a : Fin 11 := fin 11 r.val
  let s := s.setReg (R.POS_RES_ST r.val) (Word.field 27 16 amp.toNat ||| Word.field 15 0 terr.toNat)
  let ang := s.resolverAngle r.val angle.toNat
  let s := s.modAxis a fun x => { x with sensor := ang }
  if s.fld (R.POS_MOT_CFG r.val) F.POS_MOT_CFG_SRC ≠ 0 || s.axisInvalid a.val then s
  else
    let ampOk := decide (s.fld (R.POS_RES_CFG r.val) F.POS_RES_CFG_AMIN ≤ amp.toNat)
      && decide (amp.toNat ≤ s.fld (R.POS_RES_CFG r.val) F.POS_RES_CFG_AMAX)
    let trkOk := decide ((signed 16 terr.toNat).natAbs ≤ 8 * s.fld (R.POS_RES_CFG r.val) F.POS_RES_CFG_TERR)
    if ampOk && trkOk then
      let s := s.when s.pos.axis[a].failed fun s => s.axisTransient a
      (s.resolverCount r ang).setReg (R.POS_AX_SPD a.val) (ofInt (s.resolverSpeed r.val speed))
    else if s.pos.axis[a].failed then s.axisLasting a
    else s.axisFirstFail a (if ampOk then 3 else 2) 0

/-! ### Edges of encoders and Hall groups -/

/-- 1 ms in 5 ns steps. -/
def ms5 : Nat := 200000

/-- 5 ns steps from time `t0` to time `t`, both modulo 2³² µs; none where `t0` lies ahead. -/
def age5 (t0 t : Nat) : Nat :=
  let d := (t + 858993459200 - t0 % 858993459200) % 858993459200
  if d < 429496729600 then d else 0

/-- An illegal transition older than 1 ms was transient (R178). -/
def axisSettle (s : State) (a : Fin 11) (t : Nat) : State :=
  s.when (s.pos.axis[a].failed && decide (ms5 < age5 s.pos.axis[a].failTime t)) fun s => s.axisTransient a

/-- An illegal transition of axis `a` at time `t` (R178). -/
def illegalTransition (s : State) (a : Fin 11) (t : Nat) : State :=
  let s := s.axisSettle a t
  if s.axisInvalid a.val then s
  else if s.pos.axis[a].failed then s.axisLasting a
  else s.axisFirstFail a 1 t

/-- A legal edge of axis `a` in direction `dir` at time `t` (R174, R175, R182 to R184): counted, and the first edge
after a change of direction or a timeout starts the intervals anew (log entry 21). DEDUCED. -/
def countEdge (s : State) (a : Fin 11) (dir : Bool) (t : Nat) : State :=
  let s := s.axisSettle a t
  if s.axisInvalid a.val then s
  else
    let ax := s.pos.axis[a]
    let w := s.axisPos a.val + (if dir then 1 else -1)
    let s := s.setAxisPos a.val w
    let first := ax.last.isNone || dir != ax.upward || s.bit (R.POS_AX_ST a.val) F.POS_AX_ST_STOP
    if first then
      (((s.modAxis a fun x => { x with last := some (t, w), ref := none, edged := true, upward := dir }).setFld
        (R.POS_AX_ST a.val) F.POS_AX_ST_STOP 0).raise (R.POS_AX_ST a.val) F.POS_AX_ST_DIRCHG).setReg
        (R.POS_AX_SPD a.val) 0
    else
      (s.modAxis a fun x =>
        { x with last := some (t, w), edged := true, ref := if x.ref.isNone then x.last else x.ref }).setFld
        (R.POS_AX_ST a.val) F.POS_AX_ST_DIRCHG 0

/-- The place of the levels of A (bit 0) and B (bit 1) in the quadrature sequence; A leading counts up (log entry
22). PRESUMED, unsafe. -/
def quadPlace (levels : Nat) : Nat :=
  if levels = 0 then 0 else if levels = 1 then 1 else if levels = 3 then 2 else 3

/-- The place of a Hall code in the six-step sequence U, UV, V, VW, W, WU (log entry 22); none for 0b000 and 0b111.
PRESUMED, unsafe. -/
def hallPlace (code : Nat) : Option Nat :=
  if code = 1 then some 0 else if code = 3 then some 1 else if code = 2 then some 2
  else if code = 6 then some 3 else if code = 4 then some 4 else if code = 5 then some 5 else none

/-- A change of A or B of encoder port `k` after its filter (R174). -/
def encoderEdge (s : State) (k : Fin 4) (a b : Bool) (t : Nat) : State :=
  let x : Fin 11 := fin 11 (2 + k.val)
  let was := s.pos.axis[x].sensor
  let new := Word.ofBool a + 2 * Word.ofBool b
  let s := s.modAxis x fun y => { y with sensor := new }
  let step := (quadPlace new + 4 - quadPlace was) % 4
  let inv := s.bit (R.POS_ENC_CFG k.val) F.POS_ENC_CFG_INV
  if step = 0 then s
  else if step = 2 then s.illegalTransition x t
  else s.countEdge x ((step == 1) != inv) t

/-- A change of the code of Hall group `g` (R175); the polarities of POL are taken off first. The first is judged against the
code 0b000 (log entry 123). A change from an illegal code to a legal one is neither counted nor judged (log entry 144). DESIGN
CHOICE, unsafe. -/
def hallChange (s : State) (g : Fin 3) (code : BitVec 3) (t : Nat) : State :=
  let x : Fin 11 := fin 11 (8 + g.val)
  let new := code.toNat ^^^ s.fld (R.POS_HALL_CFG g.val) F.POS_HALL_CFG_POL
  let was := s.pos.axis[x].sensor
  let s := s.modAxis x fun y => { y with sensor := new, seen := true }
  let inv := s.bit (R.POS_HALL_CFG g.val) F.POS_HALL_CFG_INV
  if new = was then s
  else
    match hallPlace was, hallPlace new with
    | some p, some q =>
      let step := (q + 6 - p) % 6
      if step = 1 then s.countEdge x (!inv) t
      else if step = 5 then s.countEdge x inv t
      else s.illegalTransition x t
    | none, some _ => s
    | _, none => s.illegalTransition x t

/-! ### SSI ports -/

/-- Motor counter `x` follows an SSI port (R171). -/
def motorFollow (s : State) (p : Nat) : State :=
  forN 2 (fun x s =>
    if s.fld (R.POS_MOT_CFG x) F.POS_MOT_CFG_SRC = p + 1 && (x = 0 || s.hasB) && !s.axisInvalid x then
      let w := s.axisPos (6 + p)
      let v := s.reg (R.POS_AX_SPD (6 + p))
      let inv := s.bit (R.POS_MOT_CFG x) F.POS_MOT_CFG_INV
      (s.setAxisPos x (if inv then -w else w)).setReg (R.POS_AX_SPD x) (if inv then -v else v)
    else s) s

/-- The motor axes that follow SSI port `p` share its lasting failure (log entry 23). DEDUCED. -/
def motorFail (s : State) (p : Nat) : State :=
  forN 2 (fun x s =>
    if s.fld (R.POS_MOT_CFG x) F.POS_MOT_CFG_SRC = p + 1 && (x = 0 || s.hasB) && !s.axisInvalid x then
      s.axisLasting (fin 11 x)
    else s) s

/-- Whether the parity of a frame's low `n` bits is even. -/
def evenParity (raw n : Nat) : Bool := ((List.range n).filter fun i => raw.testBit i).length % 2 == 0

/-- The change of a single-turn angle, where more than half a revolution counts as a revolution in the shorter direction
(R176). -/
def ssiChange (was angle : Nat) : Int :=
  let d : Int := (angle : Int) - was
  if 32768 < d then d - 65536 else if d < -32768 then d + 65536 else d

/-- The counter after a good frame: angle bits left-aligned in 15:0, turn bits or counted revolutions above (R176). -/
def ssiCounter (was : Word) (seen : Bool) (turns angle mt : Nat) : Word :=
  if mt ≠ 0 then Word.field 31 16 turns ||| Word.field 15 0 angle
  else if seen then was + ofInt (ssiChange (was.bits 15 0) angle)
  else Word.field 15 0 angle

/-- A frame read by SSI port `p` at time `t` (R176, R178, R181). The first good frame after a timeout starts no interval
(R184). -/
def ssiFrame (s : State) (p : Fin 2) (raw : Word) (lineHigh : Bool) (t : Nat) : State :=
  let a : Fin 11 := fin 11 (6 + p.val)
  let cfg := R.POS_SSI_CFG p.val
  let mt := s.fld cfg F.POS_SSI_CFG_MT
  let st := s.fld cfg F.POS_SSI_CFG_ST
  let par := Word.ofBool (s.bit cfg F.POS_SSI_CFG_PAR)
  let n := mt + st + par
  let rawN := raw.toNat % 2 ^ n
  let s := s.setReg (R.POS_SSI_RAW p.val) (BitVec.ofNat 32 rawN)
  let parityOk := par = 0 || evenParity rawN n
  let data := rawN / 2 ^ par
  let data := if s.bit cfg F.POS_SSI_CFG_GRAY then ofGray (mt + st) data else data
  let angle := data % 2 ^ st * 2 ^ (16 - st) % 65536
  let good := lineHigh && parityOk
  let s := if good then s.modAxis a fun x => { x with sensor := angle } else s
  if s.axisInvalid a.val then s
  else if good then
    let s := s.when s.pos.axis[a].failed fun s => s.axisTransient a
    let ax := s.pos.axis[a]
    let w := ssiCounter (s.axisPos a.val) ax.seen (data / 2 ^ st) angle mt
    let stopped := s.bit (R.POS_AX_ST a.val) F.POS_AX_ST_STOP
    let speed : Int :=
      match ax.last with
      | some (t0, w0) => if t0 < t && !stopped then tdiv (modDiff w w0 * 65536 * ms5) ((t : Int) - t0) else 0
      | none => 0
    let s := s.setAxisPos a.val w
    let s := ((s.modAxis a fun x => { x with seen := true, last := some (t, w) }).setFld (R.POS_AX_ST a.val)
      F.POS_AX_ST_STOP 0).setFld (R.POS_AX_ST a.val) F.POS_AX_ST_DIRCHG (Word.ofBool stopped)
    (s.setReg (R.POS_AX_SPD a.val) (ofInt speed)).motorFollow p.val
  else if s.pos.axis[a].failed then (s.axisLasting a).motorFail p.val
  else s.axisFirstFail a (if lineHigh then 5 else 4) t

/-! ### Return to service and timeout -/

/-- The wheels whose selected axis is `a` take its counter as their reference (R187). -/
def wheelAxis (s : State) (right : Bool) : Nat :=
  let sel := s.bit R.POS_TRVSRC F.POS_TRVSRC_SEL
  match right, sel with
  | false, false => s.fld R.POS_TRVSRC F.POS_TRVSRC_LPRIM
  | false, true => s.fld R.POS_TRVSRC F.POS_TRVSRC_LFALL
  | true, false => s.fld R.POS_TRVSRC F.POS_TRVSRC_RPRIM
  | true, true => s.fld R.POS_TRVSRC F.POS_TRVSRC_RFALL

/-- The reference of a wheel takes the counter of its selected axis (R186, R187). -/
def wheelRefresh (s : State) (right : Bool) : State :=
  let w := s.axisPos (s.wheelAxis right)
  if right then { s with pos := { s.pos with refR := w } } else { s with pos := { s.pos with refL := w } }

/-- Axis `a` returns to service (R179). -/
def axisReturn (s : State) (a : Fin 11) : State :=
  let ax := s.pos.axis[a]
  let s := s.setFld (R.POS_AX_ST a.val) F.POS_AX_ST_INVALID 0
  let s := s.modAxis a fun x =>
    { x with failed := false, last := none, ref := none, edged := false, held := ax.sensor
             rem := if a.val ≤ 1 then (ax.sensor % s.rpp a.val : Nat) else x.rem }
  let was := s.axisPos a.val
  let s :=
    if a.val ≤ 1 then
      let p := s.fld (R.POS_MOT_CFG a.val) F.POS_MOT_CFG_SRC
      if p = 0 then s.setAxisPos a.val (was.setBits 15 0 (ax.sensor / s.rpp a.val))
      else
        let w := s.axisPos (5 + p)
        s.setAxisPos a.val (was.setBits 15 0 ((if s.bit (R.POS_MOT_CFG a.val) F.POS_MOT_CFG_INV then -w else w).bits 15 0))
    else if a.val = 6 || a.val = 7 then s.setAxisPos a.val (was.setBits 15 0 ax.sensor)
    else s
  let s := s.when (s.wheelAxis false == a.val) fun s => s.wheelRefresh false
  let s := s.when (s.wheelAxis true == a.val) fun s => s.wheelRefresh true
  s.refreshFeedback

/-- Axis `a` times out (R184). A motor axis that follows an SSI port keeps its speed at the port's timeout, and its STOP is not
set (log entry 145). DESIGN CHOICE, unsafe. -/
def axisTimeout (s : State) (a : Fin 11) : State :=
  if a.val ≤ 1 || s.bit (R.POS_AX_ST a.val) F.POS_AX_ST_STOP then s
  else
    ((s.setReg (R.POS_AX_SPD a.val) 0).raise (R.POS_AX_ST a.val) F.POS_AX_ST_STOP).fire 162

/-! ### The sample boundary -/

/-- The speed of an encoder or Hall axis at a boundary (R182, R183). -/
def edgeSpeed (s : State) (a : Fin 11) : State :=
  let s := s.axisSettle a s.now5
  let ax := s.pos.axis[a]
  let quiet := s.axisInvalid a.val || s.bit (R.POS_AX_ST a.val) F.POS_AX_ST_STOP
    || s.bit (R.POS_AX_ST a.val) F.POS_AX_ST_DIRCHG
  let v : Int :=
    if quiet then 0
    else
      match ax.edged, ax.last, ax.ref with
      | true, some (t, w), some (t0, w0) => tdiv (modDiff w w0 * 65536 * ms5) ((t : Int) - t0)
      | false, some (t, _), _ =>
        let was := s.sreg (R.POS_AX_SPD a.val)
        let since := age5 t s.now5
        let lim : Int := if since = 0 then was.natAbs else (65536 * ms5 / since : Nat)
        let m := min (was.natAbs : Int) lim
        if was < 0 then -m else m
      | _, _, _ => 0
  (s.setReg (R.POS_AX_SPD a.val) (ofInt v)).modAxis a fun x => { x with ref := x.last, edged := false }

/-- A wheel's speed in tu per ms, Q16.16: its axis speed times its coefficient, rounded toward zero (R189). -/
def wheelSpeed (s : State) (right : Bool) : Int :=
  let a := s.wheelAxis right
  if s.axisPresent a then
    let sel := s.bit R.POS_TRVSRC F.POS_TRVSRC_SEL
    let coef := if sel then s.nreg (if right then R.POS_TRVFB_R else R.POS_TRVFB_L) else s.nreg R.POS_TRVCOEF
    let inv :=
      match right, sel with
      | false, false => s.bit R.POS_TRVSRC F.POS_TRVSRC_LPINV
      | false, true => s.bit R.POS_TRVSRC F.POS_TRVSRC_LFINV
      | true, false => s.bit R.POS_TRVSRC F.POS_TRVSRC_RPINV
      | true, true => s.bit R.POS_TRVSRC F.POS_TRVSRC_RFINV
    let v := tdiv (s.sreg (R.POS_AX_SPD a) * coef) (2 ^ 24)
    if inv then -v else v
  else 0

/-- The adjustment of `POS_TRVADJ` is added to the travel counters (R190); the emulation outputs owe no edges for it (log entry
166). DESIGN CHOICE, unsafe. -/
def travelAdjustApply (s : State) : State :=
  match s.pos.adjust with
  | none => s
  | some d =>
    let s := { s with pos := { s.pos with adjust := none } }
    ((s.modReg R.POS_TRV_L (· + d)).modReg R.POS_TRV_R (· + d)).modReg R.POS_TRV_C (· + d)

/-- The position unit at a sample boundary: latches, speeds, adjustment (R189, R190, R194). -/
def posLatch (s : State) : State :=
  let s := forFin 9 (fun i s => if i.val = 4 || i.val = 5 then s else s.edgeSpeed (fin 11 (2 + i.val))) s
  let s := forN 11 (fun a s => s.setReg (R.POS_AX_LAT a) (s.axisPos a)) s
  let s := s.setReg R.POS_GSPD (ofInt (tdiv (s.wheelSpeed false + s.wheelSpeed true) 2))
  s.travelAdjustApply

/-- The shadows of the travel selection and coefficients commit together (R186), and the selection in force is shown (R197). -/
def travelCommitted (s : State) (oldSrc : Word) : State :=
  let w := s.reg R.POS_TRVSRC
  let s := ((s.wheelRefresh false).wheelRefresh true).setFld R.POS_TRVSTAT F.POS_TRVSTAT_SEL
    (s.fld R.POS_TRVSRC F.POS_TRVSRC_SEL)
  s.fireIf (w.bits 15 0 != oldSrc.bits 15 0 || w.bit 20 != oldSrc.bit 20) 169

/-! ### Travel -/

/-- A wheel cannot advance (R187). -/
def wheelFrozen (s : State) (right : Bool) : Bool :=
  let a := s.wheelAxis right
  !s.axisPresent a || s.axisInvalid a

/-- One wheel's update: its advance in tu, and the state with reference and remainder moved on, or frozen. A wheel no longer
frozen goes on from the reference that the end of the cause left (R185, R187). -/
def wheelUpdate (s : State) (right : Bool) : Int × State :=
  let frz := if right then F.POS_TRVSTAT_RFRZ else F.POS_TRVSTAT_LFRZ
  let was := s.bit R.POS_TRVSTAT frz
  if s.wheelFrozen right then
    (0, if was then s else ((s.raise R.POS_TRVSTAT frz).raise R.POS_STAT F.POS_STAT_TRVFRZ).fire 170)
  else
    let s := s.when was fun s => s.setFld R.POS_TRVSTAT frz 0
    let a := s.wheelAxis right
    let sel := s.bit R.POS_TRVSRC F.POS_TRVSRC_SEL
    let coef := if sel then s.nreg (if right then R.POS_TRVFB_R else R.POS_TRVFB_L) else s.nreg R.POS_TRVCOEF
    let inv :=
      match right, sel with
      | false, false => s.bit R.POS_TRVSRC F.POS_TRVSRC_LPINV
      | false, true => s.bit R.POS_TRVSRC F.POS_TRVSRC_LFINV
      | true, false => s.bit R.POS_TRVSRC F.POS_TRVSRC_RPINV
      | true, true => s.bit R.POS_TRVSRC F.POS_TRVSRC_RFINV
    let d := modDiff (s.axisPos a) (if right then s.pos.refR else s.pos.refL)
    let total := (if right then s.pos.remR else s.pos.remL) + (if inv then -d else d) * coef
    let adv := fdiv total (2 ^ 24)
    let s := s.wheelRefresh right
    let s :=
      if right then { s with pos := { s.pos with remR := fmod total (2 ^ 24) } }
      else { s with pos := { s.pos with remL := fmod total (2 ^ 24) } }
    (adv, s.modReg (if right then R.POS_TRV_R else R.POS_TRV_L) (· + ofInt adv))

/-- Emulation output `m` takes `d` tu of its travel counter's advance (R193). A DIV of 0 owes nothing (log entry 24), and edges
owed one way cancel against travel the other way (log entry 146). DESIGN CHOICE, unsafe. -/
def emuAdvance (s : State) (m : Fin 2) (d : Int) : State :=
  let div := s.nreg (R.POS_EMU_DIV m.val)
  if div = 0 then s
  else
    let e := s.pos.emu[m]
    let d := if s.bit (R.POS_EMU_CFG m.val) F.POS_EMU_CFG_INV then -d else d
    let acc := e.acc + 256 * d
    let owed := e.owed + tdiv acc div
    let dropped := decide (65535 < owed.natAbs)
    let owed := sat (-65535) 65535 owed
    let s := { s with pos := { s.pos with
      emu := vupd s.pos.emu m fun e => { e with acc := acc - tdiv acc div * div, owed := owed } } }
    let s := s.setReg (R.POS_EMU_LAG m.val) (BitVec.ofNat 32 owed.natAbs)
    s.when dropped fun s => (s.raise R.POS_STAT F.POS_STAT_EMULAG).fire 173

/-- The pulse of emulation output `m`'s latest edge lasts still: MINSP, no less than 5, times 100 ns (R193). -/
def emuPulse (s : State) (m : Fin 2) : Bool :=
  match s.pos.emu[m].last with
  | some t => decide ((s.now5 + 858993459200 - t) % 858993459200 < 20 * max 5 (s.fld (R.POS_EMU_CFG m.val) F.POS_EMU_CFG_MINSP))
  | none => false

/-- The edges whose pulse is over are forgotten, so that a time that comes round again brings no pulse (R193). -/
def emuForget (s : State) : State :=
  { s with pos := { s.pos with
    emu := Vector.ofFn fun m => if s.emuPulse m then s.pos.emu[m] else { s.pos.emu[m] with last := none } } }

/-- The 1 µs update of the travel counters and of what the emulation outputs owe (R185, R193). -/
def travelUpdate (s : State) : State :=
  let (dl, s) := s.wheelUpdate false
  let (dr, s) := s.wheelUpdate true
  let s := s.setFld R.POS_TRVSTAT F.POS_TRVSTAT_SEL (s.fld R.POS_TRVSRC F.POS_TRVSRC_SEL)
  let total := s.pos.remC + dl + dr
  let dc := fdiv total 2
  let s := { s with pos := { s.pos with remC := fmod total 2 } }
  let s := s.modReg R.POS_TRV_C (· + ofInt dc)
  forFin 2 (fun m s =>
    let src := s.fld (R.POS_EMU_CFG m.val) F.POS_EMU_CFG_SRC
    if src = 0 then s.emuAdvance m dl else if src = 1 then s.emuAdvance m dr
    else if src = 2 then s.emuAdvance m dc else s) s.emuForget

/-- The commit of `POS_EMUm_CFG`: the output owes from the commit that enables it (R193). In MODE 1 `EMUm_B` is low until the first
edge (log entry 166). DESIGN CHOICE, unsafe. -/
def emuCommit (s : State) (m : Fin 2) (w : Word) : State :=
  let was := s.fld (R.POS_EMU_CFG m.val) F.POS_EMU_CFG_SRC
  let s := s.setReg (R.POS_EMU_CFG m.val) w
  if was = 3 || w.bits 5 4 = 3 then
    ({ s with pos := { s.pos with emu := vupd s.pos.emu m fun _ => ⟨0, 0, 0, false, 0, none, false⟩ } }).setReg
      (R.POS_EMU_LAG m.val) 0
  else s

/-- Emulation output `m` issues an owed edge in the direction of travel (R193). -/
def emulationEdge (s : State) (m : Fin 2) : State :=
  let e := s.pos.emu[m]
  if e.owed = 0 || s.fld (R.POS_EMU_CFG m.val) F.POS_EMU_CFG_SRC = 3 then s
  else
    let fwd := decide (0 < e.owed)
    let owed := if fwd then e.owed - 1 else e.owed + 1
    let zc := s.fld (R.POS_EMU_CFG m.val) F.POS_EMU_CFG_ZCNT
    let s := { s with pos := { s.pos with
      emu := vupd s.pos.emu m fun e =>
        { e with owed := owed, forward := fwd, phase := (if fwd then e.phase + 1 else e.phase + 3) % 4
                 zcount := if zc = 0 then 0 else (e.zcount + 1) % zc
                 last := some s.now5, zedge := decide (zc ≠ 0) && (e.zcount + 1) % zc == 0 } } }
    s.setReg (R.POS_EMU_LAG m.val) (BitVec.ofNat 32 owed.natAbs)

/-- The levels of `EMUm_A`, `EMUm_B` and `EMUm_Z`: low in OFF, BOOT and after a clock fault, and while the output is off; else
quadrature, with A leading forward, or pulse and direction; Z pulses as long as A does in pulse form (R34, R72, R193, R195, R199;
log entry 146). DESIGN CHOICE, unsafe. -/
def emuPads (s : State) (m : Fin 2) : Bool × Bool × Bool :=
  let e := s.pos.emu[m]
  if !s.up || s.clk.fault || s.fld (R.POS_EMU_CFG m.val) F.POS_EMU_CFG_SRC = 3 then (false, false, false)
  else if s.bit (R.POS_EMU_CFG m.val) F.POS_EMU_CFG_MODE then (s.emuPulse m, e.forward, s.emuPulse m && e.zedge)
  else (e.phase == 1 || e.phase == 2, e.phase == 2 || e.phase == 3, s.emuPulse m && e.zedge)

/-! ### Probes -/

/-- An edge at probe `p` (R191, R192). -/
def probeEdge (s : State) (p : Fin 4) (rising : Bool) (fine : BitVec 8) : State :=
  let cfg := R.POS_PRB_CFG p.val
  let edge := s.fld cfg F.POS_PRB_CFG_EDGE
  if !(edge.testBit (if rising then 0 else 1)) then s
  else if s.pos.probe[p].waiting then
    (({ s with pos := { s.pos with probe := vupd s.pos.probe p fun x => { x with ovr := true } } }).raise R.POS_STAT
      F.POS_STAT_PRBOVR).fire 168
  else
    let s := s.setReg (R.POS_PRB_POS p.val) (s.axisPos (s.fld cfg F.POS_PRB_CFG_AXIS))
    let s := s.setReg (R.POS_PRB_TRV p.val) (s.travel (s.fld cfg F.POS_PRB_CFG_TRV))
    let s := s.setReg (R.POS_PRB_TIME p.val) s.now
    ({ s with pos := { s.pos with probe := vupd s.pos.probe p fun _ => ⟨true, rising, false, fine.toNat⟩ } }).fire
      (164 + p.val)

/-- The word a read of `POS_PRBp_TAG` returns, and the probe re-armed (R192, R199). -/
def probeRead (s : State) (p : Fin 4) : Word × State :=
  let x := s.pos.probe[p]
  if x.waiting then
    (Word.field 31 31 1 ||| Word.field 30 30 (Word.ofBool x.rising) ||| Word.field 29 29 (Word.ofBool x.ovr)
      ||| Word.field 7 0 x.fine,
     { s with pos := { s.pos with probe := vupd s.pos.probe p fun x => { x with waiting := false } } })
  else (0, s)

/-- What `POS_INV` and `POS_STOP` read as (R197). -/
def posView (s : State) (r : Nat) : Option Word :=
  if r = R.POS_INV then some (BitVec.ofNat 32 (((List.range 11).filter s.axisInvalid).map (2 ^ ·)).sum)
  else if r = R.POS_STOP then
    some (BitVec.ofNat 32 (((List.range 11).filter fun a => s.bit (R.POS_AX_ST a) F.POS_AX_ST_STOP).map (2 ^ ·)).sum)
  else none

end State

/-- RESOLVER_CHECK (R173, R178). -/
def execResolverCheck (r : Fin 2) (amp : BitVec 12) (terr angle : BitVec 16) (speed : Word) (s : State) :
    Host.Outcome State Fault Refusal :=
  .next (if s.up && (r = 0 || s.hasB) then s.resolverCheck r amp terr angle speed else s)

/-- ENCODER_EDGE (R174). -/
def execEncoderEdge (k : Fin 4) (a b : Bool) (t : Nat) (s : State) : Host.Outcome State Fault Refusal :=
  .next (s.whenUp fun s => s.encoderEdge k a b t)

/-- ENCODER_INDEX: with ZEN = 1 an edge of Z of the polarity of ZPOL latches the counter (R174). -/
def execEncoderIndex (k : Fin 4) (rising : Bool) (s : State) : Host.Outcome State Fault Refusal :=
  .next (s.whenUp fun s =>
    if s.bit (R.POS_ENC_CFG k.val) F.POS_ENC_CFG_ZEN && (rising != s.bit (R.POS_ENC_CFG k.val) F.POS_ENC_CFG_ZPOL) then
      (s.setReg (R.POS_ENC_ZLAT k.val) (s.axisPos (2 + k.val))).fire 163
    else s)

/-- HALL_CHANGE (R175). -/
def execHallChange (g : Fin 3) (code : BitVec 3) (t : Nat) (s : State) : Host.Outcome State Fault Refusal :=
  .next (s.whenUp fun s => s.hallChange g code t)

/-- SSI_FRAME (R176). -/
def execSsiFrame (p : Fin 2) (raw : Word) (lineHigh : Bool) (t : Nat) (s : State) :
    Host.Outcome State Fault Refusal :=
  .next (s.whenUp fun s => s.ssiFrame p raw lineHigh t)

/-- AXIS_RETURN: a write of 1 to `POS_AXa_ST.INVALID` (R179). -/
def execAxisReturn (a : Fin 11) (s : State) : Host.Outcome State Fault Refusal :=
  .next (if s.axisPresent a.val && s.axisInvalid a.val then s.axisReturn a else s)

/-- AXIS_TIMEOUT (R184). -/
def execAxisTimeout (a : Fin 11) (s : State) : Host.Outcome State Fault Refusal :=
  .next (s.whenUp fun s => s.axisTimeout a)

/-- TRAVEL_UPDATE (R185). -/
def execTravelUpdate (s : State) : Host.Outcome State Fault Refusal := .next (s.whenUp State.travelUpdate)

/-- TRAVEL_ADJUST: a write of `POS_TRVADJ` waits for the next boundary and replaces an earlier one (R190). -/
def execTravelAdjust (value : Word) (s : State) : Host.Outcome State Fault Refusal :=
  .next { s with pos := { s.pos with adjust := some value } }

/-- PROBE_EDGE (R191). -/
def execProbeEdge (p : Fin 4) (rising : Bool) (fine : BitVec 8) (s : State) : Host.Outcome State Fault Refusal :=
  .next (s.whenUp fun s => s.probeEdge p rising fine)

/-- EMULATION_EDGE (R193); the edges stop with the pads after a clock fault (R34). -/
def execEmulationEdge (m : Fin 2) (s : State) : Host.Outcome State Fault Refusal :=
  .next (if s.up && !s.clk.fault then s.emulationEdge m else s)

end Sys2Proof.Machine
end

