-- ==== Sys2Proof/Machine/Cle.lean ====
section
/-!
DEFINITION. The control engine's parts (R202 to R228): one slot's computation, its detector and operation count,
command pads, bus gains, capture. The control phase that runs the slots stands in Control.lean.
-/

namespace Sys2Proof.Machine

/-! ### One slot's computation -/

/-- A value with the sticky mark that some saturation changed a result (R203). -/
abbrev SatVal := Int × Bool

/-- `x` saturated, the mark kept or set (R203). -/
def satMark (f : Bool) (x : Int) : SatVal := (sat32 x, f || sat32 x != x)

/-- The coefficient product of R202 with the mark. -/
def mulMark (f : Bool) (x : Int) (c : Word) : SatVal := satMark f (mulCoef x c)

/-- The operands of a slot's evaluation: its configuration, coefficients in use, inputs and stored state. -/
structure SlotIn where
  law : Nat
  spk : Word
  spofs : Int
  slew : Nat
  c0 : Word
  c1 : Word
  c2 : Word
  c3 : Word
  imax : Int
  imin : Int
  omax : Int
  omin : Int
  /-- set-point and measurement -/
  x : Int
  m : Int
  /-- cogging and friction terms with the marks of their saturations, when TFF = 1 -/
  tff : Option (SatVal × SatVal)
  /-- bus gain, when VFF = 1 -/
  vff : Option Int
  i : Int
  d : Int
  e1 : Int
  v1 : Int
  /-- none: the state is fresh and r1 takes rw -/
  r1 : Option Int
  deriving DecidableEq, Repr

/-- What an evaluation forms. -/
structure SlotOut where
  e : Int
  v : Int
  r : Int
  rw : Int
  i : Int
  d : Int
  y : Int
  lim : Bool
  sat : Bool
  deriving DecidableEq, Repr

/-- `rw`, `r` and `e` of the listing of R204. -/
def slotError (p : SlotIn) : Int × Int × Int × Bool :=
  let (a, f) := mulMark false p.x p.spk
  let (rw, f) := satMark f (a + p.spofs)
  let r1 := p.r1.getD rw
  let (r, f) :=
    if p.slew = 0 then (rw, f)
    else
      let (dr, f) := satMark f (rw - r1)
      satMark f (r1 + Machine.sat (-(p.slew : Int)) p.slew dr)
  let (e, f) := satMark f (r - p.m)
  (rw, r, e, f)

/-- `v`, the candidate integrator, `di` and D of the listing of R204. -/
def slotLaw (p : SlotIn) (e : Int) (f : Bool) : Int × Int × Int × Int × Bool :=
  if p.law = 3 then
    let (a, f) := mulMark f e p.c0
    let (b, f) := mulMark f p.e1 p.c1
    let (ab, f) := satMark f (a + b)
    let (g, f) := mulMark f p.v1 p.c2
    let (v, f) := satMark f (ab - g)
    (v, p.i, 0, p.d, f)
  else
    let (di, f) := mulMark f e p.c1
    let (ii, f) := satMark f (p.i + di)
    let ic := Machine.sat p.imin p.imax ii
    let (a, f) := mulMark f e p.c0
    let (v, f) := satMark f (a + ic)
    if p.law = 2 then
      let (de, f) := satMark f (e - p.e1)
      let (m2, f) := mulMark f de p.c2
      let (q, f) := satMark f (m2 - p.d)
      let (m3, f) := mulMark f q p.c3
      let (d, f) := satMark f (p.d + m3)
      let (v, f) := satMark f (v + d)
      (v, ic, di, d, f)
    else (v, ic, di, p.d, f)

/-- One evaluation (R204). Each addition of the table feed-forward saturates (log entry 25). DEDUCED. -/
def slotEval (p : SlotIn) : SlotOut :=
  let (rw, r, e, f) := slotError p
  let (v, ic, di, d, f) := slotLaw p e f
  let (u, f) :=
    match p.tff with
    | none => (v, f)
    | some (cog, fric) =>
      let (u, f) := satMark (f || cog.2 || fric.2) (v + cog.1)
      satMark f (u + fric.1)
  let (u, f) :=
    match p.vff with
    | none => (u, f)
    | some g => satMark f (fdiv (u * g) (2 ^ 16))
  let y := Machine.sat p.omin p.omax u
  let keep := p.law = 3 || (decide (p.omax < u) && decide (0 < di)) || (decide (u < p.omin) && decide (di < 0))
  { e := e, v := v, r := r, rw := rw, i := if keep then p.i else ic, d := d, y := y, lim := y != u, sat := f }

/-- The operation count of R219. -/
def slotOps (law slew : Nat) (tff vff det : Bool) : Nat :=
  7 + (if slew = 0 then 0 else 2) + (if law = 1 then 4 else if law = 2 then 7 else 5) + (if tff then 4 else 0)
    + (if vff then 2 else 0) + (if det then 2 else 0)

/-- The cost of R219 in CORE clocks. -/
def slotCost (ops : Nat) : Nat := (ops + 1) / 2 + 2

namespace State

/-- Slot `n`'s record changed by `f`. -/
def modSlot (s : State) (n : Fin 64) (f : Slot → Slot) : State :=
  { s with cle := { s.cle with slot := vupd s.cle.slot n f } }

/-- The cogging term of R211 for the page and the low half of the latched counter. -/
def cogTerm (s : State) (page a : Nat) : SatVal :=
  let i := a / 256
  let ti := (s.tableWord (256 * page + i)).toInt
  let tj := (s.tableWord (256 * page + (i + 1) % 256)).toInt
  let (d, f) := satMark false (fdiv ((tj - ti) * (a % 256 : Nat)) 256)
  satMark f (ti + d)

/-- The friction term of R211; its negation saturates as a slot's subtraction does (R203). -/
def fricTerm (fric spd : Int) : SatVal :=
  if 0 < spd then (fric, false) else if spd < 0 then satMark false (-fric) else (0, false)

/-- The state of slot `n` is cleared, and r1 takes rw at the next evaluation (R205). -/
def slotClear (s : State) (n : Fin 64) : State :=
  ((s.setReg (R.CLE_SL_INT n.val) 0).setFld (R.CLE_SL_ST n.val) F.CLE_SL_ST_OSCCNT 0).modSlot n fun x =>
    { x with d := 0, e1 := 0, v1 := 0, r1 := 0, fresh := true, win := 0 }

/-- The state of slot `n` is cleared by a blocked evaluation, and r1 takes that evaluation's rw (R205, R216). -/
def slotClearBlocked (s : State) (n : Fin 64) (rw : Int) : State :=
  (s.slotClear n).modSlot n fun x => { x with r1 := rw, fresh := false }

/-- `CLE_SLn_CFG` commits `w`; a change of LAW clears the state (R205). -/
def slotCommitCfg (s : State) (n : Fin 64) (w : Word) : State :=
  let was := s.fld (R.CLE_SL_CFG n.val) F.CLE_SL_CFG_LAW
  let s := s.setReg (R.CLE_SL_CFG n.val) w
  s.when (s.fld (R.CLE_SL_CFG n.val) F.CLE_SL_CFG_LAW != was) fun s => s.slotClear n

/-- A slot's SAT becomes set (R203, R227). -/
def slotSat (s : State) (n : Fin 64) : State :=
  if s.bit (R.CLE_SL_ST n.val) F.CLE_SL_ST_SAT then s
  else (s.raise (R.CLE_SL_ST n.val) F.CLE_SL_ST_SAT).fire 64

/-- The oscillation detector of slot `n` takes error `e` (R217): event 65 where OSC becomes set (R227), and set B from
the next sample on. With NCNT = 0 the window, the count and the last sign stand, and go on when NCNT is set again (log entry 169).
DESIGN CHOICE, unsafe. -/
def slotDetect (s : State) (n : Fin 64) (e : Int) : State :=
  let osc := R.CLE_SL_OSC n.val
  let st := R.CLE_SL_ST n.val
  let ncnt := s.fld osc F.CLE_SL_OSC_NCNT
  if ncnt = 0 then s
  else
    let x := s.cle.slot[n]
    let big := decide ((s.nreg (R.CLE_SL_BAND n.val)) < e.natAbs)
    let sg : Int := if e < 0 then -1 else 1
    let rev := big && x.sign != 0 && sg != x.sign
    let cnt := s.fld st F.CLE_SL_ST_OSCCNT + Word.ofBool rev
    let hit := decide (ncnt ≤ cnt)
    let wlen := s.fld osc F.CLE_SL_OSC_WIN
    let wlen := if wlen = 0 then 256 else wlen
    let ends := decide (wlen ≤ x.win + 1)
    let s := s.modSlot n fun x =>
      { x with sign := if big then sg else x.sign, win := if ends then 0 else x.win + 1 }
    let s := s.setFld st F.CLE_SL_ST_OSCCNT (if hit || ends then 0 else cnt)
    s.when hit fun s =>
      let s := ((s.raise st F.CLE_SL_ST_OSC).fire 65).fireIf (decide (n.val < 16)) (80 + n.val)
      s.when (s.bit osc F.CLE_SL_OSC_ALTEN && !s.bit st F.CLE_SL_ST_ALT) fun s =>
        (s.modSlot n fun x => { x with altB := true }).fire 66

/-- The word of `CLE_SLn_RES` (R215). -/
def slotResWord (y : Int) (lim : Bool) : Word :=
  Word.field 31 31 1 ||| Word.field 30 30 (Word.ofBool lim)
    ||| Word.field 29 0 (modBits 30 (sat (-536870912) 536870911 y))

/-- A read of `CLE_SLn_RES` (R9, R215). -/
def slotResRead (s : State) (n : Fin 64) : Word × State :=
  match s.cle.slot[n].res with
  | some w => (w, s.modSlot n fun x => { x with res := none })
  | none => (0, s)

/-- The requests of `CLE_SLn_CMD` are served at a boundary (R205, R218). -/
def slotRequests (s : State) : State :=
  forFin 64 (fun n s =>
    let x := s.cle.slot[n]
    let s := s.when x.rst fun s => s.slotClear n
    let s := s.when x.altB fun s => s.setFld (R.CLE_SL_ST n.val) F.CLE_SL_ST_ALT 1
    let s := s.when x.altA fun s => s.setFld (R.CLE_SL_ST n.val) F.CLE_SL_ST_ALT 0
    if x.rst || x.altA || x.altB then s.modSlot n fun x => { x with rst := false, altA := false, altB := false }
    else s) s

/-! ### Bus gains -/

/-- The gain of bus `k` for the sample (R210). -/
def busGain (s : State) (k : Nat) : State :=
  let vb := s.latchedOf (s.fld (R.CLE_VB_CFG k) F.CLE_VB_CFG_CH)
  let floor := s.fld (R.CLE_VB_CFG k) F.CLE_VB_CFG_VBMIN
  let vbmin := if floor = 0 then 1 else floor
  let low := decide (vb < vbmin)
  let g := sat32 ((s.fld (R.CLE_VB_NOM k) F.CLE_VB_NOM_VNOM * 65536 / max vb vbmin : Nat) : Int)
  let was := if k = 0 then s.cle.low0 else s.cle.low1
  let s := s.setReg (R.CLE_VB_G k) (ofInt g)
  let s := if k = 0 then { s with cle := { s.cle with low0 := low } } else { s with cle := { s.cle with low1 := low } }
  let s := s.when low fun s => s.raise R.CLE_STAT (if k = 0 then F.CLE_STAT_VBLOW0 else F.CLE_STAT_VBLOW1)
  s.fireIf (low && !was) 67

/-! ### Command pads -/

/-- Pad `p`'s record changed by `f`. -/
def modPad (s : State) (p : Fin 4) (f : CmdPad → CmdPad) : State :=
  { s with cle := { s.cle with pad := vupd s.cle.pad p f } }

/-- A complete period at command pad `p`, in 5 ns steps (R208, R209). The rounding of the quotients is not stated. The period and
the high time are those after the glitch filter FILT (log entry 167). DESIGN CHOICE, unsafe. -/
def padPeriod (s : State) (p : Fin 4) (period high : Nat) : State :=
  let form := s.fld (R.CLE_CMD_CFG p.val) F.CLE_CMD_CFG_FORM
  let high := if s.bit (R.CLE_CMD_CFG p.val) F.CLE_CMD_CFG_POL then period - high else high
  if form = 1 then
    if 10000 ≤ period && period ≤ 2000000 then
      s.modPad p fun x => { x with value := satU 16 (freeDiv 208 (high * 65536 : Nat) period)
                                   timedOut := false, range := false }
    else s.modPad p fun x => { x with value := 0, range := true }
  else if form = 2 then
    if 20000 ≤ period && period ≤ 200000000 then
      s.modPad p fun x => { x with value := satU 24 (freeDiv 208 204800000000 period)
                                   timedOut := false, range := false }
    else s.modPad p fun x => { x with value := 0, range := true }
  else s

/-- Command pad `p` times out (R209). -/
def padTimeout (s : State) (p : Fin 4) : State :=
  let form := s.fld (R.CLE_CMD_CFG p.val) F.CLE_CMD_CFG_FORM
  if form = 1 || form = 2 then
    ((s.modPad p fun x => { x with value := 0, timedOut := true }).raise R.CLE_STAT F.CLE_STAT_CMDTO).fire 70
  else s

/-- The pads' measurements are latched at the boundary (R208); forms 0 and 3 give 0. After a change of FORM the pad shows in the new
form what it last measured, until its next complete period (log entry 167). DESIGN CHOICE, unsafe. -/
def padLatch (s : State) : State :=
  forFin 4 (fun p s =>
    let x := s.cle.pad[p]
    let form := s.fld (R.CLE_CMD_CFG p.val) F.CLE_CMD_CFG_FORM
    let w : Word :=
      if form = 1 || form = 2 then
        Word.field 31 31 (Word.ofBool x.timedOut) ||| Word.field 30 30 (Word.ofBool x.range)
          ||| Word.field 23 0 x.value
      else 0
    s.setReg (R.CLE_CMD_VAL p.val) w) s

/-! ### Capture -/

/-- `CLE_CAP` commits `w`: with EN = 1 a capture starts, in place of one that runs, whose end is not reported (R212, log entry
119). DESIGN CHOICE, unsafe. -/
def captureCommit (s : State) (w : Word) : State :=
  if w.bit 31 then { s.setReg R.CLE_CAP w with cle := { s.cle with capture := some ⟨[], 0, 0⟩ } }
  else if s.cle.capture.isSome then s
  else s.setReg R.CLE_CAP w

/-- A capture that starts at this boundary takes the latched counter of its slot's axis as the boundary left FFT.AXIS
(R212). -/
def captureFrom (s : State) : State :=
  match s.cle.capture with
  | none => s
  | some c =>
    let ax := s.fld (R.CLE_SL_FFT (s.fld R.CLE_CAP F.CLE_CAP_SLOT)) F.CLE_SL_FFT_AXIS
    { s with cle := { s.cle with capture := some { c with pos := s.axisLatched ax } } }

/-- A running capture adds the sample's `v` of its slot (R212). -/
def captureSample (s : State) : State :=
  match s.cle.capture with
  | none => s
  | some c =>
    let n := s.fld R.CLE_CAP F.CLE_CAP_SLOT
    let ax := s.fld (R.CLE_SL_FFT n) F.CLE_SL_FFT_AXIS
    let w := s.axisLatched ax
    let bin := w.bits 15 8
    let (sum, cnt) := (kvGet c.bins bin).getD (0, 0)
    let bins := kvInsert (kvErase c.bins bin) bin (sum + (s.cle.slot[fin 64 n]).v1, cnt + 1)
    { s with cle := { s.cle with
      capture := some ⟨bins, c.travelled + (modDiff w c.pos).natAbs, w⟩ } }

/-- A capture that has reached its revolutions writes the means of its bins (R212). -/
def captureEnd (s : State) : State :=
  match s.cle.capture with
  | none => s
  | some c =>
    let revs := s.fld R.CLE_CAP F.CLE_CAP_REVS
    let revs := if revs = 0 then 256 else revs
    if c.travelled < revs * 65536 then s
    else
      let page := s.fld R.CLE_CAP F.CLE_CAP_PAGE
      let s := c.bins.foldl
        (fun s b => s.setWord (0x22000000 + 4 * (256 * page + b.1)) (ofInt (fdiv b.2.1 b.2.2))) s
      let s := { s with cle := { s.cle with capture := none } }
      let s := s.setFld R.CLE_CAPST F.CLE_CAPST_EMPTY (256 - c.bins.length)
      ((s.setFld R.CLE_CAP F.CLE_CAP_EN 0).raise R.CLE_CAPST F.CLE_CAPST_DONE).fire 71

/-- A capture in progress is abandoned when the mode leaves SERVICE (R212). -/
def captureAbort (s : State) : State :=
  if s.cle.capture.isSome && s.mode != .service then
    let s := { s with cle := { s.cle with capture := none } }
    ((s.setFld R.CLE_CAP F.CLE_CAP_EN 0).raise R.CLE_CAPST F.CLE_CAPST_ABORT).fire 71
  else s

/-- What the summary registers of the slots' flags read as (R224). -/
def cleView (s : State) (r : Nat) : Option Word :=
  let sum (lo : Nat) (f : Fld) : Word :=
    BitVec.ofNat 32 (((List.range 32).filter fun n => s.bit (R.CLE_SL_ST (lo + n)) f).map (2 ^ ·)).sum
  if r = R.CLE_SATF0 then some (sum 0 F.CLE_SL_ST_SAT)
  else if r = R.CLE_SATF1 then some (sum 32 F.CLE_SL_ST_SAT)
  else if r = R.CLE_OSCF0 then some (sum 0 F.CLE_SL_ST_OSC)
  else if r = R.CLE_OSCF1 then some (sum 32 F.CLE_SL_ST_OSC)
  else none

/-- A write of `CLE_CAP` by a master: LOCKED under the lock-out, WRONG_MODE outside SERVICE, else it waits for the
next boundary (R212, R223). -/
def captureWrite (s : State) (m : Master) (value : Word) : State :=
  if s.lockInForce then s.complete m R.CLE_CAP .locked
  else if s.modePermits .stageTest then (s.setShadow R.CLE_CAP value).complete m R.CLE_CAP .ok
  else s.complete m R.CLE_CAP .wrongMode

end State

/-- COMMAND_PAD_EDGE (R208). -/
def execCommandPadEdge (p : Fin 4) (period high : Nat) (s : State) : Host.Outcome State Fault Refusal :=
  .next (s.whenUp fun s => s.padPeriod p period high)

/-- COMMAND_PAD_TIMEOUT (R209). -/
def execCommandPadTimeout (p : Fin 4) (s : State) : Host.Outcome State Fault Refusal :=
  .next (s.whenUp fun s => s.padTimeout p)

/-- CAPTURE_START: a write of `CLE_CAP` (R212, R223); reserved bits written as one are a host mistake (R49). -/
def execCaptureStart (m : Master) (value : Word) (s : State) : Host.Outcome State Fault Refusal :=
  if value &&& 0x7F0000C0 ≠ 0 then .fault .hostMistake else .next (s.captureWrite m value)

/-- CAPTURE_END (R212). -/
def execCaptureEnd (s : State) : Host.Outcome State Fault Refusal := .next s.captureEnd

/-- SLOT_RESET: `CLE_SLn_CMD.RST` waits for the boundary (R205). -/
def execSlotReset (n : Fin 64) (s : State) : Host.Outcome State Fault Refusal :=
  .next (s.modSlot n fun x => { x with rst := true })

/-- SLOT_ALT_A: set A from the next boundary (R218). -/
def execSlotAltA (n : Fin 64) (s : State) : Host.Outcome State Fault Refusal :=
  .next (s.modSlot n fun x => { x with altA := true })

/-- SLOT_ALT_B: set B from the next boundary (R218). -/
def execSlotAltB (n : Fin 64) (s : State) : Host.Outcome State Fault Refusal :=
  .next (s.modSlot n fun x => { x with altB := true })

end Sys2Proof.Machine
end

