-- ==== Sys2Proof/Machine/Legs.lean ====
section
/-!
DEFINITION. The legs (R232 to R248, R289 to R291): which command row governs a leg, what its switches and pads do when
a command changes, the interlock, and the counting of turn-ons.
-/

namespace Sys2Proof.Machine

/-- The stage of a leg (R290). -/
def legStage (n : Nat) : Nat :=
  if n < 6 then 0 else if n < 12 then 1 else if n < 20 then 2 else if n < 23 then 3 else if n < 27 then 4
  else if n < 30 then 5 else if n < 33 then 6 else if n < 36 then 7 else if n < 39 then 8 else 9

/-- The legs of a stage (R290). -/
def stageLegs (st : Nat) : List Nat := (List.range 42).filter fun n => legStage n == st

/-- The enable of an external leg, 0 `XEN_TA` to 3 `XEN_CH` (R289). -/
def legEnable (n : Nat) : Nat := if n < 6 then 0 else if n < 12 then 1 else if n < 20 then 2 else 3

/-- What governs a leg's switch commands (R241): the row, with the safe levels or states it imposes. -/
inductive LegRow where
  | hiz | activeShort | safe (h l : Bool) | forced (h l : Bool) | table | skipped | wave
  deriving DecidableEq, Repr

namespace State

/-- Leg `n`. -/
def leg (s : State) (n : Nat) : Leg := s.wfu.leg[fin 42 n]

/-- Leg `n`'s record changed by `f`. -/
def modLeg (s : State) (n : Nat) (f : Leg → Leg) : State :=
  { s with wfu := { s.wfu with leg := vupd s.wfu.leg (fin 42 n) f } }

/-- Leg `n` is present (R3). -/
def legPresent (s : State) (n : Nat) : Bool :=
  decide (n < 42) && (s.hasB || !(decide (6 ≤ n) && decide (n < 12)))
    && (s.hasCharger || !(decide (20 ≤ n) && decide (n < 27)))

/-- The leg's function is permitted by the mode (R232, R53, R57). -/
def legModePermits (s : State) (n : Nat) : Bool :=
  if n < 12 then s.modePermits .traction
  else if n < 20 then s.modePermits .aux
  else if n < 27 then s.modePermits .charger || s.modePermits .exportPort
  else if n < 30 then s.modePermits .gearbox
  else if n < 33 then s.modePermits .parkLock
  else if n < 36 then s.modePermits .gearbox
  else s.modePermits .aux

/-- The leg's timebase. -/
def legTb (s : State) (n : Nat) : Nat := s.fld (R.WFU_LEG_CFG n) F.WFU_LEG_CFG_TB

/-- Timebase `t` runs. -/
def tbRunning (s : State) (t : Nat) : Bool := decide (t < 10) && s.wfu.tb[fin 10 t].running

/-- P of timebase `t`; 0 and 1 act as 2 (R252). -/
def tbPeriod (s : State) (t : Nat) : Nat := max 2 (s.fld (R.WFU_TB_CFG t) F.WFU_TB_CFG_PERIOD)

/-- The tick of timebase `t` in ns (R229). -/
def tbTick (s : State) (t : Nat) : Nat := 2 * (s.fld (R.WFU_TB_CFG t) F.WFU_TB_CFG_PRE + 1)

/-- A latched trip holds leg `n` (R243). -/
def legTripped (s : State) (n : Nat) : Bool :=
  (List.range 4).any fun k =>
    s.wfu.trip.getLsbD k &&
      (if n < 32 then (s.reg (R.WFU_TRIP_M0 k)).bit n else (s.reg (R.WFU_TRIP_M1 k)).bit (n - 32))

/-- Leg `n` is held under row 4 of R241 (R242). -/
def legHeld (s : State) (n : Nat) : Bool :=
  !(s.leg n).perm || !s.bit (R.WFU_LEG_CFG n) F.WFU_LEG_CFG_EN || !s.tbRunning (s.legTb n)

/-- Table drive is in table operation on leg `n`'s motor and drives the leg, by the TD of its latest valley (R233, R240). -/
def legTable (s : State) (n : Nat) : Bool :=
  decide (n < 12) && (s.leg n).td && s.tdu[fin 2 (n / 6)].op == .table

/-- The row that governs leg `n` (R241); a driver supply out of its window holds the integrated legs off (R302), and in SERVICE the auxiliary converter commands nothing
(R370). -/
def legRow (s : State) (n : Nat) : LegRow :=
  if (s.leg n).hiz || (decide (27 ≤ n) && !(s.gdp.vcpOk && s.gdp.vdrvOk)) then .hiz
  else if s.bit (R.GDP_LEG_ST n) F.GDP_LEG_ST_ASC then .activeShort
  else if s.legTripped n || s.legHeld n then
    .safe ((s.reg (R.WFU_LEG_CFG n)).bit 25) ((s.reg (R.WFU_LEG_CFG n)).bit 24)
  else
    match (if decide (12 ≤ n) && decide (n < 20) && s.mode == .service then none else (s.leg n).forced) with
    | some (h, l) => .forced h l
    | none => if s.legTable n then .table else if (s.leg n).skip then .skipped else .wave

/-- The enable of leg `n`'s stage is high (R289). -/
def legEnabled (s : State) (n : Nat) : Bool := s.gdp.en.getLsbD (legStage n)

/-- The pads of leg `n` follow its commands: the interlock keeps both off while both are commanded on, a low enable or
a missing driver supply keeps both off; turn-ons are counted and start their blanking (R289, R291, R292, R247). -/
def legPads (s : State) (n : Nat) : State :=
  let l := s.leg n
  let live := s.legPresent n && s.legEnabled n && (decide (n < 27) || (s.gdp.vcpOk && s.gdp.vdrvOk))
  let clash := l.cmdH && l.cmdL
  let hi := live && l.cmdH && !clash
  let lo := live && l.cmdL && !clash
  let s := s.modLeg n fun l =>
    { l with
      hi := hi, lo := lo
      swH := if hi && !l.hi then l.swH + 1 else l.swH
      swL := if lo && !l.lo then l.swL + 1 else l.swL
      blankH := if hi then l.blankH || !l.hi else false
      blankL := if lo then l.blankL || !l.lo else false
      lowSeen := l.lowSeen || lo }
  s.when clash fun s =>
    let was := s.bit R.GDP_STAT F.GDP_STAT_SHOOT_CMD
    ((s.raise (R.GDP_LEG_ST n) F.GDP_LEG_ST_SHOOT).raise R.GDP_STAT F.GDP_STAT_SHOOT_CMD).fireIf (!was) 134

/-- The commands of leg `n` are set, with the switch whose turn-on waits. A switch commanded off with its partner off
starts the partner's dead time (R244, log entry 151). -/
def legCommand (s : State) (n : Nat) (h l : Bool) (dead : Option Switch) : State :=
  (s.modLeg n fun x =>
    { x with
      cmdH := h, cmdL := l, dead := dead
      guardH := !h && !l && (x.guardH || x.cmdL), guardL := !h && !l && (x.guardL || x.cmdH)
      first := x.first && !h && !l }).legPads n

/-- Leg `n` is brought to the levels `h`, `l`: switches to be off turn off at once; a switch to be on turns on at once
where its partner has been off for the switch's own dead time, and at the end of that dead time otherwise (R244). -/
def legSettle (s : State) (n : Nat) (h l : Bool) : State :=
  let x := s.leg n
  if h && l then s.legCommand n true true none
  else if h then
    if x.cmdH then s.legCommand n true false none
    else if x.cmdL || x.guardH then s.legCommand n false false (some .high)
    else s.legCommand n true false none
  else if l then
    if x.cmdL then s.legCommand n false true none
    else if x.cmdH || x.guardL then s.legCommand n false false (some .low)
    else s.legCommand n false true none
  else s.legCommand n false false none

/-- A commanded edge toward switch `w` of leg `n`: the switch that is on turns off at once and `w` turns on after its
dead time (R236). -/
def legEdge (s : State) (n : Nat) (w : Switch) : State :=
  let x := s.leg n
  match w with
  | .high =>
    if x.cmdH then s.legCommand n true false none else s.legCommand n false false (some .high)
  | .low =>
    if x.cmdL then s.legCommand n false true none else s.legCommand n false false (some .low)

/-- The row that governs leg `n` is applied after a cause began or ended: an override takes the leg at once; where
none is left the leg keeps its levels and resumes at its first valley, in table operation as well (R241, R242, R244
to R246). -/
def legApply (s : State) (n : Nat) : State :=
  match s.legRow n with
  | .hiz => (s.modLeg n fun x => { x with resume := true }).legCommand n false false none
  | .activeShort => (s.modLeg n fun x => { x with resume := true }).legSettle n false true
  | .safe h l => (s.modLeg n fun x => { x with resume := true }).legSettle n h l
  | .forced h l => (s.modLeg n fun x => { x with resume := true }).legSettle n h l
  | .table => s.legPads n
  | .skipped => s.legSettle n false false
  | .wave => s.legPads n

/-- `legApply` for every leg. -/
def legsApply (s : State) : State := forN 42 (fun n s => if s.legPresent n then s.legApply n else s) s

/-- The dead time of leg `n` before switch `w`, in 2 ns steps, within 10 and 2,000 (R236). -/
def legDead (s : State) (n : Nat) (w : Switch) : Nat :=
  let d := match w with
    | .high => s.fld (R.WFU_LEG_DT n) F.WFU_LEG_DT_DTH
    | .low => s.fld (R.WFU_LEG_DT n) F.WFU_LEG_DT_DTL
  min 2000 (max 10 d)

/-- A compare with the dithering of position `k` (R238). -/
def dithered (w : Word) (k : Nat) (plain : Bool) : Nat :=
  let f := w.bits 3 0
  w.bits 19 4 + (if plain then 0 else (k + 1) * f / 16 - k * f / 16)

/-- Leg `n` has the bootstrap refresh (R235). -/
def legBootstrap (s : State) (n : Nat) : Bool :=
  decide (n < 27) && s.fld (R.WFU_LEG_CFG n) F.WFU_LEG_CFG_DRV == 2

/-- Leg `n` is independent (R235). -/
def legIndependent (s : State) (n : Nat) : Bool := s.fld (R.WFU_LEG_CFG n) F.WFU_LEG_CFG_DRV == 1

/-- A suppression on leg `n` is counted and shown (R237, R254). -/
def legSuppressed (s : State) (n : Nat) : State :=
  let was := s.bit (R.WFU_LEG_ST n) F.WFU_LEG_ST_SUP
  (((s.countUp (R.WFU_LEG_ST n) F.WFU_LEG_ST_SUPCNT).raise (R.WFU_LEG_ST n) F.WFU_LEG_ST_SUP).raise R.WFU_STAT
    F.WFU_STAT_SUP).fireIf (!was) 108

/-- A period of leg `n` that was not skipped ends: the consecutive periods without the low switch on are counted, from the valley
at which the leg resumed (R239, R388). -/
def legEnded (s : State) (n : Nat) : State :=
  s.modLeg n fun x => { x with noLow := if x.lowSeen || x.resume then 0 else x.noLow + 1, lowSeen := false }

/-- The period that a valley of leg `n` begins is formed: refresh, compares, suppressions (R233 to R239). The refresh pulse itself
is not judged (R239); the period's own intervals are (R237). -/
def legForm (s : State) (n : Nat) : State :=
  let x := s.leg n
  let t := s.legTb n
  let p := s.tbPeriod t
  let tick := s.tbTick t
  let noLow := x.noLow
  let refn := max 1 (s.fld (R.WFU_LEG_PULSE n) F.WFU_LEG_PULSE_REFN)
  let refresh := s.legBootstrap n && decide (refn ≤ noLow)
  let (ca, cb) :=
    match x.gov with
    | some (a, b) => (Word.field 19 0 a, Word.field 19 0 b)
    | none => (s.reg (R.WFU_LEG_CMPA n), s.reg (R.WFU_LEG_CMPB n))
  let a := min p (dithered ca s.wfu.tb[fin 10 t].k refresh)
  let b := min p (dithered cb s.wfu.tb[fin 10 t].k refresh)
  let minp := 2 * s.fld (R.WFU_LEG_PULSE n) F.WFU_LEG_PULSE_MINP
  let ind := s.legIndependent n
  let th := if ind then 2 * (p - a) else (p - a) + (p - b)
  let tl := if ind then 2 * b else 2 * p - th
  let dh := if ind then 0 else 2 * s.legDead n .high
  let dl := if ind then 0 else 2 * s.legDead n .low
  let on := !(minp == 0)
  let supH := on && decide (0 < th) && decide (th * tick < minp + dh)
  let supL := on && (ind || !supH) && decide (0 < tl) && decide (tl * tick < minp + dl)
  let s := s.modLeg n fun x =>
    { x with per := p, a := a, b := b, supH := supH, supL := supL, refresh := refresh
             noLow := if refresh then 0 else noLow }
  let s := s.when supH fun s => s.legSuppressed n
  let s := s.when supL fun s => s.legSuppressed n
  s.when refresh fun s => s.countUp (R.WFU_LEG_ST n) F.WFU_LEG_ST_REFCNT

/-- TH of the present period in ticks (R234). -/
def legTH (s : State) (n : Nat) : Nat := ((s.leg n).per - (s.leg n).a) + ((s.leg n).per - (s.leg n).b)

/-- Leg `n` skips the period that begins (R388): N from `SYS_THDER2`, counted per timebase from the first reload after N was
formed. -/
def legSkips (s : State) (n : Nat) : Bool :=
  let t := fin 10 (s.legTb n)
  let skips (d k j : Nat) : Bool := d != 0 && k != 0 && (k - 1 + j) % d == 0
  if 12 ≤ n && n < 20 then skips (s.fld R.SYS_THDER2 F.SYS_THDER2_NAUX) s.th.kAux[t] (n - 12)
  else if 20 ≤ n && n < 27 then skips (s.fld R.SYS_THDER2 F.SYS_THDER2_NCH) s.th.kCh[t] 0
  else false

/-- The skip of leg `n` for the period that begins. -/
def legSkip (s : State) (n : Nat) : State :=
  let b := s.legSkips n
  if b = (s.leg n).skip then s else (s.modLeg n fun x => { x with skip := b }).legApply n

/-- Leg `n` takes the levels `h`, `l` at its valley: where it resumes, as R244 asks; else as commanded edges (R236). -/
def legTake (s : State) (n : Nat) (resumed h l : Bool) : State :=
  if resumed then s.legSettle n h l else if h then s.legEdge n .high else if l then s.legEdge n .low
  else s.legCommand n false false none

/-- The switch states that table drive has passed to leg `n` (R240, R261). -/
def legTableState (s : State) (n : Nat) : Bool × Bool :=
  match s.tdu[fin 2 (n / 6)].applied with
  | some st => (st.getLsbD (6 + n % 6), st.getLsbD (n % 6))
  | none => ((s.leg n).cmdH, (s.leg n).cmdL)

/-- The valley of leg `n`: the period is formed; a leg under the compare waveform stands with its low switch on, but
for a high switch carried over the valley by a suppressed low interval, and for a rising compare of 0, which places its
edge at the valley: falling and rising there together is no change (R233, R234, R237). A table-drive leg that resumes, or whose
TD becomes 1 here, takes the states in force (R233, R240, R241). -/
def legValley (s : State) (n : Nat) : State :=
  let skipped := (s.leg n).skip
  let joins := s.bit (R.WFU_LEG_CFG n) F.WFU_LEG_CFG_TD && !(s.leg n).td
  let s := (s.modLeg n fun x => { x with td := s.bit (R.WFU_LEG_CFG n) F.WFU_LEG_CFG_TD }).legSkip n
  match s.legRow n with
  | .skipped => if skipped then s else s.legEnded n
  | .wave =>
    let s := if skipped then s else s.legEnded n
    let resumed := (s.leg n).resume
    let carried := (s.leg n).supL && (s.leg n).cmdH && !resumed
    let s := (s.legForm n).modLeg n fun x => { x with resume := false, first := resumed }
    let x := s.leg n
    if s.legIndependent n then
      let h := decide (x.a = 0) && !x.supH
      let l := decide (0 < x.b) && !x.supL
      if resumed then s.legSettle n h l else s.legCommand n h l none
    else if carried && decide (0 < s.legTH n) && !x.supH then s
    else s.legTake n resumed (x.a = 0 && !x.supH) (!(x.a = 0 && !x.supH))
  | .table =>
    if (s.leg n).resume then
      let st := s.legTableState n
      (s.modLeg n fun x => { x with resume := false, first := true }).legSettle n st.1 st.2
    else if joins then
      let st := s.legTableState n
      s.legTake n false st.1 st.2
    else s
  | .hiz | .activeShort | .safe _ _ | .forced _ _ => s

/-- A switch of independent leg `n` turns on at its compare: no dead time, but that its first turn-on after a resumption
obeys R244 (R235, R242). -/
def legTurnOn (s : State) (n : Nat) (w : Switch) : State :=
  let x := s.leg n
  match w with
  | .high => if x.first && x.guardH then s.legCommand n false false (some .high) else s.legCommand n true x.cmdL x.dead
  | .low => if x.first && x.guardL then s.legCommand n false false (some .low) else s.legCommand n x.cmdH true x.dead

/-- A switch of independent leg `n` turns off at its compare. -/
def legTurnOff (s : State) (n : Nat) (w : Switch) : State :=
  let x := s.leg n
  let dead := if x.dead = some w then none else x.dead
  match w with
  | .high => s.legCommand n false x.cmdL dead
  | .low => s.legCommand n x.cmdH false dead

/-- A point of leg `n`'s period is reached (R234, R235, R237, R239). A falling compare of 0 places its edge at the next
valley, which forms it (R234). A refresh takes its pulse out of the high interval: in a period that has none its steps
change nothing (log entry 150). DEDUCED, unsafe. -/
def legPoint (s : State) (n : Nat) (pt : LegPoint) : State :=
  let x := s.leg n
  match pt with
  | .valley =>
    if s.fld (R.WFU_LEG_CFG n) F.WFU_LEG_CFG_PHS % (2 * s.tbPeriod (s.legTb n)) = 0 then s else s.legValley n
  | .aUp =>
    if s.legRow n != .wave || x.resume || x.supH then s
    else if s.legIndependent n then if x.a < x.per then s.legTurnOn n .high else s
    else if s.legTH n = 0 then s
    else s.legEdge n .high
  | .aDown =>
    if s.legRow n != .wave || x.resume then s
    else if s.legIndependent n && decide (x.a ≠ 0) then s.legTurnOff n .high
    else s
  | .bUp =>
    if s.legRow n != .wave || x.resume then s
    else if s.legIndependent n && decide (x.b < x.per) then s.legTurnOff n .low
    else s
  | .bDown =>
    if s.legRow n != .wave || x.resume then s
    else if s.legIndependent n then if 0 < x.b && !x.supL then s.legTurnOn n .low else s
    else if x.supL || x.supH || x.b = 0 then s
    else s.legEdge n .low
  | .refresh k =>
    if s.legRow n != .wave || x.resume || !x.refresh || x.supH || s.legTH n = 0 then s
    else if k.val = 0 then s.legCommand n false x.cmdL none
    else if k.val = 1 then s.legCommand n x.cmdH true none
    else if k.val = 2 then s.legCommand n x.cmdH false none
    else s.legCommand n true x.cmdL none

/-- The dead time of leg `n` expires: the waiting switch turns on, and where none waits the leg may turn on at once from now
on (R236, R244). -/
def legDeadExpiry (s : State) (n : Nat) : State :=
  match (s.leg n).dead with
  | none => s.modLeg n fun x => { x with guardH := false, guardL := false }
  | some .high => s.legCommand n true (s.leg n).cmdL none
  | some .low => s.legCommand n (s.leg n).cmdH true none

/-- At a sample boundary the turn-on counts are latched (R247) and each leg's permission is judged; event 109 when the
mode's change holds a leg (R242). -/
def legsBoundary (s : State) : State :=
  let s := forN 42 (fun n s =>
    let x := s.leg n
    (s.setReg (R.WFU_LEG_SWC n) (Word.field 31 16 (min 65535 x.swH) ||| Word.field 15 0 (min 65535 x.swL))).modLeg n
      fun x => { x with swH := 0, swL := 0 }) s
  let free := (List.range 42).filter fun n => s.legPresent n && !s.legHeld n
  let s := forN 42 (fun n s => s.modLeg n fun x => { x with perm := s.legModePermits n && !s.lockInForce }) s
  let s := s.fireIf (free.any fun n => s.legHeld n) 109
  s.legsApply

end State
end Sys2Proof.Machine
end

