-- ==== Sys2Proof/Machine/Trig.lean ====
section
/-!
DEFINITION. Real functions of exact operands (R262, R263, R271, R275, R313 to R318, R344): sums with √3, the cosine and the sine of
an angle in units of 1/65,536 of a turn, and the angle of a vector. The manual states no precision: cosine, sine and √3
are formed to 40 binary places, and a result whose rounding is not stated is rounded down or up, freely (log entry 30).
-/

namespace Sys2Proof.Machine

/-- 1 and π in units of 2^-40. -/
def oneQ : Int := 1099511627776
def piQ : Int := 3454217652358

/-- √3 in units of 2^-40. -/
def root3Q : Int := 1904410002820

/-- The alternating series `1 - y/d₀ (1 - y/d₁ (1 - …))`, in units of 2^-40. -/
def seriesQ (y : Int) (ds : List Int) : Int := ds.foldr (fun d acc => oneQ - fdiv (y * acc) (oneQ * d)) oneQ

/-- Cosine and sine of `r` units of which a turn has `turn`, `r` at most an eighth of it, in units of 2^-40. -/
def trigOctant (turn r : Nat) : Int × Int :=
  if 8 * r = turn then (777472127994, 777472127994)
  else
    let x := fdiv (2 * piQ * r) turn
    let y := fdiv (x * x) oneQ
    (seriesQ y [2, 12, 30, 56, 90, 132, 182], fdiv (x * seriesQ y [6, 20, 42, 72, 110, 156]) oneQ)

/-- Cosine and sine of an angle in units of which a quarter turn has `quarter`, in units of 2^-40. -/
def trigOf (quarter : Nat) (angle : Int) : Int × Int :=
  let n := (angle % (4 * quarter : Nat)).toNat
  let r := n % quarter
  let (c, d) :=
    if 2 * r ≤ quarter then trigOctant (4 * quarter) r else (trigOctant (4 * quarter) (quarter - r)).swap
  match n / quarter with
  | 0 => (c, d)
  | 1 => (-d, c)
  | 2 => (-c, -d)
  | _ => (d, -c)

/-- Cosine and sine of an angle in units of 1/65,536 of a turn, in units of 2^-40. -/
def trigQ (angle : Int) : Int × Int := trigOf 16384 angle

/-- The vector `(x, y)` rotated by an angle, in units of 2^-40. -/
def rotateQ (x y angle : Int) : Int × Int :=
  let (c, d) := trigQ angle
  (x * c - y * d, x * d + y * c)

/-- `(p + q √3) / d` for a positive `d`, rounded down or up, freely. -/
def freeSurd (place : Nat) (p q d : Int) : Int :=
  let root : Int := isqrt 64 (3 * q * q).toNat
  let down := fdiv (p + (if q < 0 then -root - 1 else root)) d
  down + (if (q ≠ 0 ∨ fmod p d ≠ 0) ∧ Config.realFn place [p, q, d] % 2 = 1 then 1 else 0)

/-- The greatest number of units below a quarter turn, of at least `from`, whose direction lies not beyond `(x, y)`; the steps
are tried from `2 ^ n` down. -/
def angleSearch (x y : Int) : Nat → Nat → Nat
  | 0, acc => acc
  | n + 1, acc =>
    let (c, d) := trigQ (acc + 2 ^ n : Nat)
    angleSearch x y n (if 0 ≤ y * c - x * d then acc + 2 ^ n else acc)

/-- The angle of `(x, y)` in units, rounded down or up, freely; of no vector, a free value. -/
def freeAngle (place : Nat) (x y : Int) : Int :=
  if x = 0 ∧ y = 0 then Config.realFn place [] % 65536
  else
    let (q, u, v) : Nat × Int × Int :=
      if 0 < x ∧ 0 ≤ y then (0, x, y) else if 0 < y then (1, y, -x) else if x < 0 then (2, -x, -y) else (3, -y, x)
    let r := angleSearch u v 14 0
    ((16384 * q + r : Nat) + (if v ≠ 0 ∧ u ≠ v ∧ Config.realFn place [x, y] % 2 = 1 then 1 else 0)) % 65536

/-- The two components, along a vector at phase angles 0°, 120° and 240°, of three values: `2 a - b - c` and `b - c`, that is 3
times the first and √3 times the second component of the vector whose projections they are. -/
def clarke (a b c : Int) : Int × Int := (2 * a - b - c, b - c)

/-- The d and q components at an angle of the vector of three currents, in units of 2^-80 / 3: a vector has the magnitude of a
phase's amplitude, as in R262 and R271 (log entry 158). DEDUCED, unsafe. -/
def currentsDq (a b c angle : Int) : Int × Int :=
  let (u, v) := clarke a b c
  rotateQ (oneQ * u) (root3Q * v) (-angle)

end Sys2Proof.Machine
end

