-- ==== Sys2Proof/Machine/Tdu.lean ====
section
/-!
DEFINITION. Table drive of the traction motors (R256 to R285): ticks, inputs, estimation, hysteresis, the switching
table, dwell and band scale, lost legs, the modulator and the handover.
-/

namespace Sys2Proof.Machine
namespace State

/-- Channel `x` changed by `f`. -/
def modTd (s : State) (x : Fin 2) (f : TdChan → TdChan) : State := { s with tdu := vupd s.tdu x f }

/-- Channel `x` is present (R256). -/
def tdPresent (s : State) (x : Fin 2) : Bool := x = 0 || s.hasB

/-- Event `e` of channel `x` (R284). -/
def tdFire (s : State) (x : Fin 2) (e : Nat) : State := s.fire (112 + 8 * x.val + e)

/-- Leg `j` of channel `x` belongs to a named set (R256, R258). -/
def tdNamed (s : State) (x : Fin 2) (j : Nat) : Bool :=
  (s.fld (R.TDU_CFG x.val) F.TDU_CFG_SETS).testBit (if j < 3 then 0 else 1)

/-- After a takeover, and with a foreign module on the link, the other set is absent, whatever SOLO holds yet (R476, R494). -/
def tdAlone (s : State) (x : Fin 2) : Bool :=
  !s.bit (R.TDU_CFG x.val) F.TDU_CFG_SOLO && s.fld (R.TDU_CFG x.val) F.TDU_CFG_SETS != 3
    && (s.fld R.TWN_ST F.TWN_ST_STATE == 5 || s.fld R.TWN_ST F.TWN_ST_STATE == 6) && !s.twn.takeover

/-- The channel takes the set it does not name from the partner (R276, R277, R494). -/
def tdPaired (s : State) (x : Fin 2) : Bool :=
  !s.bit (R.TDU_CFG x.val) F.TDU_CFG_SOLO && s.fld (R.TDU_CFG x.val) F.TDU_CFG_SETS != 3 && !s.tdAlone x

/-- The legs of the named sets are forced to `st`, or released from it, to resume at their valleys (R486). -/
def tdForce (s : State) (x : Fin 2) (st : Option (Bool × Bool)) : State :=
  forN 6 (fun j (s : State) =>
    if s.tdNamed x j then (s.modLeg (6 * x.val + j) fun l => { l with forced := st }).legApply (6 * x.val + j) else s) s

/-- The joining module's set in a share ramp (R496): whether decision `j` takes the entry's states. -/
def rampTakes (share j : Nat) : Bool := (j + 1) * 2 * share / 65536 - j * 2 * share / 65536 == 1

/-- The states a decision passes to the legs: in RAMP the joining module's set takes its zero vector, the three low
switches on, in the decisions its share leaves out (R496). -/
def tdShape (s : State) (x : Fin 2) (st : BitVec 12) : BitVec 12 :=
  if s.quiet && s.fld R.TWN_ST F.TWN_ST_STATE == 3 && !rampTakes (s.fld R.TWN_ST F.TWN_ST_SHARE) s.tdu[x].rampJ then
    let mask : BitVec 12 := BitVec.ofNat 12 (((List.range 6).filter (s.tdNamed x)).map fun j => 2 ^ j).sum
    (st &&& ~~~(mask ||| (mask <<< 6))) ||| mask
  else st

/-- The analogue channel of leg `j`'s current, or of the bus for `j` = 6 (R281). -/
def tdSelect (s : State) (x : Fin 2) (j : Nat) : Nat :=
  let r0 := R.TDU_ISEL0 x.val
  let r1 := R.TDU_ISEL1 x.val
  if j = 0 then s.fld r0 F.TDU_ISEL0_IS0 else if j = 1 then s.fld r0 F.TDU_ISEL0_IS1
  else if j = 2 then s.fld r0 F.TDU_ISEL0_IS2 else if j = 3 then s.fld r0 F.TDU_ISEL0_IS3
  else if j = 4 then s.fld r1 F.TDU_ISEL1_IS4 else if j = 5 then s.fld r1 F.TDU_ISEL1_IS5
  else s.fld r1 F.TDU_ISEL1_VB

/-- The current of leg `j` of channel `x` from a code, in 1/16 A (R260). -/
def tdCurrent (s : State) (x : Fin 2) (j code : Nat) : Int :=
  fdiv (((code : Int) - s.fld (R.TDU_ICAL x.val j) F.TDU_ICAL_OFS) * s.sfld (R.TDU_ICAL x.val j) F.TDU_ICAL_GAIN) 256

/-- The bus voltage of channel `x` from a code, in 1/64 V (R260). -/
def tdBus (s : State) (x : Fin 2) (code : Nat) : Int :=
  (code * s.fld (R.TDU_VBCAL x.val) F.TDU_VBCAL_VBGAIN / 256 : Nat)

/-! ### Ticks and deliveries -/

/-- A conversion of a scan that the channel's trigger started is delivered to it (R154). -/
def tdDeliver (s : State) (x : Fin 2) (n value : Nat) : State :=
  s.modTd x fun c => { c with got := kvInsert (kvErase c.got n) n value }

/-- A tick (R259): the channel's converters are triggered. -/
def tdTick (s : State) (x : Fin 2) : State :=
  if s.tdu[x].op = .off then s
  else (s.modTd x fun c => { c with ticked := true, got := [] }).acqTrigger (0x40 + x.val)

/-! ### Inputs -/

/-- Whether an input channel of a named set has had no delivery since the tick (R260). -/
def tdStale (s : State) (x : Fin 2) (j : Nat) : Bool := (kvGet s.tdu[x].got (s.tdSelect x j)).isNone

/-- The channel takes the bus conversion from the partner's frame: the acting lead's, in the other module (R276, R479). Before a
pair is formed the commissioned lead's stands for it. -/
def tdTakesBus (s : State) (x : Fin 2) : Bool :=
  s.tdPaired x && (if s.paired then !s.bit R.TWN_ST F.TWN_ST_ACTLEAD else s.fld R.TWN_ST F.TWN_ST_ROLE == 2)

/-- The inputs read from the module's own converters: legs of named sets, and the bus (index 6). -/
def tdOwnInputs (s : State) (x : Fin 2) : List Nat :=
  (List.range 6).filter (s.tdNamed x) ++ (if s.tdTakesBus x then [] else [6])

/-- Leg `j`'s high-impedance state: its own, the partner's, or for an absent set not lost (R260, R276, R277). -/
def tdHiz (s : State) (x : Fin 2) (j : Nat) : Bool :=
  if s.tdNamed x j then (s.leg (6 * x.val + j)).hiz
  else if s.tdPaired x then
    match s.tdu[x].frame with
    | some f => f.hiz.getLsbD (j % 3)
    | none => s.tdu[x].hiz.getLsbD j
  else false

/-- The conversion of input `j` that a decision takes: delivered since the tick, or the partner's, or else the previous
decision's (R260, R276, R277). -/
def tdInputCode (s : State) (x : Fin 2) (j : Fin 7) : Option Nat :=
  let c := s.tdu[x]
  let was := c.code[j]
  if (s.tdOwnInputs x).contains j.val then (kvGet c.got (s.tdSelect x j.val)).or was
  else if s.tdPaired x then
    match c.frame with
    | some f => some (if j.val = 6 then f.bus.toNat else (f.codes[fin 3 j.val]).toNat)
    | none => was
  else none

/-- Leg `j`'s current at the input time: its conversion scaled, 0 of a leg that is high-impedance and of an absent set (R260,
R277). An input of which no conversion has ever come counts 0 (log entry 153). -/
def tdInputCurrent (s : State) (x : Fin 2) (j : Fin 6) : Int :=
  if s.tdHiz x j.val || !(s.tdNamed x j.val || s.tdPaired x) then 0
  else
    match s.tdu[x].code[j.castLE (by omega : 6 ≤ 7)] with
    | some code => s.tdCurrent x j.val code
    | none => 0

/-- The bus voltage at the input time (R260). -/
def tdInputBus (s : State) (x : Fin 2) : Int :=
  match s.tdu[x].code[6] with
  | some code => s.tdBus x code
  | none => 0

/-- The missing frame of a paired channel is flagged and its run counted; a run of XRUN switches the channel off (R276,
R486); the flag and the event of the pairs link need that unit (R4). -/
def tdFrameCheck (s : State) (x : Fin 2) : State :=
  if !s.tdPaired x then s
  else if s.tdu[x].frame.isSome then s.modTd x fun c => { c with missRun := 0 }
  else
    let n := s.tdu[x].missRun + 1
    let s := (((s.modTd x fun c => { c with missRun := n }).raise (R.TDU_ST x.val) F.TDU_ST_XMISS).countUp
      (R.TDU_CNT x.val) F.TDU_CNT_XMISSCNT).tdFire x 7
    if n = max 1 (s.fld R.TWN_CFG F.TWN_CFG_XRUN) then
      let s := s.when s.hasPairs fun s =>
        ((s.raise R.TWN_STAT F.TWN_STAT_XRUN).countUp R.TWN_CNT F.TWN_CNT_XRUNCNT).fire 240
      (s.modTd x fun c => { c with xoff := true }).tdForce x (some (false, false))
    else s

/-- Stale and invalid inputs are flagged (R260). -/
def tdInputCheck (s : State) (x : Fin 2) : State :=
  let own := s.tdOwnInputs x
  let stale := own.filter (s.tdStale x)
  let inv := own.any fun j => s.chanInvalid (s.tdSelect x j)
  let s := stale.foldl (fun s _ => s.countUp (R.TDU_CNT x.val) F.TDU_CNT_STALECNT) s
  let s := s.when (!stale.isEmpty) fun s => s.raise (R.TDU_ST x.val) F.TDU_ST_STALE
  let s := s.when inv fun s => s.raise (R.TDU_ST x.val) F.TDU_ST_INV
  s.when (!stale.isEmpty || inv) fun s => s.tdFire x 5

/-! ### Estimation -/

/-- Time for which leg `j` counts as connected to the bus in an interval: its high switch on, and both its switches off while the
current flows back into it (R262). -/
def tdOnTime (s : State) (x : Fin 2) (ton toff : Vector Nat 6) (j : Fin 6) : Int :=
  let c := s.tdu[x]
  if s.tdNamed x j.val || s.tdPaired x then
    ((ton[j] : Nat) : Int) + (if c.cur[j] < 0 then ((toff[j] : Nat) : Int) else 0)
  else 0

/-- 6 times the time of leg `j` over the mean of its set's legs that are not high-impedance: its phase voltage is this times
U_b / 6 t_int (R262). -/
def tdPhase (s : State) (x : Fin 2) (on : Vector Int 6) (j : Fin 6) : Int :=
  let hiz (k : Fin 6) : Bool := s.tdu[x].hiz.getLsbD k.val
  let set := (List.finRange 6).filter fun k => k.val / 3 == j.val / 3 && !hiz k
  if hiz j then 0 else 6 * on[j] - fdiv (6 * (set.map fun k => on[k]).sum) set.length

/-- The sums over the legs of values times the cosine and the sine of the legs' angles, each as twice `(p, q)` for `p + q √3`
(R256, R262). -/
def legsCos (v : Vector Int 6) : Int × Int := (2 * v[0] - v[1] - v[2], v[3] - v[4])
def legsSin (v : Vector Int 6) : Int × Int := (v[3] + v[4] - 2 * v[5], v[1] - v[2])

/-- The same sums with five times the legs' angles. -/
def legsCos5 (v : Vector Int 6) : Int × Int := (2 * v[0] - v[1] - v[2], v[4] - v[3])
def legsSin5 (v : Vector Int 6) : Int × Int := (v[3] + v[4] - 2 * v[5], v[2] - v[1])

/-- The flux in the direction whose sums of phase voltages are `pq` after an interval of `tint` ns in which the current in that
direction is `i` (R262): U_b in 1/64 V, currents in 1/16 A, RS in µΩ, flux in µWb. -/
def tdFlux (s : State) (x : Fin 2) (place : Nat) (psi : Int) (pq : Int × Int) (i : Int) (tint : Nat) : Int :=
  let ub := s.tdu[x].ub
  let rs : Int := s.fld (R.TDU_RS x.val) F.TDU_RS_RS
  let dk := s.fld (R.TDU_CFG x.val) F.TDU_CFG_DK
  let p := sat16 (psi + freeSurd place (62500 * ub * pq.1 - 9 * tint * rs * i) (62500 * ub * pq.2) 144000000000)
  if dk = 0 then p else p - fdiv p (2 ^ dk)

/-- The voltage that a set's phases have had in an interval, as d and q sums over its ns: in voltage-command units times 18
times 2^65 (R271, R275). -/
def tdApplied (a b c angle : Int) : Int × Int :=
  let (u, v) := clarke a b c
  rotateQ (root3Q * u) (3 * oneQ * v) (-angle)

/-- The flux, torque and values of a decision (R262, R263, R278): every formula of exact operands, each value of it that the
channel keeps rounded down or up, freely (log entry 30). -/
def tdEstimate (s : State) (x : Fin 2) (tint : Nat) (ton toff : Vector Nat 6) : State :=
  let c := s.tdu[x]
  let third (place : Nat) (pq : Int × Int) : Int := freeSurd place pq.1 pq.2 6
  let ia := third 2621 (legsCos c.cur)
  let ib := third 2622 (legsSin c.cur)
  let ix := third 2623 (legsCos5 c.cur)
  let iy := third 2624 (legsSin5 c.cur)
  let on : Vector Int 6 := Vector.ofFn (s.tdOnTime x ton toff)
  let ph : Vector Int 6 := Vector.ofFn (s.tdPhase x on)
  let psa := s.tdFlux x 2627 c.psa (legsCos ph) ia tint
  let psb := s.tdFlux x 2629 c.psb (legsSin ph) ib tint
  let tq := sat16 (sat32 (mulCoef (psa * ib - psb * ia) (s.reg (R.TDU_TK x.val))))
  let th : Int := (s.reg (R.POS_MOT_EANG x.val)).bits 15 0
  let modulated := decide (c.op = .modulated)
  let (d, q) := rotateQ ia ib (-th)
  let pd : Int := s.fld (R.TDU_PSIPM x.val) F.TDU_PSIPM_PSIPM
    + fdiv (s.fld (R.TDU_LDQ x.val) F.TDU_LDQ_LD * freeDiv 2631 d oneQ) 256
  let pq : Int := fdiv (s.fld (R.TDU_LDQ x.val) F.TDU_LDQ_LQ * freeDiv 2632 q oneQ) 256
  let (fa, fb) := rotateQ pd pq th
  let psa := if modulated then sat16 (freeDiv 2633 fa oneQ) else psa
  let psb := if modulated then sat16 (freeDiv 2634 fb oneQ) else psb
  let psm : Int := isqrt 17 (psa * psa + psb * psb).toNat
  let ang := freeAngle 2628 psa psb
  let tr := sat (-c.elim) c.elim (s.sfld (R.TDU_TREF x.val) F.TDU_TREF_TREF)
  let th2 := (th + 5461) % 65536
  let unit : Int := 3 * oneQ * oneQ
  let (id1, iq1) := currentsDq c.cur[0] c.cur[1] c.cur[2] th
  let (id2, iq2) := currentsDq c.cur[3] c.cur[4] c.cur[5] th2
  let op : Int := match c.op with | .off => 0 | .modulated => 1 | .table => 2
  let val : Vector Int 16 := #v[
    freeDiv 2780 id1 unit, freeDiv 2781 iq1 unit, freeDiv 2780 id2 unit, freeDiv 2781 iq2 unit,
    ia, ib, ix, iy, psm, tq, tr, c.elim, sat32 (mulCoef tr (s.reg (R.TDU_IQK x.val))),
    s.sfld (R.TDU_IDREF x.val) F.TDU_IDREF_IDREF, op, 0]
  let (d1, q1) := tdApplied ph[0] ph[1] ph[2] th
  let (d2, q2) := tdApplied ph[3] ph[4] ph[5] th2
  s.modTd x fun c =>
    { c with psa := psa, psb := psb, psm := psm, ang := ang, tq := tq, val := val, accT := c.accT + tint
             acc := #v[c.acc[0] + d1, c.acc[1] + q1, c.acc[2] + d2, c.acc[3] + q2] }

/-! ### Hysteresis, table and dwell -/

/-- The torque state after error `e` with band `b` (R264). -/
def torqueState (c e b : Int) : Int :=
  if c = 1 then (if e < -b then -1 else if e < 0 then 0 else 1)
  else if c = -1 then (if b < e then 1 else if 0 < e then 0 else -1)
  else (if b < e then 1 else if e < -b then -1 else 0)

/-- The flux state after error `e` with band `b` (R264). -/
def fluxState (c : Bool) (e b : Int) : Bool :=
  if c then !decide (e < -b) else decide (b < e)

/-- The band scale of the decision (R268). -/
def tdScale (s : State) (x : Fin 2) : State :=
  let tlim := s.fld (R.TDU_FSW x.val) F.TDU_FSW_TLIM
  let n := if tlim = 0 then 0 else min 3 (s.tdu[x].trans / tlim)
  let was := s.tdu[x].scale
  let s := s.modTd x fun c => { c with scale := n }
  s.when (was = 0 && n != 0) fun s => (s.raise (R.TDU_ST x.val) F.TDU_ST_SCALED).tdFire x 6

/-- The table selection from the lost legs (R270). -/
def tdLost (s : State) (x : Fin 2) : State :=
  let c := s.tdu[x]
  let lost := (List.range 6).filter fun j => c.hiz.getLsbD j
  let sel := match lost with
    | [] => 0
    | [j] => 1 + j
    | _ => 7
  if sel = c.table then s
  else
    let s := ((s.modTd x fun c => { c with table := sel, dwell := 0 }).countUp (R.TDU_CNT x.val)
      F.TDU_CNT_TABCHG).tdFire x 2
    s.when (sel = 7) fun s => (s.raise (R.TDU_ST x.val) F.TDU_ST_MULTI).tdFire x 3

/-- The hysteresis states and the sector (R264, R265). -/
def tdHysteresis (s : State) (x : Fin 2) : State :=
  let c := s.tdu[x]
  let sc : Int := 2 ^ c.scale
  let tb := (s.fld (R.TDU_BAND x.val) F.TDU_BAND_TB : Int) * sc
  let fb := (s.fld (R.TDU_BAND x.val) F.TDU_BAND_FB : Int) * sc
  let et := c.val[10] - c.tq
  let ep := (s.fld (R.TDU_FREF x.val) F.TDU_FREF_FREF : Int) - c.psm
  let sector := ((c.ang + s.fld (R.TDU_ANG x.val) F.TDU_ANG_SOFS) % 65536 * 12 / 65536).toNat
  s.modTd x fun c =>
    { c with cT := torqueState c.cT et tb, cPsi := fluxState c.cPsi ep fb, sector := sector }

/-- The entry the decision reads from its table (R265, R266); state 7 has every switch off (R270). -/
def tdEntry (s : State) (x : Fin 2) : BitVec 16 :=
  let c := s.tdu[x]
  if c.table = 7 then 0
  else
    let e := 6 * c.sector + 3 * Word.ofBool c.cPsi + (c.cT + 1).toNat
    let w := s.tableWord (s.fld (R.TDU_TBASE x.val) F.TDU_TBASE_TBASE + 36 * c.table + e / 2)
    if e % 2 = 0 then w.extractLsb' 0 16 else w.extractLsb' 16 16

/-- The dwell of class `k` (R267). -/
def tdDwell (s : State) (x : Fin 2) (k : Nat) : Nat :=
  max 1 ((s.reg (R.TDU_DWL x.val (k / 4))).bits (8 * (k % 4) + 7) (8 * (k % 4)))

/-- The decision in TABLE: the dwell count, and the entry applied where it differs from the states in force; after a
run of missing partner frames every switch stays off (R267, R270, R486, R496). -/
def tdDecide (s : State) (x : Fin 2) : State :=
  if s.tdu[x].xoff then s.modTd x fun c => { c with next := some 0, entry := none, dwell := 0 }
  else
    let s := s.modTd x fun c => { c with dwell := c.dwell - 1 }
    let s :=
      if 0 < s.tdu[x].dwell then s
      else
        let e := s.tdEntry x
        let states := e.extractLsb' 0 12
        if s.tdu[x].entry = some states then s
        else
          let d := if s.tdu[x].table = 7 then 0 else s.tdDwell x (e.extractLsb' 12 4).toNat
          s.modTd x fun c => { c with entry := some states, dwell := d }
    let out := s.tdu[x].entry.map (s.tdShape x)
    s.modTd x fun c => { c with next := if out = c.applied then none else out, rampJ := c.rampJ + 1 }

/-- A tick waits for its input time (R259, R260). -/
def tdAwaits (s : State) (x : Fin 2) : Bool := s.tdu[x].op != .off && s.tdu[x].ticked

/-- The inputs taken, the estimation, the band scale, the lost legs and the hysteresis of a decision (R260 to R265). -/
def tdEvaluate (s : State) (x : Fin 2) (tint : Nat) (ton toff : Vector Nat 6) : State :=
  let s := (s.tdFrameCheck x).tdInputCheck x
  let hz : BitVec 6 := BitVec.ofNat 6 (((List.range 6).filter (s.tdHiz x)).map (2 ^ ·)).sum
  let code : Vector (Option Nat) 7 := Vector.ofFn (s.tdInputCode x)
  let s := s.modTd x fun c => { c with code := code }
  let cur : Vector Int 6 := Vector.ofFn (s.tdInputCurrent x)
  let ub := s.tdInputBus x
  let s := s.modTd x fun c =>
    { c with hiz := hz, cur := cur, ub := ub, ticked := false, deciding := true, next := none, frame := none }
  (((s.tdEstimate x tint ton toff).tdScale x).tdLost x).tdHysteresis x

/-- The decision reads an entry that is a host mistake: both switches of a leg on, or a switch of the leg that its table leaves
open (R285). -/
def tdEntryBad (s : State) (x : Fin 2) : Bool :=
  let c := s.tdu[x]
  let e := s.tdEntry x
  let both := e.extractLsb' 0 6 &&& e.extractLsb' 6 6
  c.op == .table && !c.xoff && decide (c.dwell ≤ 1)
    && (both != 0 || (decide (1 ≤ c.table) && decide (c.table ≤ 6)
      && (e.getLsbD (c.table - 1) || e.getLsbD (c.table + 5))))

/-- The input time of a decision (R260 to R270). -/
def tdInput (s : State) (x : Fin 2) (tint : Nat) (ton toff : Vector Nat 6) : State :=
  if !s.tdAwaits x then s
  else
    let s := s.tdEvaluate x tint ton toff
    if s.tdu[x].op = .table then s.tdDecide x else s

/-- The commanded switch pairs of the channel's legs, a pair in its dead time counting as the one it goes to: HI in bits 11:6,
LO in 5:0. -/
def tdPairs (s : State) (x : Fin 2) : BitVec 12 :=
  let at' (j : Nat) : Leg := s.leg (6 * x.val + j)
  let l := (List.range 6).filter fun j => (at' j).cmdL || (at' j).dead == some .low
  let h := (List.range 6).filter fun j => (at' j).cmdH || (at' j).dead == some .high
  BitVec.ofNat 12 ((l.map (2 ^ ·)).sum + (h.map fun j => 2 ^ (6 + j)).sum)

/-- The decision completes: in TABLE its states pass to the legs, and the legs whose pair changes are counted as
transitions (R240, R261, R268). A leg that still waits for its first valley takes them there. -/
def tdComplete (s : State) (x : Fin 2) : State :=
  if !s.tdu[x].deciding then s
  else
    let s := s.modTd x fun c => { c with deciding := false, done := c.val }
    match s.tdu[x].op, s.tdu[x].next with
    | .table, some st =>
      let was := s.tdu[x].applied.getD (s.tdPairs x)
      let changed := (List.range 6).filter fun j =>
        was.getLsbD j != st.getLsbD j || was.getLsbD (6 + j) != st.getLsbD (6 + j)
      let s := s.modTd x fun c =>
        { c with applied := some st, next := none, trans := c.trans + changed.length
                 log := if s.paired then st :: c.log else c.log }
      forN 6 (fun j s =>
        let n := 6 * x.val + j
        if s.legRow n = .table && !(s.leg n).resume then
          if st.getLsbD (6 + j) then s.legEdge n .high
          else if st.getLsbD j then s.legEdge n .low
          else s.legCommand n false false none
        else s) s
    | _, _ => s.modTd x fun c => { c with next := none }

/-! ### The sample boundary -/

/-- The target of the torque limit: `TDU_CHx_TLIM`, after a takeover half of it, derated by the thermal factor (R269,
R387, R494). The rounding of the half is free (log entry 8). -/
def tdTarget (s : State) (x : Fin 2) : Int :=
  let tlim := s.fld (R.TDU_TLIM x.val) F.TDU_TLIM_TGT
  let tlim := if s.tdAlone x then (freeDiv 494 tlim 2).toNat else tlim
  let f := s.fld R.SYS_THDER0 (if x = 0 then F.SYS_THDER0_FA else F.SYS_THDER0_FB)
  if f = 0xFFFF then tlim else (tlim * f / 65536 : Nat)

/-- The torque limit moves toward its target (R269). -/
def tdRamp (s : State) (x : Fin 2) : State :=
  let c := s.tdu[x]
  let tgt := s.tdTarget x
  let ramp : Int := s.fld (R.TDU_TRAMP x.val) F.TDU_TRAMP_RAMP
  if c.elim = tgt then s
  else
    let e := if ramp = 0 then tgt else c.elim + sat (-ramp) ramp (tgt - c.elim)
    let s := s.modTd x fun c => { c with elim := e }
    s.when (e = tgt) fun s => s.tdFire x 4

/-- The preset of slot `n`'s integrator to the mean voltage `k` over the ending sample (0 and 1 d and q of set 1, 2 and 3 of
set 2), scaled by the bus gain where the slot has it (R275); where no decision covers the sample, or the gain is 0, a free
value (log entry 31). -/
def tdPresetSlot (s : State) (x : Fin 2) (k : Fin 4) (n : Nat) : State :=
  let c := s.tdu[x]
  let g : Int :=
    if s.bit (R.CLE_SL_CFG n) F.CLE_SL_CFG_VFF then s.nreg (R.CLE_VB_G (s.fld (R.CLE_SL_CFG n) F.CLE_SL_CFG_VBSEL))
    else 65536
  if c.accT = 0 ∨ g = 0 then (s.setReg (R.CLE_SL_INT n) (Config.freeWord 275 s.freeCount)).takeFree
  else s.setReg (R.CLE_SL_INT n) (ofInt (sat32 (freeDiv 275 (c.acc[k] * 65536) (18 * 2 ^ 65 * c.accT * g))))

/-- The preset of the current loops on entering MODULATED (R275). -/
def tdPreset (s : State) (x : Fin 2) : State :=
  let r := R.TDU_HSL x.val
  if s.bit r F.TDU_HSL_EN then
    (((s.tdPresetSlot x 0 (s.fld r F.TDU_HSL_SD1)).tdPresetSlot x 1 (s.fld r F.TDU_HSL_SQ1)).tdPresetSlot x 2
      (s.fld r F.TDU_HSL_SD2)).tdPresetSlot x 3 (s.fld r F.TDU_HSL_SQ2)
  else s

/-- The table-drive legs keep their last table state until their first valley (R257, R275). -/
def tdRelease (s : State) (x : Fin 2) : State :=
  forN 6 (fun j s => s.when (s.legTable (6 * x.val + j)) fun s =>
    s.modLeg (6 * x.val + j) fun l => { l with resume := true }) s

/-- The channel enters MODULATED (R275). -/
def tdToModulated (s : State) (x : Fin 2) : State :=
  if s.tdu[x].op = .modulated then s
  else (((s.tdRelease x).modTd x fun c => { c with op := .modulated }).tdFire x 0).tdPreset x

/-- The channel enters TABLE (R274): the pairs commanded now are in force, and each leg changes from them (R268). -/
def tdToTable (s : State) (x : Fin 2) : State :=
  if s.tdu[x].op = .table then s
  else
    let pairs := s.tdPairs x
    (s.modTd x fun c =>
      { c with op := .table, cT := 0, cPsi := true, dwell := 0, scale := 0, applied := some pairs,
               entry := none }).tdFire x 1

/-- The integer part of a motor axis's latched speed, as a magnitude (R194, R273, R298). -/
def motorSpeed (s : State) (x : Nat) : Nat := s.cle.spd[fin 11 x].toInt.natAbs / 65536

/-- The handover at a boundary; `started` says that EN has just committed to 1 (R257, R273). -/
def tdHandover (s : State) (x : Fin 2) (started : Bool) : State :=
  if !s.bit (R.TDU_CFG x.val) F.TDU_CFG_EN then
    (s.tdRelease x).modTd x fun c => { c with op := .off, ticked := false, deciding := false, next := none }
  else
    let v := s.motorSpeed x.val
    let r := s.fld (R.TDU_RATED x.val) F.TDU_RATED_RATED
    if !s.permits .traction || started || s.tdu[x].op = .off then s.tdToModulated x
    else if s.axisInvalid x.val then s.tdToTable x
    else if s.tdu[x].op = .table && v * 1000 < s.fld (R.TDU_HOV x.val) F.TDU_HOV_HLO * r then s.tdToModulated x
    else if s.tdu[x].op = .modulated && s.fld (R.TDU_HOV x.val) F.TDU_HOV_HHI * r < v * 1000 then s.tdToTable x
    else s

/-- The compares that the modulator forms govern no leg whose set it does not drive (R271). -/
def tdGoverned (s : State) (x : Fin 2) : State :=
  let on := s.tdu[x].op == .modulated && s.bit (R.TDU_CFG x.val) F.TDU_CFG_MODEN
  forN 6 (fun j s => s.when (!(on && s.tdNamed x j)) fun s =>
    s.modLeg (6 * x.val + j) fun l => { l with gov := none }) s

/-- The channel at a sample boundary: transitions shown, the latest completed decision's values latched, ELIM moved, handover
(R268, R269, R273, R278). -/
def tdBoundary (s : State) (x : Fin 2) (started : Bool) : State :=
  let trans := s.tdu[x].trans
  let s := s.setFld (R.TDU_CNT x.val) F.TDU_CNT_TRANS (min 255 trans)
  let s := s.modTd x fun c => { c with trans := 0, scale := 0 }
  let s := (s.tdRamp x).tdHandover x started
  let s := s.when (s.tdu[x].xoff && (s.tdu[x].missRun == 0 || !s.tdPaired x)) fun s =>
    (s.modTd x fun c => { c with xoff := false, missRun := 0 }).tdForce x none
  (s.modTd x fun c =>
    { c with lat := c.done.set 15 (trans : Int), accT := 0, acc := Vector.replicate 4 0 }).tdGoverned x

/-- Value `i` of source kind 0x7 (R278). -/
def tdValue (s : State) (i : Nat) : Int :=
  if i % 32 < 16 && (i < 32 || s.hasB) then s.tdu[fin 2 (i / 32)].lat[fin 16 i] else 0

/-! ### The modulator -/

/-- The compare, in sixteenths of a tick of a period of `p`, of each of three legs for the voltage `d`, `q` at an angle: the
duty is 1/2 + (v_k − v_n) / (√3 × 32,768), and the compare P (1 − duty), rounded down (R271). -/
def setCompares (p : Nat) (d q angle : Int) : Vector Nat 3 :=
  let (u, v) := rotateQ d q angle
  let va := 2 * oneQ * u
  let vb := root3Q * v - oneQ * u
  let vc := -(root3Q * v) - oneQ * u
  let mid := max va (max vb vc) + min va (min vb vc)
  let compare (w : Int) : Nat :=
    let full : Int := 3 * 2 ^ 137
    (sat 0 (16 * p) (fdiv (16 * p * (3 * 2 ^ 136 - (2 * w - mid) * root3Q)) full)).toNat
  #v[compare va, compare vb, compare vc]

/-- At the reload of the timebase of a named set's first leg, the compares of the set are formed from its voltage
command, scaled by 2s in a share ramp, at the angle that the motor reaches at the peak (R271, R496). -/
def tdModulate (s : State) (x : Fin 2) (t : Nat) : State :=
  if s.tdu[x].op != .modulated || !s.bit (R.TDU_CFG x.val) F.TDU_CFG_MODEN then s
  else
    let th : Int := (s.reg (R.POS_MOT_EANG x.val)).bits 15 0
    let pp := s.fld (R.POS_MOT_CFG x.val) F.POS_MOT_CFG_PP
    let spd := s.cle.spd[fin 11 x.val].toInt
    forN 2 (fun set s =>
      let first := 6 * x.val + 3 * set
      if !s.tdNamed x (3 * set) || s.legTb first != t then s
      else
        let v := if set = 0 then R.TDU_VCMD1 x.val else R.TDU_VCMD2 x.val
        let p := s.tbPeriod t
        let ramp := s.quiet && s.fld R.TWN_ST F.TWN_ST_STATE == 3
        let scale (u : Int) : Int := if ramp then freeDiv 496 (u * (2 * s.fld R.TWN_ST F.TWN_ST_SHARE : Nat)) 65536 else u
        let ahead := freeDiv 271 (spd * ((if pp = 0 then 16 else pp) * (16 + p * s.tbTick t) : Nat)) (65536 * 1000000)
        let cmp := setCompares p (scale (s.sfld v ⟨15, 0⟩)) (scale (s.sfld v ⟨31, 16⟩)) (th + ahead + 5461 * set)
        forFin 3 (fun k s => s.modLeg (first + k.val) fun l => { l with gov := some (cmp[k], cmp[k]) }) s) s

/-- What the state registers of table drive read as (R283). -/
def tduView (s : State) (r : Nat) : Option Word :=
  (List.finRange 2).findSome? fun x =>
    let c := s.tdu[x]
    if r = R.TDU_STATE x.val then
      some (Word.field 31 24 c.dwell ||| Word.field 21 20 c.scale ||| Word.field 18 16 c.table
        ||| Word.field 15 12 c.sector ||| Word.field 11 10 (modBits 2 c.cT) ||| Word.field 9 9 (Word.ofBool c.cPsi)
        ||| Word.field 7 2 c.hiz.toNat
        ||| Word.field 1 0 (match c.op with | .off => 0 | .modulated => 1 | .table => 2))
    else if r = R.TDU_PSI x.val then
      some (Word.field 31 16 (modBits 16 c.psb) ||| Word.field 15 0 (modBits 16 c.psa))
    else if r = R.TDU_TQ x.val then
      some (Word.field 31 16 (modBits 16 c.elim) ||| Word.field 15 0 (modBits 16 c.tq))
    else none

end State

/-- TD_TICK (R259). -/
def execTdTick (x : Fin 2) (s : State) : Host.Outcome State Fault Refusal :=
  .next (if s.tdPresent x then s.whenUp fun s => s.tdTick x else s)

/-- TD_INPUT (R260); an entry that breaks R285 is a host mistake. -/
def execTdInput (x : Fin 2) (tint : Nat) (ton toff : Vector Nat 6) (s : State) : Host.Outcome State Fault Refusal :=
  if !s.tdPresent x || !s.up then .next s
  else if s.tdAwaits x && (s.tdEvaluate x tint ton toff).tdEntryBad x then .fault .hostMistake
  else .next (s.tdInput x tint ton toff)

/-- TD_DECISION_COMPLETE (R261). -/
def execTdDecisionComplete (x : Fin 2) (s : State) : Host.Outcome State Fault Refusal :=
  .next (if s.tdPresent x then s.whenUp fun s => s.tdComplete x else s)

end Sys2Proof.Machine
end

