-- ==== Sys2Proof/Machine/Wfu.lean ====
section
/-!
DEFINITION. The waveform unit beside its legs (R229 to R231, R243 to R247): timebases, commit points, trips, and what
its state registers read as.
-/

namespace Sys2Proof.Machine
namespace State

/-! ### Commit points -/

/-- A commit point passes for the registers that `owned` names: their shadows become their values, in `apply`'s way,
and the engines that wait for them wait no more (R92, R95). -/
def commitPoint (s : State) (owned : Nat → Bool) (apply : State → Nat → Word → State) : State :=
  let hit := s.shadow.filter fun p => owned p.1
  let s :=
    { s with
      shadow := s.shadow.filter fun p => !owned p.1
      seq := s.seq.map fun e =>
        match e.wait with
        | .commit left st => { e with wait := .commit (left.filter fun r => !owned r) st }
        | _ => e }
  hit.foldl (fun s p => apply s p.1 p.2) s

/-- The leg whose shadowed register `r` is (R231). -/
def legOfReg (r : Nat) : Option Nat :=
  if R.WFU_LEG_CFG 0 ≤ r && r < R.WFU_LEG_CFG 42 && (r - R.WFU_LEG_CFG 0) % 0x20 < 0x14 then
    some ((r - R.WFU_LEG_CFG 0) / 0x20)
  else none

/-- Register `r` commits at the reload of timebase `t` as a register of the timebase or of a leg assigned to it
(R231). -/
def wfuOwned (s : State) (t r : Nat) : Bool :=
  r == R.WFU_TB_CFG t ||
    match legOfReg r with
    | some n => s.legTb n == t
    | none => false

/-- The shadowed registers of the waveform unit whose timebase is stopped commit at once (R231). -/
def wfuStopped (s : State) : State :=
  (s.commitPoint (fun r => (List.range 10).any fun t => !s.tbRunning t && s.wfuOwned t r) fun s r w =>
    s.setReg r w).legsApply

/-- A voltage command of table drive that the control engine wrote commits at the reload of the timebase of its set's
first leg (R27, R272). -/
def vcmdCommit (s : State) (t : Nat) : State :=
  forN 2 (fun x s =>
    forN 2 (fun set s =>
      let r := if set = 0 then R.TDU_VCMD1 x else R.TDU_VCMD2 x
      if s.legTb (6 * x + 3 * set) = t then
        match kvGet s.cleShadow r with
        | some w => { s with cleShadow := kvErase s.cleShadow r }.setReg r w
        | none => s
      else s) s) s

/-! ### Timebases -/

/-- Timebase `t` changed by `f`. -/
def modTb (s : State) (t : Fin 10) (f : Timebase → Timebase) : State :=
  { s with wfu := { s.wfu with tb := vupd s.wfu.tb t f } }

/-- The legs of timebase `t`. -/
def tbLegs (s : State) (t : Nat) : List Nat := (List.range 42).filter fun n => s.legPresent n && s.legTb n == t

/-! ### The sample generator (R21 to R23) -/

/-- The clocks changed by `f`. -/
def modClk (s : State) (f : Clocks → Clocks) : State := { s with clk := f s.clk }

/-- Timebase 0 is to give the boundaries, and no fallback stands (R21, R23). -/
def smplSrc (s : State) : Bool := s.clk.smplEff.bit 12 && !s.clk.fallback

/-- Reloads per sample (R43). -/
def smplDiv (s : State) : Nat := if s.clk.smplEff.bits 11 8 = 0 then 16 else s.clk.smplEff.bits 11 8

/-- The length of a period of timebase 0 in ns. -/
def tb0Ns (s : State) : Nat := 2 * s.tbPeriod 0 * s.tbTick 0

/-- The length of a sample in ns (R21 to R23, R43, R44). -/
def sampleNs (s : State) : Nat :=
  if s.smplSrc && s.tbRunning 0 then s.smplDiv * s.tb0Ns else max 10 (min 200 (s.clk.smplEff.bits 7 0)) * 1000

/-- How long the sample in progress has lasted, in ns: by network time, and at least the periods of timebase 0 that it has held
(log entry 140). DESIGN CHOICE, unsafe. -/
def sampleAge (s : State) : Nat :=
  max (4 * (250 * (s.now - s.clk.began).toNat + s.clk.coreSub - s.clk.beganSub)) (s.clk.reloads * s.tb0Ns)

/-- A reload of timebase 0 as the sample generator counts it: every DIV-th brings a boundary; the first ends the sample in
progress, unless it has lasted less than 10 µs (R21, R22). -/
def smplReload (s : State) : State :=
  if !s.smplSrc then s
  else if s.clk.aligned then
    s.modClk fun c => { c with reloads := c.reloads + 1, due := c.due || decide (s.smplDiv ≤ c.reloads + 1) }
  else
    let age := s.sampleAge
    if 10000 ≤ age then
      s.modClk fun c => { c with reloads := c.reloads + 1, aligned := true, due := true, cut := some age }
    else s.modClk fun c => { c with reloads := c.reloads + 1 }

/-- A boundary can fall now: while timebase 0 runs and gives the boundaries, only on the reload that brings one (R21, R22). -/
def boundaryDue (s : State) : Bool := !(s.smplSrc && s.tbRunning 0) || s.clk.due

/-- The sample begins; with timebase 0 running its reloads are counted from here (R21, R22). -/
def sampleBegin (s : State) : State :=
  let on := s.smplSrc && s.tbRunning 0
  s.modClk fun c =>
    { c with reloads := 0, due := false, cut := none, aligned := on, began := s.now, beganSub := c.coreSub }

/-- The first part of a reload: event, dither position, commits, acquisition triggers (R229 to R231, R238, R152). -/
def reloadCommit (s : State) (t : Fin 10) : State :=
  let s := (s.modTb t fun x => { x with k := (x.k + 1) % 16, down := false }).fire (96 + t.val)
  let s := if t.val = 0 then s.smplReload else s
  let s := { s with th := { s.th with kAux := vupd s.th.kAux t (· + 1), kCh := vupd s.th.kCh t (· + 1) } }
  let s := s.commitPoint (s.wfuOwned t.val) fun s r w => s.setReg r w
  (s.vcmdCommit t.val).acqTrigger (0x10 + t.val)

/-- The last part of a reload: a stop that waits takes effect, and the legs whose valley is the reload begin their
period (R230, R233, R242). -/
def reloadLegs (s : State) (t : Fin 10) : State :=
  let s :=
    if s.wfu.tb[t].stopping then
      (s.modTb t fun x => { x with running := false, stopping := false }).fire 110
    else s
  let s := s.legsApply
  (s.tbLegs t.val).foldl (fun s n =>
    if s.fld (R.WFU_LEG_CFG n) F.WFU_LEG_CFG_PHS % (2 * s.tbPeriod t.val) = 0 then s.legValley n else s) s

/-- The peak of timebase `t` (R229, R152). -/
def tbPeak (s : State) (t : Fin 10) : State :=
  if s.wfu.tb[t].running then (s.modTb t fun x => { x with down := true }).acqTrigger (0x20 + t.val) else s

/-- The timebases of a mask are asked to stop at their next reload (R230). -/
def tbStop (s : State) (mask : BitVec 10) : State :=
  forFin 10 (fun t s =>
    if mask.getLsbD t.val && s.wfu.tb[t].running then s.modTb t fun x => { x with stopping := true } else s) s

/-! ### Trips -/

/-- The filtered trip inputs that are active: high, or low where POL = 1 (R243). -/
def tripLive (s : State) : BitVec 4 :=
  s.wfu.tripPad ^^^
    BitVec.ofNat 4 (((List.range 4).filter fun k => s.bit (R.WFU_TRIP_CFG k) F.WFU_TRIP_CFG_POL).map (2 ^ ·)).sum

/-- The trip inputs are judged after one may have become active; `was` holds those active before (R243). -/
def tripJudge (s : State) (was : BitVec 4) : State :=
  let s := (List.range 4).foldl (fun s k =>
    if s.tripLive.getLsbD k && !was.getLsbD k && s.bit (R.WFU_TRIP_CFG k) F.WFU_TRIP_CFG_EN then
      ({ s with wfu := { s.wfu with trip := s.wfu.trip ||| BitVec.ofNat 4 (2 ^ k) } }.raise R.WFU_STAT
        F.WFU_STAT_TRIP).fire 106
    else s) s
  s.legsApply

/-- The filtered level at trip pad `k` becomes `level` (R243). -/
def tripInput (s : State) (k : Fin 4) (level : Bool) : State :=
  let b : BitVec 4 := BitVec.ofNat 4 (2 ^ k.val)
  let pad := if level then s.wfu.tripPad ||| b else s.wfu.tripPad &&& ~~~b
  { s with wfu := { s.wfu with tripPad := pad } }.tripJudge s.tripLive

/-- A write of `WFU_TRIPCLR` (R245). -/
def tripClear (s : State) (mask : BitVec 4) : State :=
  let refused := mask &&& s.tripLive
  let s := { s with wfu := { s.wfu with trip := s.wfu.trip &&& ~~~(mask &&& ~~~s.tripLive) } }
  let s := s.when (refused != 0) fun s => (s.raise R.WFU_STAT F.WFU_STAT_CLEAR_REFUSED).fire 107
  s.legsApply

/-! ### What the registers read as -/

/-- A read of `WFU_TBt_CNT`: while the timebase runs the counter is a free value between 0 and P − 1 before the peak and
between 1 and P from it on, since time within a period is not kept (R229, R252, log entry 1). -/
def tbCountRead (s : State) (t : Nat) : Word × State :=
  let x := s.wfu.tb[fin 10 t]
  let f := (Config.freeWord 252 s.freeCount).toNat % s.tbPeriod t
  let n := if !x.running then 0 else if x.down then 1 + f else f
  (Word.field 27 24 x.k ||| Word.field 16 16 (Word.ofBool x.down) ||| Word.field 15 0 n,
    if x.running then s.takeFree else s)

/-- What the state registers of the waveform unit read as (R251 to R253). -/
def wfuView (s : State) (r : Nat) : Option Word :=
  if r = R.WFU_TRIPST then some (Word.field 11 8 s.tripLive.toNat ||| Word.field 3 0 s.wfu.trip.toNat)
  else if r = R.WFU_TBCTL then
    some (BitVec.ofNat 32 (((List.range 10).filter s.tbRunning).map (2 ^ ·)).sum)
  else if R.WFU_LEG_CFG 0 ≤ r && r < R.WFU_LEG_CFG 42 && (r - R.WFU_LEG_CFG 0) % 0x20 = 0x14 then
    let n := (r - R.WFU_LEG_CFG 0) / 0x20
    if s.legPresent n then
      some (s.reg r ||| Word.field 29 29 (Word.ofBool (s.legTripped n)) ||| Word.field 28 28 (Word.ofBool (s.legHeld n))
        ||| Word.field 27 27 (Word.ofBool (s.leg n).hiz) ||| Word.field 26 26 (Word.ofBool (s.legTable n)))
    else some 0
  else none

end State

/-- TIMEBASE_STOP: 0 is written to the run bits of running timebases (R230). -/
def execTimebaseStop (mask : BitVec 10) (s : State) : Host.Outcome State Fault Refusal :=
  .next (s.whenUp fun s => s.tbStop mask)

/-- TIMEBASE_PEAK (R229, R249). -/
def execTimebasePeak (t : Fin 10) (s : State) : Host.Outcome State Fault Refusal := .next (s.whenUp fun s => s.tbPeak t)

/-- LEG_COMPARE_EDGE (R234, R235, R237, R239). -/
def execLegCompareEdge (n : Fin 42) (p : LegPoint) (s : State) : Host.Outcome State Fault Refusal :=
  .next (if s.up && s.legPresent n.val && s.tbRunning (s.legTb n.val) then s.legPoint n.val p else s)

/-- DEAD_TIME_EXPIRY (R236). -/
def execDeadTimeExpiry (n : Fin 42) (s : State) : Host.Outcome State Fault Refusal := .next (s.legDeadExpiry n.val)

end Sys2Proof.Machine
end

