-- ==== Sys2Proof/Machine/Gdp.lean ====
section
/-!
DEFINITION. Gate drive and stage protection (R286 to R310): detections and reactions, stage safe states and active
shorts, retries, clears, and the driver supplies.
-/

namespace Sys2Proof.Machine
namespace State

/-! ### Degradation (R61, R300) -/

/-- Leg `n` is lasting (R299). -/
def legLasting (s : State) (n : Nat) : Bool := s.bit (R.GDP_LEG_ST n) F.GDP_LEG_ST_LASTING

/-- `MOD_DEG.LEG_A`, `LEG_B` and `UNIT` follow the lasting legs and the drives in FAULT with DEG = 1; event 23 where a
bit becomes 1 (R61, R86, R300). -/
def refreshDeg (s : State) : State :=
  let some' (l : List Nat) := l.any s.legLasting
  let a := some' (List.range 6)
  let b := some' ((List.range 6).map (6 + ·))
  let u := some' ((List.range 30).map (12 + ·)) || s.act.drive.toList.any (·.deg)
  ((s.setDeg F.MOD_DEG_LEG_A a).setDeg F.MOD_DEG_LEG_B b).setDeg F.MOD_DEG_UNIT u

/-! ### Detections -/

/-- Leg `n` becomes high-impedance; an integrated switch that is on turns off softly (R295). -/
def legHiz (s : State) (n : Nat) : State :=
  let x := s.leg n
  let soft := if n < 27 then none else if x.hi then some Switch.high else if x.lo then some Switch.low else none
  let s := (s.setFld (R.GDP_LEG_ST n) F.GDP_LEG_ST_ASC 0).modLeg n fun x => { x with hiz := true, soft := soft }
  s.legApply n

/-- The record of a detection on leg `n`: FAULT and the cause, and the judgement as first or second failure (R295,
R299). -/
def detectRecord (s : State) (group : Bool) (cause n : Nat) : State :=
  let st := R.GDP_LEG_ST n
  let s := (s.raise st F.GDP_LEG_ST_FAULT).setFld st F.GDP_LEG_ST_CAUSE cause
  let s := (s.legHiz n).modLeg n fun x => { x with group := group }
  if s.bit st F.GDP_LEG_ST_LASTING then s
  else if s.bit st F.GDP_LEG_ST_WATCH then
    ((s.setFld st F.GDP_LEG_ST_WATCH 0).raise st F.GDP_LEG_ST_LASTING).setFld st F.GDP_LEG_ST_STATUS 7
  else s.raise st F.GDP_LEG_ST_COOL

/-- CORE clocks between an earlier time and now (R297), by network time (log entry 140). -/
def clocksSince (s : State) (t : Word) (sub : Nat) : Int :=
  ((s.now - t).toNat : Int) * 250 + s.clk.coreSub - sub

/-- A detection more than 10 µs old is no first detection of two any more (R297); judged at every sample boundary. -/
def detectionsAge (s : State) : State :=
  let last := s.gdp.last.map fun l => l.filter fun (_, t, sub) => decide (s.clocksSince t sub ≤ 2500)
  { s with gdp := { s.gdp with last := last } }

/-- Gate protection detects and reacts: in the modes in which units run, and in BOOT from step 7 of R66 on (R305). -/
def protects (s : State) : Bool := s.up || (s.mode == .boot && s.mod.boot == .ready)

/-- `f` is applied while gate protection detects and reacts. -/
def whenProtects (s : State) (f : State → State) : State := if s.protects then f s else s

/-- The state of an active short's choice at entry (R298). -/
def ascChosen (s : State) (st : Nat) : Bool :=
  let asc := R.GDP_TRC_ASC st
  decide (st < 2) && s.bit asc F.GDP_TRC_ASC_EN &&
    (if s.axisInvalid st then s.bit asc F.GDP_TRC_ASC_INV
     else decide (8 * s.fld asc F.GDP_TRC_ASC_HI < s.motorSpeed st))

/-- Stage `st` drives an active short. -/
def stageAsc (s : State) (st : Nat) : Bool := (s.fld R.GDP_STGST F.GDP_STGST_ASC).testBit st

/-- Stage `st` is in its safe state. -/
def stageIsSafe (s : State) (st : Nat) : Bool := (s.fld R.GDP_STGST F.GDP_STGST_SAFE).testBit st

/-- Stage `st` enters its stage safe state (R297, R298). -/
def stageSafe (s : State) (st : Nat) : State :=
  let asc := s.ascChosen st
  let s := s.setFld R.GDP_STGST F.GDP_STGST_SAFE (s.fld R.GDP_STGST F.GDP_STGST_SAFE ||| 2 ^ st)
  let s := ((s.raise R.GDP_STAT F.GDP_STAT_STAGE).raise R.GDP_STAT F.GDP_STAT_LASTING).fire 131
  let s := (stageLegs st).foldl (fun s n =>
    let r := R.GDP_LEG_ST n
    let s := if (s.leg n).hiz then s else
      let s := s.setFld r F.GDP_LEG_ST_CAUSE 6
      if asc then (s.raise r F.GDP_LEG_ST_ASC).legApply n else s.legHiz n
    (((((s.raise r F.GDP_LEG_ST_LASTING).raise r F.GDP_LEG_ST_STAGE).setFld r F.GDP_LEG_ST_COOL 0).setFld r
      F.GDP_LEG_ST_WATCH 0).setFld r F.GDP_LEG_ST_STATUS 7).modLeg n fun x => { x with group := false }) s
  if asc then
    (s.setFld R.GDP_STGST F.GDP_STGST_ASC (s.fld R.GDP_STGST F.GDP_STGST_ASC ||| 2 ^ st)).fire 132
  else s

/-- A detection on the legs `legs` of stage `st` that are not already high-impedance (R293, R295 to R299). -/
def detect (s : State) (legs : List Nat) (cause : Nat) : State :=
  match legs.filter fun n => s.legPresent n && !(s.leg n).hiz with
  | [] => s
  | n :: rest =>
    let hit := n :: rest
    let st := legStage n
    let second := hit.any fun m => s.bit (R.GDP_LEG_ST m) F.GDP_LEG_ST_WATCH
    let s := hit.foldl (fun s m => s.detectRecord (decide (rest ≠ [])) cause m) s
    let s := (s.raise R.GDP_STAT F.GDP_STAT_FAULT).fire 128
    let s := s.when second fun s => (s.raise R.GDP_STAT F.GDP_STAT_LASTING).fire 130
    let both : Bool := match s.gdp.last[fin 10 st] with
      | some (m, t, sub) => hit.any (· != m) && decide (s.clocksSince t sub ≤ 2500) && !s.stageIsSafe st
      | none => false
    let s := { s with gdp := { s.gdp with
      last := vupd s.gdp.last (fin 10 st) fun _ => some (n, s.now, s.clk.coreSub) } }
    (s.when both fun s => s.stageSafe st).refreshDeg

/-- The legs a shunt comparator covers: an actuator's three, or one pump leg (R293, R306). -/
def shuntLegs (c : Nat) : List Nat := if c < 3 then [27 + 3 * c, 28 + 3 * c, 29 + 3 * c] else [33 + c]

/-- A desaturation detection on the `w` switch of integrated leg `i` (R292). -/
def desaturation (s : State) (i : Nat) (w : Switch) : State :=
  let x := s.leg (27 + i)
  let watched := match w with
    | .high => x.hi && !x.blankH
    | .low => x.lo && !x.blankL
  if s.bit (R.GDP_DRV_CFG i) F.GDP_DRV_CFG_DSEN && watched then
    s.detect [27 + i] (match w with | .high => 1 | .low => 2)
  else s

/-- Comparator `c` detects where it is enabled and stands across its threshold (R293). -/
def shuntJudge (s : State) (c : Nat) : State :=
  if s.gdp.shunt.getLsbD c && s.bit (R.GDP_OC_CFG c) F.GDP_OC_CFG_EN then s.detect (shuntLegs c) 3 else s

/-- A shunt comparator crosses its threshold, or returns below it (R293). -/
def shuntChange (s : State) (c : Nat) (above : Bool) : State :=
  let b : BitVec 9 := BitVec.ofNat 9 (2 ^ c)
  { s with gdp := { s.gdp with shunt := if above then s.gdp.shunt ||| b else s.gdp.shunt &&& ~~~b } }.shuntJudge c

/-- The fault line of external leg `n` is ignored (R289). -/
def lineIgnored (s : State) (n : Nat) : Bool := !s.legEnabled n || s.gdp.blank.getLsbD (legEnable n)

/-- The filtered fault line of external leg `n` changes (R294). -/
def lineChange (s : State) (n : Nat) (active : Bool) : State :=
  let s := s.modLeg n fun x => { x with line := active }
  if active && !s.lineIgnored n then s.detect [n] 4 else s

/-- The fault lines that are active when their enable's blanking ends are detections (R289, R294). -/
def blankEnd (s : State) (x : Nat) : State :=
  let s := { s with gdp := { s.gdp with blank := s.gdp.blank &&& ~~~(BitVec.ofNat 4 (2 ^ x)) } }
  ((List.range 27).filter fun n => legEnable n == x && s.legPresent n).foldl (fun s n =>
    if (s.leg n).line && !s.lineIgnored n then s.detect [n] 4 else s) s

/-! ### Retry -/

/-- The detection source of leg `n` is active (R299). -/
def sourceActive (s : State) (n : Nat) : Bool :=
  if n < 27 then (s.leg n).line && !s.lineIgnored n
  else
    (List.range 9).any fun c =>
      (shuntLegs c).contains n && s.gdp.shunt.getLsbD c && s.bit (R.GDP_OC_CFG c) F.GDP_OC_CFG_EN

/-- The legs that share leg `n`'s cool-off and watch, the field `f` telling which runs (R299). -/
def groupLegs (s : State) (n : Nat) (f : Fld) : List Nat :=
  if (s.leg n).group then
    (stageLegs (legStage n)).filter fun m => (s.leg m).group && s.bit (R.GDP_LEG_ST m) f
  else [n]

/-- The cool-off of leg `n` ends (R299). -/
def coolOffEnd (s : State) (n : Nat) : State :=
  if !s.bit (R.GDP_LEG_ST n) F.GDP_LEG_ST_COOL then s
  else
    let legs := s.groupLegs n F.GDP_LEG_ST_COOL
    if legs.any s.sourceActive then
      let s := legs.foldl (fun s m =>
        let r := R.GDP_LEG_ST m
        (((s.setFld r F.GDP_LEG_ST_COOL 0).raise r F.GDP_LEG_ST_LASTING).setFld r F.GDP_LEG_ST_STATUS 7).setFld r
          F.GDP_LEG_ST_CAUSE 5) s
      ((s.raise R.GDP_STAT F.GDP_STAT_LASTING).fire 130).refreshDeg
    else
      legs.foldl (fun s m =>
        let r := R.GDP_LEG_ST m
        (((s.setFld r F.GDP_LEG_ST_COOL 0).raise r F.GDP_LEG_ST_WATCH).modLeg m fun x =>
          { x with hiz := false, soft := none }).legApply m) s

/-- The watch of leg `n` ends without a detection (R299). -/
def watchEnd (s : State) (n : Nat) : State :=
  if !s.bit (R.GDP_LEG_ST n) F.GDP_LEG_ST_WATCH then s
  else
    let legs := s.groupLegs n F.GDP_LEG_ST_WATCH
    let s := legs.foldl (fun s m =>
      let r := R.GDP_LEG_ST m
      (((s.setFld r F.GDP_LEG_ST_WATCH 0).setFld r F.GDP_LEG_ST_STATUS 6).countUp r F.GDP_LEG_ST_TRANS).modLeg m
        fun x => { x with group := false }) s
    s.fire 129

/-! ### Clearing -/

/-- The fault record of leg `n` is cleared and the leg released (R301). -/
def legForget (s : State) (n : Nat) : State :=
  let r := R.GDP_LEG_ST n
  let s := ((((s.setFld r F.GDP_LEG_ST_FAULT 0).setFld r F.GDP_LEG_ST_COOL 0).setFld r F.GDP_LEG_ST_WATCH 0).setFld r
    F.GDP_LEG_ST_LASTING 0).setFld r F.GDP_LEG_ST_STAGE 0
  (s.modLeg n fun x => { x with hiz := false, soft := none, group := false }).legApply n

/-- The judgement of a clear of leg `n` (R301). -/
def legClearStatus (s : State) (n : Nat) : Status :=
  let st := legStage n
  if !s.legPresent n then .notPresent
  else if s.lockInForce then .locked
  else if (s.mode != .service && s.legModePermits n)
      || (s.mode == .service && s.bit (R.WFU_LEG_CFG n) F.WFU_LEG_CFG_EN) then .wrongMode
  else if s.sourceActive n || (s.stageIsSafe st && (stageLegs st).any s.sourceActive) || s.stageAsc st then
    .outOfRange
  else .ok

/-- A request to clear leg `n` is judged, recorded and carried out (R301). -/
def legClear (s : State) (n : Nat) : State :=
  let status := s.legClearStatus n
  let st := legStage n
  let s := s.when (status = .outOfRange) fun s => s.raise R.GDP_STAT F.GDP_STAT_CLR_ACTIVE
  let s :=
    if status = .ok then
      if s.stageIsSafe st then
        let s := s.setFld R.GDP_STGST F.GDP_STGST_SAFE (s.fld R.GDP_STGST F.GDP_STGST_SAFE &&& (1023 - 2 ^ st))
        ((stageLegs st).foldl (fun s m => s.legForget m) s).refreshDeg
      else if (s.leg n).hiz || s.bit (R.GDP_LEG_ST n) F.GDP_LEG_ST_FAULT
          || s.bit (R.GDP_LEG_ST n) F.GDP_LEG_ST_WATCH then (s.legForget n).refreshDeg
      else s
    else s
  (s.setReg R.GDP_CLRST (Word.field 13 8 n ||| Word.field 7 0 status.code)).fire 136

/-! ### Active shorts at the sample boundary -/

/-- The active short of stage `st` ends (R298). -/
def ascEnd (s : State) (st : Nat) : State :=
  let s := (stageLegs st).foldl (fun s n =>
    if s.bit (R.GDP_LEG_ST n) F.GDP_LEG_ST_ASC then
      ((s.setFld (R.GDP_LEG_ST n) F.GDP_LEG_ST_ASC 0).modLeg n fun x => { x with hiz := true }).legApply n
    else s) s
  (s.setFld R.GDP_STGST F.GDP_STGST_ASC (s.fld R.GDP_STGST F.GDP_STGST_ASC &&& (3 - 2 ^ st))).fire 133

/-- The active shorts are judged again at a sample boundary (R298). -/
def ascBoundary (s : State) : State :=
  forN 2 (fun st s =>
    let asc := R.GDP_TRC_ASC st
    let ends :=
      if s.axisInvalid st then !s.bit asc F.GDP_TRC_ASC_INV
      else decide (s.motorSpeed st < 8 * s.fld asc F.GDP_TRC_ASC_LO)
    s.when (s.stageAsc st && ends) fun s => s.ascEnd st) s

/-! ### Driver supplies -/

/-- A driver supply falls below 90 % of its nominal (R302). -/
def supplyDip (s : State) (r : DriverRail) : State :=
  ({ s with gdp := { s.gdp with
    dip := true
    vcpOk := match r with | .vcp => false | .vdrv => s.gdp.vcpOk
    vdrvOk := match r with | .vcp => s.gdp.vdrvOk | .vdrv => false } }).legsApply

/-- Both driver supplies are back in their windows; within 10 µs of the dip it is counted (R302). -/
def supplyRecover (s : State) : State :=
  let dip := s.gdp.dip
  let s := { s with gdp := { s.gdp with dip := false, vcpOk := true, vdrvOk := true } }
  (if dip then
    ((s.countUp R.GDP_SUPPLY F.GDP_SUPPLY_DIPCNT).raise R.GDP_STAT F.GDP_STAT_SUPPLY_DIP).fire 135
   else s).legsApply

/-! ### What the registers read as -/

/-- A bit per leg from `lo` on, for `n` legs. -/
def legBits (s : State) (lo n : Nat) (p : Nat → Bool) : Word :=
  BitVec.ofNat 32 (((List.range n).filter fun i => s.legPresent (lo + i) && p (lo + i)).map (2 ^ ·)).sum

/-- What the state registers of gate protection read as (R306, R307). -/
def gdpView (s : State) (r : Nat) : Option Word :=
  if r = R.GDP_HIZ0 then some (s.legBits 0 32 fun n => (s.leg n).hiz)
  else if r = R.GDP_HIZ1 then some (s.legBits 32 10 fun n => (s.leg n).hiz)
  else if r = R.GDP_LAST0 then some (s.legBits 0 32 s.legLasting)
  else if r = R.GDP_LAST1 then some (s.legBits 32 10 s.legLasting)
  else if r = R.GDP_XEN then some (s.reg r ||| Word.field 3 0 (s.gdp.en.toNat % 16))
  else if r = R.GDP_SUPPLY then
    some (s.reg r ||| Word.field 1 1 (Word.ofBool s.gdp.vdrvOk) ||| Word.field 0 0 (Word.ofBool s.gdp.vcpOk))
  else none

end State

/-- BLANKING_EXPIRY (R292). -/
def execBlankingExpiry (i : Fin 15) (w : Switch) (s : State) : Host.Outcome State Fault Refusal :=
  .next (s.modLeg (27 + i.val) fun x =>
    match w with
    | .high => { x with blankH := false }
    | .low => { x with blankL := false })

/-- SOFT_TURN_OFF_END: the full sink holds the gate low (R295). -/
def execSoftTurnOffEnd (i : Fin 15) (s : State) : Host.Outcome State Fault Refusal :=
  .next (s.modLeg (27 + i.val) fun x => { x with soft := none })

/-- WATCH_END (R299). -/
def execWatchEnd (n : Fin 42) (s : State) : Host.Outcome State Fault Refusal := .next (s.watchEnd n.val)

end Sys2Proof.Machine
end

