-- ==== Sys2Proof/Machine/Budget.lean ====
section
/-!
DEFINITION. The start budget (R360 to R363): the token bucket, the queue, requests, withdrawals and grants. Who is
granted stands with the requesters.
-/

namespace Sys2Proof.Machine

/-- What a request meets at once (R360, R362). -/
inductive Asked where
  | granted | refused | waits
  deriving DecidableEq, Repr

/-- A request put behind every request of equal or more urgent priority (R362). -/
def budgetInsert (r : BudgetReq) : List BudgetReq → List BudgetReq
  | [] => [r]
  | q :: t => if q.prio ≤ r.prio then q :: budgetInsert r t else r :: q :: t

namespace State

/-- The budget changed by `f`. -/
def modBudget (s : State) (f : Budget → Budget) : State := { s with budget := f s.budget }

/-- The cost word of a class (R361). -/
def costWord (s : State) (cls : Nat) : Word := s.tableWord (s.fld R.ENP_SBCFG F.ENP_SBCFG_CBASE + cls)

/-- A request on `port` meets the local bucket (R360, R362). -/
def budgetJudge (s : State) (port cls : Nat) (partner : Bool) : Asked × State :=
  let w := s.costWord cls
  let cost := w.bits 15 0
  if !s.bit R.ENP_SBCFG F.ENP_SBCFG_EN || cost = 0 then (.granted, s)
  else if s.fld R.ENP_SBCFG F.ENP_SBCFG_CAP < cost then (.refused, s.raise R.ENP_SBST F.ENP_SBST_OOR)
  else
    (.waits, s.modBudget fun b => { b with queue := budgetInsert ⟨port, cls, cost, w.bits 19 16, w.bits 31 20, partner⟩ b.queue })

/-- A request is made on `port`; a quiet module's travels to the acting lead (R362, R488). -/
def budgetAsk (s : State) (port cls : Nat) : Asked × State :=
  if s.quiet then (.waits, s.modBudget fun b => { b with sent := b.sent ++ [(port, cls)] })
  else s.budgetJudge port cls false

/-- A request of this module waits on `port`. -/
def budgetWaits (s : State) (port : Nat) : Bool :=
  (s.budget.queue.any fun q => q.port == port && !q.partner) || s.budget.sent.any fun q => q.1 == port

/-- The request of this module on `port` is withdrawn (R362). -/
def budgetWithdraw (s : State) (port : Nat) : State :=
  s.modBudget fun b =>
    { b with queue := b.queue.filter fun q => q.port != port || q.partner
             sent := b.sent.filter fun q => q.1 != port }

/-- The bucket refills for 1 µs, up to CAP (R360). -/
def budgetRefill (s : State) : State :=
  if s.bit R.ENP_SBCFG F.ENP_SBCFG_EN then
    s.modBudget fun b =>
      { b with tokens := min (256000 * s.fld R.ENP_SBCFG F.ENP_SBCFG_CAP)
                  (b.tokens + (s.reg R.ENP_SBRATE).bits 15 0) }
  else s

/-- The heads that the tokens pay for, at most `n`, and the state with their costs taken; with the budget off every
request is granted (R360, R362). -/
def budgetGrants (s : State) : Nat → List BudgetReq × State
  | 0 => ([], s)
  | n + 1 =>
    match s.budget.queue with
    | [] => ([], s)
    | q :: rest =>
      let cost := if s.bit R.ENP_SBCFG F.ENP_SBCFG_EN then 256000 * q.cost else 0
      if cost ≤ s.budget.tokens then
        let (l, s) :=
          (s.modBudget fun b => { b with queue := rest, tokens := b.tokens - cost }).budgetGrants n
        (q :: l, s)
      else ([], s)

/-- The outcome of a firmware port's request (R363). -/
def budgetResult (s : State) (f : Nat) (cls : Nat) (st : Status) : State :=
  let w : Word := Word.field 31 31 1 ||| Word.field 11 8 cls ||| Word.field 7 0 st.code
  (s.modBudget fun b => { b with res := b.res.set (f % 4) (some w) (Nat.mod_lt f (by decide)) }).fire 199

/-- A read of a firmware port's result (R9, R363). -/
def budgetResRead (s : State) (f : Fin 4) : Word × State :=
  match s.budget.res[f] with
  | some w => (w, s.modBudget fun b => { b with res := b.res.set f none })
  | none => (0, s)

/-- `ENP_SBCFG` commits `w`; a lower CAP clamps the tokens at once (R360). -/
def budgetCommit (s : State) (w : Word) : State :=
  (s.setReg R.ENP_SBCFG w).modBudget fun b => { b with tokens := min b.tokens (256000 * w.bits 30 16) }

/-- What the budget's state registers read as (R366). -/
def budgetView (s : State) (r : Nat) : Option Word :=
  if r = R.ENP_SBTOK then some (Word.field 22 0 (s.budget.tokens / 1000))
  else if r = R.ENP_SBQ then
    let head := match s.budget.queue with | [] => 31 | q :: _ => q.port
    some (Word.field 20 16 head
      ||| BitVec.ofNat 32 (((List.range 12).filter s.budgetWaits).map (2 ^ ·)).sum)
  else none

end State
end Sys2Proof.Machine
end

