-- ==== Sys2Proof/Machine/Act.lean ====
section
/-!
DEFINITION. Gearbox actuators and auxiliary motors (R311 to R334): commands and attempts, probing, starting, failures,
pauses, arrival, the park state, synchronisation, nudges and the pads' speed references.
-/

namespace Sys2Proof.Machine

/-- The function that permits drive `d` (R311). -/
def actFunc (d : Nat) : Func := if d = 1 then .parkLock else if d < 3 then .gearbox else .aux

/-- The legs of drive `d` (R311). -/
def actLegs (d : Nat) : List Nat := [27 + 3 * d, 28 + 3 * d, 29 + 3 * d]

/-- High and low switch of the three legs in test pulse `i` at electrical direction 30° × i, the drive's first leg at
0° (R317). The manual does not say which leg lies at 0° (log entry 40). PRESUMED, unsafe. -/
def probePattern (i : Nat) : List (Bool × Bool) :=
  let h := (true, false)
  let l := (false, true)
  let o := (false, false)
  match i with
  | 0 => [h, l, l] | 1 => [h, o, l] | 2 => [h, h, l] | 3 => [o, h, l] | 4 => [l, h, l] | 5 => [l, h, o]
  | 6 => [l, h, h] | 7 => [l, o, h] | 8 => [l, l, h] | 9 => [o, l, h] | 10 => [h, l, h] | _ => [h, l, o]

namespace State

/-- Drive `d`'s record. -/
def drive (s : State) (d : Fin 5) : ActDrive := s.act.drive[d]

/-- Drive `d`'s record changed by `f`. -/
def modDrive (s : State) (d : Fin 5) (f : ActDrive → ActDrive) : State :=
  { s with act := { s.act with drive := vupd s.act.drive d f } }

/-- The state code of drive `d` (R315). -/
def actState (s : State) (d : Fin 5) : Nat := s.fld (R.ACT_D_ST d.val) F.ACT_D_ST_STATE

/-- Drive `d` enters the state with this code. -/
def setActState (s : State) (d : Fin 5) (c : Nat) : State := s.setFld (R.ACT_D_ST d.val) F.ACT_D_ST_STATE c

/-- Drive `d`'s STATUS. -/
def setActStatus (s : State) (d : Fin 5) (st : Status) : State :=
  s.setFld (R.ACT_D_ST d.val) F.ACT_D_ST_STATUS st.code

/-- Word `i` of drive `d`'s parameter block (R314). -/
def actParam (s : State) (d : Fin 5) (i : Nat) : Word := s.tableWord (s.fld (R.ACT_D_CFG d.val) F.ACT_D_CFG_PAR + i)

/-- An option bit of drive `d`. -/
def actCfg (s : State) (d : Fin 5) (f : Fld) : Bool := s.bit (R.ACT_D_CFG d.val) f

/-- The command in force: OP (R332). -/
def actOp (s : State) (d : Fin 5) : Nat := s.fld (R.ACT_D_CMD d.val) F.ACT_D_CMD_OP

/-- The drive's timebase. -/
def actTb (s : State) (d : Fin 5) : Nat := s.legTb (27 + 3 * d.val)

/-- Drive `d` forms its legs' compares: RAMP, RUN or HOLD (R313). -/
def actDriving (s : State) (d : Fin 5) : Bool :=
  let c := s.actState d
  c == 3 || c == 4 || c == 5

/-- The legs of drive `d` go back to their committed compares (R313). -/
def actRelease (s : State) (d : Fin 5) : State :=
  (actLegs d.val).foldl (fun s n => (s.modLeg n fun l => { l with gov := none, forced := none }).legApply n) s

/-- The legs of drive `d` take imposed states (R313, R317). -/
def actForce (s : State) (d : Fin 5) (l : List (Bool × Bool)) : State :=
  ((actLegs d.val).zip l).foldl (fun s p =>
    (s.modLeg p.1 fun x => { x with gov := none, forced := some p.2 }).legApply p.1) s

/-- The states imposed on the legs of drive `d` end; the compares that ACT has formed go on (R313). -/
def actUnforce (s : State) (d : Fin 5) : State :=
  (actLegs d.val).foldl (fun s n => (s.modLeg n fun l => { l with forced := none }).legApply n) s

/-- The loops of drive `d` start from nothing (log entry 43). DESIGN CHOICE, unsafe. -/
def actLoops (s : State) (d : Fin 5) : State :=
  s.modDrive d fun x => { x with spdI := 0, curD := 0, curQ := 0, iq := 0, vd := 0, vq := 0, ramp := 0 }

/-- Drive `d` stands in STOPPED with this status, nothing asked, no failure recorded (R316). -/
def actEnd (s : State) (d : Fin 5) (st : Status) : State :=
  let s := ((s.budgetWithdraw d.val).setActState d 0).setActStatus d st
  let s := s.setFld (R.ACT_D_ST d.val) F.ACT_D_ST_PAUSE 0
  (s.modDrive d fun x =>
    { x with failed := none, retrying := false, idle := false, m := [], arrive := 0 }).actRelease d

/-- A cause of R320 stands: the stage's enable is low, or a leg is high-impedance or tripped. -/
def actBlocked (s : State) (d : Fin 5) : Bool :=
  (actLegs d.val).any fun n => !s.legEnabled n || (s.leg n).hiz || s.legTripped n

/-- The budget has granted drive `d`'s start: the probe begins, or with Hall sensors the start that ends at the first
commutation event (R317, R318; log entry 41). DEDUCED. -/
def actGranted (s : State) (d : Fin 5) : State :=
  let s := (s.modDrive d fun x => { x with m := [], taken := 0, order := none }).actLoops d
  if s.fld (R.ACT_D_CFG d.val) F.ACT_D_CFG_ANG = 0 then (s.setActState d 2).actForce d (probePattern 0)
  else s.setActState d 3

/-- An attempt begins (R316); a cause of R320 pauses it at once. -/
def actAttempt (s : State) (d : Fin 5) (retry : Bool) : State :=
  let s := ((s.budgetWithdraw d.val).setActStatus d .busy).actRelease d
  let s := s.modDrive d fun x =>
    { x with retrying := retry, failed := if retry then x.failed else none, idle := false, m := [], arrive := 0 }
  if s.actBlocked d then (s.setActState d 0).raise (R.ACT_D_ST d.val) F.ACT_D_ST_PAUSE
  else
    let s := s.setFld (R.ACT_D_ST d.val) F.ACT_D_ST_PAUSE 0
    match s.budgetAsk d.val (s.fld (R.ACT_D_CFG d.val) F.ACT_D_CFG_COST) with
    | (.granted, s) => s.actGranted d
    | (.refused, s) => s.actEnd d .outOfRange
    | (.waits, s) => s.setActState d 1

/-- The attempt of drive `d` succeeds (R319). -/
def actSucceed (s : State) (d : Fin 5) : State :=
  let s :=
    if (s.drive d).retrying then
      (s.setActStatus d .retriedOk).countUp (R.ACT_D_ST d.val) F.ACT_D_ST_TRANS
    else s.setActStatus d .ok
  s.modDrive d fun x => { x with retrying := false, failed := none }

/-- The attempt of drive `d` fails: RETRY, or after the retry FAULT (R319). -/
def actFail (s : State) (d : Fin 5) : State :=
  let st := R.ACT_D_ST d.val
  let even := s.actCfg d F.ACT_D_CFG_EVEN
  let s := (((s.raise st F.ACT_D_ST_LOCK).raise R.ACT_STAT F.ACT_STAT_LOCK).fireIf even 201).actRelease d
  if (s.drive d).retrying then
    let deg := s.actCfg d F.ACT_D_CFG_DEG
    let s := ((s.setActState d 7).setActStatus d .failedTwice).raise st F.ACT_D_ST_LASTING
    let s := s.modDrive d fun x => { x with retrying := false, failed := none, deg := deg, m := [] }
    (s.fireIf even 202).refreshDeg
  else
    let cmd := s.reg (R.ACT_D_CMD d.val)
    (s.setActState d 6).modDrive d fun x => { x with failed := some cmd, m := [] }

/-! ### Targets and references -/

/-- The position code of drive `d`, and whether its channel is valid (R322, R332). -/
def actCode (s : State) (d : Fin 5) : Nat × Bool :=
  let ch := s.fld (R.ACT_D_ICH d.val) F.ACT_D_ICH_PCH
  if ch < 48 then (s.latchedOf ch % 4096, !s.chanInvalid ch) else (0, false)

/-- The code lies within the window of target `k` (R314, R322). -/
def inTarget (s : State) (d : Fin 5) (k code : Nat) : Bool :=
  let w := s.actParam d (14 + k)
  decide (((code : Int) - w.bits 11 0).natAbs ≤ w.bits 23 16)

/-- KIND of target `k` (R314). -/
def targetKind (s : State) (d : Fin 5) (k : Nat) : Nat := (s.actParam d (14 + k)).bits 26 24

/-- Target of the command in force. -/
def actTarget (s : State) (d : Fin 5) : Nat := s.fld (R.ACT_D_CMD d.val) F.ACT_D_CMD_TGT

/-- A move of drive 1 to a PARK_ENGAGED target at too high a speed (R324). -/
def parkTooFast (s : State) (d : Fin 5) : Bool :=
  d.val == 1 && s.actOp d == 1 && s.targetKind d (s.actTarget d) == 4
    && decide (s.nreg R.ACT_PARKSPD ≤ (s.sreg R.POS_GSPD).natAbs)

/-- The value of command pad `p` for a speed reference; none where PSAFE takes its place (R327). -/
def padValue (s : State) (p : Nat) : Option Nat :=
  let form := s.fld (R.CLE_CMD_CFG p) F.CLE_CMD_CFG_FORM
  if form = 3 then
    if s.bit (R.ACT_CMD_P_AV p) F.ACT_CMD_P_AV_INVALID then none
    else some (s.fld (R.ACT_CMD_P_AV p) F.ACT_CMD_P_AV_VALUE)
  else if form = 0 || (s.padLatched p).bit F.CLE_CMD_VAL_TO.lo || (s.padLatched p).bit F.CLE_CMD_VAL_RNG.lo then none
  else some ((s.padLatched p).bits F.CLE_CMD_VAL_VALUE.hi F.CLE_CMD_VAL_VALUE.lo)

/-- The speed reference of a SPEED command (R327). -/
def speedRef (s : State) (d : Fin 5) : Int :=
  let raw :=
    if s.bit (R.ACT_D_CMD d.val) F.ACT_D_CMD_SRC then
      match s.padValue (s.fld (R.ACT_D_CMD d.val) F.ACT_D_CMD_PAD) with
      | some v => sat32 (mulCoef v (s.reg (R.ACT_D_PK d.val)))
      | none => s.sreg (R.ACT_D_PSAFE d.val)
    else s.sreg (R.ACT_D_SREF d.val)
  let m : Int := (s.actParam d 13).toNat
  sat (-m) m raw

/-- OBSMIN in Q16.16 (R314). -/
def obsMin (s : State) (d : Fin 5) : Int := (s.actParam d 8).bits 31 16 * 65536

/-- The commanded direction is positive (R318, R322). -/
def actForward (s : State) (d : Fin 5) : Bool :=
  if s.actOp d = 1 then
    let up := decide ((s.actCode d).1 < (s.actParam d (14 + s.actTarget d)).bits 11 0)
    up != s.actCfg d F.ACT_D_CFG_DIRP
  else decide (0 ≤ (s.drive d).ref)

/-- The reference of the command in force: MOVESPD in the direction of the target, or the SPEED command's (R322, R327). -/
def actReference (s : State) (d : Fin 5) : Int :=
  if s.actOp d = 1 then
    let v := (s.actParam d 12).toInt
    if s.actForward d then v else -v
  else s.speedRef d

/-- The thermal factor of drive `d` applied to a current limit (R387). -/
def actDerated (s : State) (d : Fin 5) (i : Nat) : Int :=
  let f := s.th.drive[d]
  if f = 0xFFFF then i else (i * f / 65536 : Nat)

/-- The current limit of drive `d`: HOLDI in HOLD, ILIM in motion (R314, R322, R387). -/
def actLimit (s : State) (d : Fin 5) : Int :=
  let w := s.actParam d 7
  s.actDerated d (if s.actState d = 5 then w.bits 31 16 else w.bits 15 0)

/-! ### Loops (R314) -/

/-- A proportional and integral law as R204 forms it, of error `e` in units of 2^-`n`: the new integrator and the output limited
to `lo` and `hi`. The rounding of the two products is free (log entry 43). -/
def loopStep (place n : Nat) (kp ki : Word) (e i lo hi : Int) : Int × Int :=
  let mul (k : Word) (j : Nat) : Int := sat32 (freeDiv (place + j) (e * signed 24 (k.bits 31 8)) (2 ^ (k.bits 4 0 + n)))
  let di := mul ki 1
  let ic := sat32 (i + di)
  let u := sat32 (mul kp 0 + ic)
  (if (hi < u ∧ 0 < di) ∨ (u < lo ∧ di < 0) then i else ic, sat lo hi u)

/-- The speed loop of drive `d` at a boundary: reference 0 in HOLD, and for a SPEED reference below OBSMIN (R314, R322, R327,
R329). -/
def actSpeedLoop (s : State) (d : Fin 5) : State :=
  let st := s.actState d
  if st ≠ 4 && st ≠ 5 then s
  else
    let x := s.drive d
    let low := s.actOp d != 1 && decide ((x.ref.natAbs : Int) < s.obsMin d)
    let e := sat32 ((if st = 5 || low then 0 else x.ref) - s.sreg (R.ACT_D_SPD d.val))
    let lim := s.actLimit d
    let (i, y) := loopStep 3140 16 (s.actParam d 5) (s.actParam d 6) e x.spdI (-lim) lim
    s.modDrive d fun x => { x with spdI := i, iq := y }

/-- Pole pairs of drive `d` (R314). -/
def actPoles (s : State) (d : Fin 5) : Nat :=
  let n := (s.actParam d 2).bits 19 16
  if n = 0 then 16 else n

/-- The ramp's angle after the probed one: its speed rises linearly from 0 to OBSMIN over RAMP ms (R318). -/
def actRampAngle (s : State) (d : Fin 5) : Int :=
  let ramp := (s.actParam d 9).bits 7 0
  let t := min (s.drive d).ramp (ramp * 1000000)
  let way : Int := if ramp = 0 then 0 else
    freeDiv 318 ((s.actParam d 8).bits 31 16 * s.actPoles d * t * t : Nat) (2 * ramp * 10 ^ 12 : Nat)
  s.fld (R.ACT_D_ANG d.val) F.ACT_D_ANG_PROBE + (if s.actForward d then way else -way)

/-- The angle of drive `d` in the period that begins (R318, R329): with Hall sensors the centre of the code's sector, the sectors
lying 60° apart from a free place on; in RAMP the ramp's; else the observer's. The manual gives the observer's inputs and no
equation: its angle and speed are free values of them (log entry 43). -/
def actObserve (s : State) (d : Fin 5) : State :=
  let x := s.drive d
  let ang := s.fld (R.ACT_D_CFG d.val) F.ACT_D_CFG_ANG
  let was := s.fld (R.ACT_D_ANG d.val) F.ACT_D_ANG_EANG
  let p := s.tbPeriod (s.actTb d)
  let l : List Int := [(s.actParam d 1).bits 31 16, (s.actParam d 1).bits 15 0, s.actPoles d, (s.actParam d 2).bits 15 0,
    x.vd, x.vq, x.cur[0], x.cur[1], x.cur[2], was, s.sreg (R.ACT_D_SPD d.val), 2 * p * s.tbTick (s.actTb d)]
  let observed := s.setReg (R.ACT_D_SPD d.val) (ofInt (Config.realFn 3181 l))
  let angle : Int :=
    if ang ≠ 0 then
      match hallPlace (s.pos.axis[fin 11 (7 + ang)].sensor) with
      | some k => freeDiv 3183 (65536 * (2 * k + 1) : Nat) 12 + Config.realFn 3184 [d.val]
      | none => was
    else if s.actState d = 3 then s.actRampAngle d
    else Config.realFn 3182 l
  (if ang = 0 then observed else s).setFld (R.ACT_D_ANG d.val) F.ACT_D_ANG_EANG (modBits 16 angle)

/-- The current loop of drive `d` in a period: reference d = 0, and q the speed loop's, or ISTART in the start (R314, R318). The
voltage is limited to the command's range (log entry 43). DEDUCED, unsafe. -/
def actCurrentLoop (s : State) (d : Fin 5) : State :=
  let x := s.drive d
  let (id, iq) := currentsDq x.cur[0] x.cur[1] x.cur[2] (s.fld (R.ACT_D_ANG d.val) F.ACT_D_ANG_EANG)
  let unit : Int := 3 * oneQ * oneQ
  let lim := s.actLimit d
  let start : Int := (s.actParam d 8).bits 15 0
  let ref := if s.actState d = 3 then (if s.actForward d then start else -start) else sat (-lim) lim x.iq
  let kp := s.actParam d 3
  let ki := s.actParam d 4
  let (di, vd) := loopStep 3142 0 kp ki (-freeDiv 3144 id unit) x.curD (-32768) 32767
  let (qi, vq) := loopStep 3145 0 kp ki (ref - freeDiv 3147 iq unit) x.curQ (-32768) 32767
  s.modDrive d fun x => { x with curD := di, curQ := qi, vd := vd, vq := vq }

/-! ### Commands -/

/-- A MOVE or SPEED command commits (R316, R322, R324). In WAIT it is taken as in PROBE (log entry 42). DEDUCED. -/
def actGo (s : State) (d : Fin 5) (w : Word) : State :=
  let was := s.reg (R.ACT_D_CMD d.val)
  let s := s.setReg (R.ACT_D_CMD d.val) w
  let st := s.actState d
  let move := s.actOp d = 1
  let s := s.modDrive d fun x => { x with ref := s.actReference d }
  if st = 7 then s
  else if !s.permits (actFunc d.val) then s.actEnd d (if s.lockInForce then .locked else .wrongMode)
  else if move && !(s.actCode d).2 then s.actEnd d .outOfRange
  else if s.parkTooFast d then (s.actEnd d .outOfRange).raise R.ACT_STAT F.ACT_STAT_PARKREF
  else if st = 0 then s.actAttempt d false
  else if st = 4 || st = 5 then
    let s := ((s.setActState d 4).fireIf (st = 5 && s.actCfg d F.ACT_D_CFG_EVEN) 200).setActStatus d .busy
    let s := s.modDrive d fun x => { x with arrive := 0 }
    if move then s else s.actSucceed d
  else if st = 6 then s.actAttempt d ((s.drive d).failed = some w)
  else if w = was then s.setActStatus d .busy
  else s.actAttempt d false

/-- A STOP command commits (R316). -/
def actStop (s : State) (d : Fin 5) (w : Word) : State := (s.setReg (R.ACT_D_CMD d.val) w).actEnd d .ok

/-- `ACT_Dd_CMD` commits `w` (R316). -/
def actCommand (s : State) (d : Fin 5) (w : Word) : State :=
  if w.bits 31 30 = 0 then s.actStop d w else s.actGo d w

/-- LASTING is cleared: a drive in FAULT returns to STOPPED (R319). -/
def actLastingClear (s : State) (d : Fin 5) : State :=
  if s.bit (R.ACT_D_ST d.val) F.ACT_D_ST_LASTING then
    let s := (s.setFld (R.ACT_D_ST d.val) F.ACT_D_ST_LASTING 0).modDrive d fun x => { x with deg := false }
    (if s.actState d = 7 then s.setActState d 0 else s).refreshDeg
  else s

/-- Drives with a cause of R320 pause, and paused drives whose cause is gone start a fresh attempt (R320). -/
def actPauses (s : State) : State :=
  forFin 5 (fun d s =>
    let st := s.actState d
    let paused := s.bit (R.ACT_D_ST d.val) F.ACT_D_ST_PAUSE
    if s.actBlocked d then
      if st = 0 || st = 7 then s
      else
        let s := ((s.budgetWithdraw d.val).setActState d 0).raise (R.ACT_D_ST d.val) F.ACT_D_ST_PAUSE
        (s.modDrive d fun x => { x with retrying := false, failed := none, m := [], arrive := 0 }).actRelease d
    else if paused then s.actAttempt d false
    else s) s

/-! ### Start -/

/-- Drive `d` enters RUN (R318, R319). -/
def actRun (s : State) (d : Fin 5) : State :=
  let s := ((s.setActState d 4).fireIf (s.actCfg d F.ACT_D_CFG_EVEN) 200)
  if s.actOp d = 1 then s else s.actSucceed d

/-- A test pulse of the probe ends: its current is sampled, and every low switch turns on (R317, R312; the trigger's
lead of 275 ns is not kept, log entry 1). -/
def probePulseEnd (s : State) (d : Fin 5) : State :=
  if s.actState d != 2 || (s.drive d).taken != 0 then s
  else
    let s := s.modDrive d fun x => { x with taken := 1 }
    (s.acqTrigger (0x30 + s.actTb d)).actForce d [(false, true), (false, true), (false, true)]

/-- The current of test pulse `i` on the pulse's direction (R317): of a single shunt its current, which is the one of the high
switches; of a shunt per leg the low legs' currents reversed; a two-leg pulse lies 30° off its legs, and its vector is 2/√3 times
its current (log entry 43). -/
def probeCurrent (s : State) (d : Fin 5) (i : Nat) : Int :=
  let cur := (s.drive d).cur
  let lows := (List.finRange 3).filter fun (k : Fin 3) => ((probePattern i).getD k.val (false, false)).2
  let sum := if d.val < 3 then cur[0] else -(lows.map fun k => cur[k]).sum
  if i % 2 = 0 then sum else freeSurd 3170 0 (2 * sum) 3

/-- Place of the first largest element. -/
def largestAt (l : List Int) : Nat :=
  let b := l.foldl max (l.headD 0)
  (l.findIdx? (· == b)).getD 0

/-- The angle of R317 from the twelve currents; free where its denominator is 0. -/
def probeAngle (l : List Int) : Nat :=
  let i := largestAt l
  let at' (k : Nat) : Int := l.getD (k % 12) 0
  let b := at' i
  let a := at' (i + 11)
  let c := at' (i + 1)
  let den := 2 * (2 * b - a - c)
  if den = 0 then modBits 16 (Config.realFn 317 l) else modBits 16 (fdiv (65536 * (i * den + (c - a))) (12 * den))

/-- The twelve pulses are made: the angle and the polarity are judged (R317). -/
def probeJudge (s : State) (d : Fin 5) (l : List Int) : State :=
  let i := largestAt l
  let ang := probeAngle l
  let s := s.setReg (R.ACT_D_ANG d.val) (Word.field 31 16 ang ||| Word.field 15 0 ang)
  if l.getD (i % 12) 0 - l.getD ((i + 6) % 12) 0 < (s.actParam d 11).bits 31 16 then s.actFail d
  else ((s.setActState d 3).actLoops d).actRelease d

/-- The decay after a test pulse ends: the pulse's current has come; the next pulse begins, or after the twelfth the angle and
the polarity are judged (R317). -/
def probeDecayEnd (s : State) (d : Fin 5) : State :=
  if s.actState d != 2 || (s.drive d).taken = 0 then s
  else
    let l := (s.drive d).m ++ [s.probeCurrent d (s.drive d).m.length]
    let s := s.modDrive d fun x => { x with m := l, taken := 0 }
    if l.length < 12 then s.actForce d (probePattern l.length) else s.probeJudge d l

/-- The ramp ends: RUN where the observer has followed it, else a failure (R318). -/
def rampEnd (s : State) (d : Fin 5) (obs : Word) : State :=
  if s.actState d != 3 || s.fld (R.ACT_D_CFG d.val) F.ACT_D_CFG_ANG ≠ 0 then s
  else
    let s := s.setReg (R.ACT_D_SPD d.val) obs
    let v := if s.actForward d then obs.toInt else -obs.toInt
    let m := s.obsMin d
    if m ≤ 2 * v && v ≤ 2 * m then s.actRun d else s.actFail d

/-- A commutation event in the commanded direction (R319); with Hall sensors the first one enters RUN (R318). -/
def commutation (s : State) (d : Fin 5) (obs : Word) (eang : BitVec 16) : State :=
  if !s.actDriving d then s
  else
    let s := (s.setReg (R.ACT_D_SPD d.val) obs).setFld (R.ACT_D_ANG d.val) F.ACT_D_ANG_EANG eang.toNat
    if s.actState d = 3 && s.fld (R.ACT_D_CFG d.val) F.ACT_D_CFG_ANG ≠ 0 then s.actRun d else s

/-- A locked rotor is recognised (R319). -/
def lockedRotor (s : State) (d : Fin 5) : State :=
  let st := s.actState d
  if st = 3 || (st = 4 && (s.actOp d = 1 || decide (s.obsMin d ≤ (s.drive d).ref.natAbs))) then s.actFail d else s

/-- The retry delay ends (R319). -/
def retryDelay (s : State) (d : Fin 5) : State :=
  if s.actState d = 6 && s.actCfg d F.ACT_D_CFG_AUTO then s.actAttempt d true else s

/-! ### Periods -/

/-- Drive `d`'s compares of the period a reload begins, in whole ticks, from the voltage of its current loop at the angle that the
motor reaches at the peak (R271, R313), shifted for drives 0 to 2 so that both vectors last TW (R321). The manual does not say how
the angle is advanced nor how the ticks are rounded: as R271 does, and down (log entry 43). DEDUCED, unsafe. -/
def actCompares (s : State) (d : Fin 5) : State :=
  let t := s.actTb d
  let p := s.tbPeriod t
  let dr := s.drive d
  let ahead := freeDiv 3133 (s.sreg (R.ACT_D_SPD d.val) * (s.actPoles d * (16 + p * s.tbTick t) : Nat)) (65536 * 1000000)
  let cmp := setCompares p dr.vd dr.vq (s.fld (R.ACT_D_ANG d.val) F.ACT_D_ANG_EANG + ahead)
  let c (k : Nat) : Nat := cmp[fin 3 k] / 16
  let legs := actLegs d.val
  let set (s : State) (k : Nat) (a b : Int) : State :=
    s.modLeg (legs.getD k 27) fun l => { l with gov := some ((16 * a).toNat, (16 * b).toNat) }
  let plain (s : State) : State := set (set (set s 0 (c 0) (c 0)) 1 (c 1) (c 1)) 2 (c 2) (c 2)
  if 3 ≤ d.val then plain s
  else
      let lo := if c 0 ≤ c 1 && c 0 ≤ c 2 then 0 else if c 1 ≤ c 2 then 1 else 2
      let hi := if c 0 ≤ c 2 && c 1 ≤ c 2 then 2 else if c 0 ≤ c 1 then 1 else 0
      let mid := 3 - lo - hi
      let tw := freeDiv 321 (2 * s.fld R.ACT_SS F.ACT_SS_TW : Nat) (s.tbTick t)
      let x := max 0 (tw - ((c mid : Int) - c lo))
      let y := max 0 (tw - ((c hi : Int) - c mid))
      if (c lo : Int) - x < 0 || p < c lo + x || (c hi : Int) - y < 0 || p < c hi + y then
        ((plain s).modDrive d fun v => { v with order := none, taken := 0 }).countUp (R.ACT_D_ST d.val)
          F.ACT_D_ST_HOLDCNT |>.raise R.ACT_STAT F.ACT_STAT_SSHOLD
      else
        (set (set (set s lo (c lo - x) (c lo + x)) mid (c mid) (c mid)) hi (c hi + y) (c hi - y)).modDrive d fun v =>
          { v with order := some (lo, hi), taken := 0 }

/-- Drive `d` in a period: observer, current loop and the compares that govern from the reload (R313, R314, R318, R329). -/
def actPeriod (s : State) (d : Fin 5) : State :=
  let ns := 2 * s.tbPeriod (s.actTb d) * s.tbTick (s.actTb d)
  let s := ((s.actObserve d).actCurrentLoop d).actCompares d
  s.modDrive d fun x => { x with ramp := x.ramp + ns }

/-- The drive whose shadowed register `r` is (R329). -/
def driveOfReg (r : Nat) : Option (Fin 5) :=
  if R.ACT_D_CFG 0 ≤ r && r < R.ACT_D_CFG 5 then some (fin 5 ((r - R.ACT_D_CFG 0) / 0x40)) else none

/-- Register `r` is a drive register that commits at the reload of timebase `t` (R329). -/
def actOwned (s : State) (t r : Nat) : Bool :=
  match driveOfReg r with
  | some d => s.actTb d == t
  | none => false

/-- A shadow of a drive register commits. -/
def actApply (s : State) (r : Nat) (w : Word) : State :=
  match driveOfReg r with
  | some d => if r = R.ACT_D_CMD d.val then s.actCommand d w else s.setReg r w
  | none => s.setReg r w

/-- The reload of timebase `t` as the actuators take it: commits, triggers of drives 3 and 4, compares (R312, R313,
R321, R329). -/
def actReload (s : State) (t : Nat) : State :=
  let s := s.commitPoint (s.actOwned t) actApply
  let s := s.when (s.actTb 3 = t || s.actTb 4 = t) fun s => s.acqTrigger (0x30 + t)
  forFin 5 (fun d s => if s.actTb d = t && s.actDriving d then s.actPeriod d else s) s

/-- A sampling point of single-shunt drive `d` (R321). -/
def samplingPoint (s : State) (d : Fin 5) : State :=
  if s.actDriving d && (s.drive d).order.isSome then s.acqTrigger (0x30 + s.actTb d) else s

/-- A conversion of channel `n` completes: the drives whose current channel it is take it (R312, R321); in PROBE the first one of
each shunt since the pulse's end is the pulse's (R317). -/
def actConversion (s : State) (n : Fin 48) : State :=
  let v := s.singleValue n
  forFin 5 (fun d s =>
    if !s.actDriving d && s.actState d != 2 then s
    else
      let w := s.actParam d 0
      let i := fdiv (((v : Int) - w.bits 11 0) * signed 16 (w.bits 31 16)) 256
      let ich := R.ACT_D_ICH d.val
      if s.actState d = 2 then
        let take (s : State) (k : Nat) (f : Fld) : State :=
          if s.fld ich f = n.val && (s.drive d).taken.testBit 0 && !(s.drive d).taken.testBit (k + 1) then
            s.modDrive d fun x => { x with taken := x.taken + 2 ^ (k + 1), cur := vupd x.cur (fin 3 k) fun _ => i }
          else s
        if d.val < 3 then take s 0 F.ACT_D_ICH_ICH0
        else take (take (take s 0 F.ACT_D_ICH_ICH0) 1 F.ACT_D_ICH_ICH1) 2 F.ACT_D_ICH_ICH2
      else if d.val < 3 then
        match (s.drive d).order with
        | some (lo, hi) =>
          if s.fld ich F.ACT_D_ICH_ICH0 ≠ n.val then s
          else if (s.drive d).taken = 0 then
            s.modDrive d fun x => { x with taken := 1, cur := vupd x.cur (fin 3 lo) fun _ => i }
          else if (s.drive d).taken = 1 then
            s.modDrive d fun x =>
              { x with taken := 2, cur := vupd (vupd x.cur (fin 3 hi) fun _ => -i) (fin 3 (3 - lo - hi)) fun _ =>
                  i - x.cur[fin 3 lo] }
          else s
        | none => s
      else
        let take (s : State) (k : Nat) (f : Fld) : State :=
          if s.fld ich f = n.val then s.modDrive d fun x => { x with cur := vupd x.cur (fin 3 k) fun _ => i } else s
        take (take (take s 0 F.ACT_D_ICH_ICH0) 1 F.ACT_D_ICH_ICH1) 2 F.ACT_D_ICH_ICH2) s

/-! ### The sample boundary -/

/-- Drive `d` arrives at its target (R322). -/
def actArrive (s : State) (d : Fin 5) : State :=
  let kind := s.targetKind d (s.actTarget d)
  let s := ((s.actSucceed d).fireIf (kind == 1) 203).fireIf (kind == 2) 204
  if (s.actParam d 7).bits 31 16 = 0 then (s.setActState d 0).actRelease d
  else (s.setActState d 5).actUnforce d

/-- Drive `d`'s command at a sample boundary (R320, R322, R324, R327). -/
def actBoundary (s : State) (d : Fin 5) : State :=
  let st := s.actState d
  let paused := s.bit (R.ACT_D_ST d.val) F.ACT_D_ST_PAUSE
  let (code, ok) := s.actCode d
  let inside := s.actOp d == 1 && s.inTarget d (s.actTarget d) code
  let s := s.setReg (R.ACT_D_POS d.val)
    (Word.field 31 31 (Word.ofBool ok) ||| Word.field 30 30 (Word.ofBool (ok && inside)) ||| Word.field 11 0 code)
  let active := (st != 0 && st != 7) || paused || (s.drive d).idle
  if !active then s
  else if !s.permits (actFunc d.val) then s.actEnd d (if s.lockInForce then .locked else .wrongMode)
  else if s.actOp d = 1 then
    if st = 5 then s.actSpeedLoop d
    else if !ok then s.actEnd d .outOfRange
    else if s.parkTooFast d then (s.actEnd d .outOfRange).raise R.ACT_STAT F.ACT_STAT_PARKREF
    else if st = 2 || st = 3 || st = 4 then
      let n := if inside then (s.drive d).arrive + 1 else 0
      let s := s.modDrive d fun x => { x with arrive := n, ref := s.actReference d }
      let arrn := (s.actParam d 9).bits 31 24
      ((if (if arrn = 0 then 256 else arrn) ≤ n then s.actArrive d else s)).actSpeedLoop d
    else s
  else
    let ref := s.speedRef d
    let s := s.modDrive d fun x => { x with ref := ref }
    let low := decide ((ref.natAbs : Int) < s.obsMin d)
    if st = 4 && low && decide (2 * ((s.sreg (R.ACT_D_SPD d.val)).natAbs : Int) < s.obsMin d) then
      (s.actEnd d .ok).modDrive d fun x => { x with idle := true }
    else if (s.drive d).idle && !low then s.actAttempt d false
    else s.actSpeedLoop d

/-- `ACT_PARKST` is formed (R323). -/
def parkState (s : State) : State :=
  let (code, ok) := s.actCode 1
  let near (kind : Nat) : Bool :=
    ok && (List.range 8).any fun k => s.targetKind 1 k == kind && s.inTarget 1 k code
  let was := s.reg R.ACT_PARKST
  let new : Word := Word.field 2 2 (Word.ofBool ok) ||| Word.field 1 1 (Word.ofBool (near 3))
    ||| Word.field 0 0 (Word.ofBool (near 4))
  (s.setReg R.ACT_PARKST new).fireIf (new.bits 1 0 != was.bits 1 0) 207

/-- A command pad of the analogue form is converted, also while it is invalid (R328). -/
def padConvert (s : State) (p : Fin 4) (code : BitVec 12) : State :=
  let av := R.ACT_CMD_P_AV p.val
  let an := R.ACT_CMD_P_AN p.val
  if s.fld (R.CLE_CMD_CFG p.val) F.CLE_CMD_CFG_FORM ≠ 3 then s
  else
    let good := decide (s.fld an F.ACT_CMD_P_AN_MIN ≤ code.toNat) && decide (code.toNat ≤ s.fld an F.ACT_CMD_P_AN_MAX)
    let failed := s.cle.pad[p].failed
    let s := s.modPad p fun x => { x with failed := !good && !failed }
    if good then
      let s := s.when failed fun s => s.countUp av F.ACT_CMD_P_AV_TRANS
      s.setFld av F.ACT_CMD_P_AV_VALUE (16 * code.toNat)
    else if failed then
      let was := s.bit av F.ACT_CMD_P_AV_INVALID
      (s.raise av F.ACT_CMD_P_AV_INVALID).fireIf (!was) 202
    else s

/-- A slot's register set-point is replaced for the sample. -/
def replaceSpr (s : State) (slot : Nat) (v : Int) : State :=
  { s with cle := { s.cle with spr := kvInsert (kvErase s.cle.spr slot) slot v } }

/-- Nudge `x` changed by `f`. -/
def modNudge (s : State) (x : Fin 2) (f : Nudge → Nudge) : State :=
  { s with act := { s.act with nudge := vupd s.act.nudge x f } }

/-- The register of nudge `x`. -/
def nudgeReg (x : Fin 2) : Nat := if x = 0 then R.ACT_NUDGEA else R.ACT_NUDGEB

/-- The slot of motor `x` under synchronisation. -/
def syncSlot (s : State) (x : Fin 2) : Nat :=
  s.fld R.ACT_SYNC (if x = 0 then F.ACT_SYNC_SLOTA else F.ACT_SYNC_SLOTB)

/-- `ACT_NUDGEA` or `ACT_NUDGEB` commits `n` (R326). -/
def nudgeCommit (s : State) (x : Fin 2) (n : BitVec 16) : State :=
  let s := s.setReg (nudgeReg x) (n.setWidth 32)
  if n = 0 then s
  else if !s.bit R.ACT_SYNC F.ACT_SYNC_EN || s.fld (R.CLE_SL_CFG (s.syncSlot x)) F.CLE_SL_CFG_LAW = 0 then
    s.raise R.ACT_STAT F.ACT_STAT_NUDGE_IGN
  else s.modNudge x fun _ => ⟨true, 0, s.axisPos x.val⟩

/-- The synchronised set-point of R325. -/
def syncSpeed (s : State) : Int := sat32 (fdiv (s.sreg R.POS_GSPD * s.sreg R.ACT_SYNCRAT) (2 ^ 24))

/-- Nudge `x` at a boundary that ends a sample of `ns` ns (R326). -/
def nudgeBoundary (s : State) (ns : Nat) (x : Fin 2) (sx : Int) : State :=
  let n := s.act.nudge[x]
  if !n.running then s
  else
    let pos := s.axisPos x.val
    let p := n.p + modDiff pos n.pos * 65536000000 - sx * ns
    let size := (signed 16 ((s.reg (nudgeReg x)).bits 15 0)).natAbs
    if size * 65536000000 ≤ p.natAbs then
      ((s.setReg (nudgeReg x) 0).modNudge x fun _ => ⟨false, 0, pos⟩).fire 206
    else s.modNudge x fun _ => ⟨true, p, pos⟩

/-- The nudges take the ended sample, of `ns` ns, before a commit can begin another (R326). -/
def nudgesBoundary (s : State) (ns : Nat) : State :=
  let sx := s.syncSpeed
  forFin 2 (fun x s => s.nudgeBoundary ns x sx) s

/-- Synchronisation at a boundary (R325, R326). -/
def actSync (s : State) : State :=
  let sx := s.syncSpeed
  let en := s.bit R.ACT_SYNC F.ACT_SYNC_EN
  let motors : List (Fin 2) := if s.hasB then [0, 1] else [0]
  let running := s.act.nudge.toList.any (·.running)
  let s :=
    if en then
      motors.foldl (fun s x =>
        let n := signed 16 ((s.reg (nudgeReg x)).bits 15 0)
        let push : Int := if s.act.nudge[x].running then
            (if n < 0 then -1 else 1) * ((s.reg R.ACT_NSPD).bits 15 0 * 65536 : Nat) else 0
        s.replaceSpr (s.syncSlot x) (sat32 (sx + push))) s
    else s
  let counts := en && !running && motors.all fun x =>
    s.fld (R.CLE_SL_CFG (s.syncSlot x)) F.CLE_SL_CFG_LAW != 0
      && decide (((s.axisSpeed x.val).toInt - sx).natAbs ≤ 65536 * s.fld R.ACT_SYNC F.ACT_SYNC_SWIN)
  let scnt := s.fld R.ACT_SYNC F.ACT_SYNC_SCNT
  let scnt := if scnt = 0 then 256 else scnt
  let n := if counts then s.act.sync + 1 else 0
  let s := { s with act := { s.act with sync := n } }
  (s.setReg R.ACT_SYNCST (Word.field 17 17 (Word.ofBool s.act.nudge[1].running)
    ||| Word.field 16 16 (Word.ofBool s.act.nudge[0].running) ||| Word.field 7 0 (min 255 n))).fireIf (n == scnt) 205

end State

/-- ACT_STOP: a STOP command commits (R316). -/
def execActStop (d : Fin 5) (s : State) : Host.Outcome State Fault Refusal :=
  .next (s.whenUp fun s => s.actStop d 0)

/-- ACT_MOVE: a MOVE command commits (R316, R322, R324). -/
def execActMove (d : Fin 5) (tgt : Fin 8) (s : State) : Host.Outcome State Fault Refusal :=
  .next (s.whenUp fun s => s.actGo d (Word.field 31 30 1 ||| Word.field 2 0 tgt.val))

/-- ACT_SPEED: a SPEED command commits (R316, R327). -/
def execActSpeed (d : Fin 5) (pad : Option (Fin 4)) (s : State) : Host.Outcome State Fault Refusal :=
  .next (s.whenUp fun s => s.actGo d (Word.field 31 30 2 |||
    (match pad with
     | some p => Word.field 9 9 1 ||| Word.field 5 4 p.val
     | none => 0)))

/-- ACT_PROBE_PULSE_END (R317). -/
def execActProbePulseEnd (d : Fin 5) (s : State) : Host.Outcome State Fault Refusal := .next (s.probePulseEnd d)

/-- PROBE_DECAY_END (R317). -/
def execProbeDecayEnd (d : Fin 5) (s : State) : Host.Outcome State Fault Refusal := .next (s.probeDecayEnd d)

/-- ACT_RAMP_END (R318). -/
def execActRampEnd (d : Fin 5) (obs : Word) (s : State) : Host.Outcome State Fault Refusal := .next (s.rampEnd d obs)

/-- ACT_COMMUTATION (R319). -/
def execActCommutation (d : Fin 5) (obs : Word) (eang : BitVec 16) (s : State) : Host.Outcome State Fault Refusal :=
  .next (s.commutation d obs eang)

/-- ACT_LOCKED_ROTOR (R319). -/
def execActLockedRotor (d : Fin 5) (s : State) : Host.Outcome State Fault Refusal := .next (s.lockedRotor d)

/-- ACT_RETRY_DELAY_EXPIRY (R319). -/
def execActRetryDelayExpiry (d : Fin 5) (s : State) : Host.Outcome State Fault Refusal := .next (s.retryDelay d)

/-- ACT_LASTING_CLEAR: a one is written to LASTING (R319). -/
def execActLastingClear (d : Fin 5) (s : State) : Host.Outcome State Fault Refusal := .next (s.actLastingClear d)

/-- NUDGE_START: a nudge register commits (R326). -/
def execNudgeStart (x : Fin 2) (n : BitVec 16) (s : State) : Host.Outcome State Fault Refusal :=
  .next (if x = 0 || s.hasB then s.nudgeCommit x n else s)

/-- SINGLE_SHUNT_SAMPLING_POINT (R312, R321). -/
def execSingleShuntSamplingPoint (d : Fin 3) (s : State) : Host.Outcome State Fault Refusal :=
  .next (s.samplingPoint (d.castLE (by decide)))

end Sys2Proof.Machine
end

