-- ==== Sys2Proof/Machine/AuxConv.lean ====
section
/-!
DEFINITION. The multiphase auxiliary converter (R369 to R381): start and stop, phases, balancing, the load line, the
phase count and load steps.
-/

namespace Sys2Proof.Machine
namespace State

/-- The converter changed by `f`. -/
def modAux (s : State) (f : AuxState → AuxState) : State := { s with aux := f s.aux }

/-- Phase `j` changed by `f`. -/
def modPhase (s : State) (j : Nat) (f : AuxPhase → AuxPhase) : State :=
  s.modAux fun a => { a with phase := vupd a.phase (fin 8 j) f }

/-- Phase `j`. -/
def auxPhase (s : State) (j : Nat) : AuxPhase := s.aux.phase[fin 8 j]

/-- Phase `j` is active or ramping (R369). -/
def phaseOn (s : State) (j : Nat) : Bool :=
  0 < (s.auxPhase j).share || (match s.aux.ramp with | some (k, _, _) => k == j | none => false)

/-- The phases that are active or ramping. -/
def phasesOn (s : State) : List Nat := (List.range 8).filter s.phaseOn

/-- The active phases: on, and not in a ramp (R369). -/
def phasesActive (s : State) : List Nat :=
  s.phasesOn.filter fun j => match s.aux.ramp with | some (k, _, _) => k != j | none => true

/-- Phase `j` is available: its leg is not high-impedance (R369). -/
def phaseAvail (s : State) (j : Nat) : Bool := !(s.leg (12 + j)).hiz

/-- The converter drives its phases: RAMP or RUN, not paused (R370, R374). -/
def auxDriving (s : State) : Bool := (s.aux.run == .ramp || s.aux.run == .run) && !s.aux.pause && !s.aux.again

/-- The DC legs follow the converter: outside SERVICE every phase that is not driven, or whose compares no reload has formed yet,
has both switches commanded off (R370, R376). -/
def auxLegs (s : State) : State :=
  forN 8 (fun j s =>
    let n := 12 + j
    let want : Option (Bool × Bool) :=
      if s.mode == .service || (s.auxDriving && s.phaseOn j && (s.leg n).gov.isSome) then none else some (false, false)
    let keep := s.auxDriving && s.phaseOn j
    let s := s.modLeg n fun l => { l with forced := want, gov := if keep then l.gov else none }
    s.legApply n) s

/-- The scaled current of phase `j` from a value (R371). -/
def phaseCurrent (s : State) (j v : Nat) : Int :=
  fdiv (((v : Int) - s.fld (R.AUX_PH j) F.AUX_PH_OFS) * s.sfld R.AUX_IGAIN F.AUX_IGAIN_IGAIN) 256

/-- The latest conversion of phase `j`'s current, scaled (R371). -/
def phaseNow (s : State) (j : Nat) : Int :=
  s.phaseCurrent j (s.fld (R.ACQ_CH_ST (s.fld (R.AUX_PH j) F.AUX_PH_CH)) F.ACQ_CH_ST_LAST)

/-- The present output voltage in mV (R156, R373). -/
def auxVolts (s : State) : Nat :=
  s.singleValue (fin 48 (s.fld R.AUX_VCH F.AUX_VCH_CH)) * s.fld R.AUX_VCH F.AUX_VCH_VGAIN / 256

/-- VSET in 1/10,000 mV. -/
def auxTarget (s : State) : Int := s.fld R.AUX_VSET F.AUX_VSET_VSET * 10000

/-! ### Starting and stopping -/

/-- The converter is STOPPED with this status (R373). -/
def auxStop (s : State) (st : Status) : State :=
  let s := s.budgetWithdraw 5
  (s.modAux fun a =>
    { a with run := .stopped, status := st, pause := false, again := false, ramp := none, vref := 0, vt := 0, itot := none
             phase := Vector.replicate 8 ⟨0, 0⟩ }).auxLegs

/-- The k-th phase in order (R375). -/
def auxOrd (s : State) (k : Nat) : Nat :=
  (s.tableWord (s.fld R.AUX_PHC F.AUX_PHC_TBASE + 8)).bits (4 * k + 2) (4 * k)

/-- The budget has granted the soft start (R373): NMIN phases, the first available in order, at full share. -/
def auxGranted (s : State) : State :=
  let v := s.auxVolts
  let nmin := s.fld R.AUX_PHC F.AUX_PHC_NMIN
  let first := (((List.range 8).map s.auxOrd).filter s.phaseAvail).take nmin
  let s := s.setReg (R.CLE_SL_INT (s.fld R.AUX_CFG F.AUX_CFG_SLOTV))
    (ofInt (sat32 ((v * s.nreg R.AUX_PREK / 65536 : Nat) : Int)))
  (s.modAux fun a =>
    { a with run := .ramp, vref := v * 10000, ramp := none, again := false, itot := none
             phase := Vector.ofFn fun j => ⟨if first.contains j.val then 16 else 0, 0⟩ }).auxLegs

/-- The converter asks the start budget (R373, R374). -/
def auxAsk (s : State) : State :=
  match s.budgetAsk 5 (s.fld R.AUX_CFG F.AUX_CFG_COST) with
  | (.granted, s) => s.auxGranted
  | (.refused, s) => s.auxStop .outOfRange
  | (.waits, s) => s

/-- The request on port 5 leaves the queue without a grant (R373). -/
def auxUngranted (s : State) (st : Status) : State :=
  if s.aux.run = .wait || s.aux.again then s.auxStop st else s

/-- A grant on port 5 (R373, R374). -/
def auxGrant (s : State) : State := if s.aux.run = .wait || s.aux.again then s.auxGranted else s

/-- `XEN_DC` as the converter takes it: low pauses it, and its return asks the budget afresh (R374). -/
def auxEnable (s : State) : State :=
  let en := s.gdp.en.getLsbD 2
  if s.aux.run = .stopped then s
  else if !en then
    if s.aux.pause then s else ((s.budgetWithdraw 5).modAux fun a => { a with pause := true, again := false }).auxLegs
  else if s.aux.pause then (s.modAux fun a => { a with pause := false, again := true }).auxAsk
  else s

/-- START (R373); with `XEN_DC` low the converter pauses at once (R374). -/
def auxStart (s : State) : State :=
  if s.aux.run = .stopped then
    (((s.modAux fun a => { a with run := .wait, status := .busy }).auxLegs).auxAsk).auxEnable
  else s.modAux fun a => { a with status := .busy }

/-- A phase whose leg has become high-impedance leaves the active set (R369). -/
def auxLost (s : State) : State :=
  let gone := s.phasesOn.filter fun j => !s.phaseAvail j
  if gone = [] then s
  else
    let s := gone.foldl (fun s j =>
      let s := s.modPhase j fun _ => ⟨0, 0⟩
      s.modAux fun a => { a with ramp := match a.ramp with | some (k, x, n) => if k = j then none else some (k, x, n)
                                                           | none => none }) s
    (s.raise R.AUX_STAT F.AUX_STAT_PHLOST).auxLegs

/-! ### The reload -/

/-- A one-word counter of `AUX_CNT` counts up. -/
def auxCount (s : State) (f : Fld) : State := s.countUp R.AUX_CNT f

/-- A load step is judged at a reload, but not after a period in which a phase skipped (R377, R388). -/
def auxStep (s : State) : State :=
  let itot := (s.phasesOn.map s.phaseNow).sum
  let rise := match s.aux.itot with
    | some p => decide (p + s.fld R.AUX_STEP F.AUX_STEP_DI < itot)
    | none => false
  let drop := decide ((s.auxVolts : Int) < s.aux.vt - s.fld R.AUX_STEP F.AUX_STEP_DV)
  let s := s.modAux fun a => { a with itot := some itot }
  if !(rise || drop) || ((List.range 8).any fun j => (s.leg (12 + j)).skip) then s
  else
    let s := (s.raise R.AUX_STAT F.AUX_STAT_STEP).auxCount F.AUX_CNT_STEPS
    match s.aux.ramp with
    | some (j, false, _) =>
      let s := (s.modPhase j fun x => { x with share := 16 }).modAux fun a =>
        { a with ramp := none, holdoff := true }
      (s.raise R.AUX_STAT F.AUX_STAT_ABORT).auxCount F.AUX_CNT_ABORTS
    | _ => s

/-- A share ramp advances by a reload (R376). -/
def auxRamp (s : State) : State :=
  match s.aux.ramp with
  | none => s
  | some (j, add, k) =>
    let k := k + 1
    let s := s.modPhase j fun x =>
      { share := if add then k else 16 - k, trim := if !add && 16 ≤ k then 0 else x.trim }
    s.modAux fun a => { a with ramp := if 16 ≤ k then none else some (j, add, k) }

/-- The trims of the phases that are on, a skipped phase's unchanged (R371, R388). The quotient's rounding is not stated. -/
def auxBalance (s : State) : State :=
  let on := s.phasesOn
  let itot := (on.map s.phaseNow).sum
  let total : Int := ((on.map fun j => (s.auxPhase j).share).sum : Nat)
  on.foldl (fun s j =>
    let x := if total = 0 then 0 else freeDiv 371 (itot * (s.auxPhase j).share) total
    let d := sat32 (mulCoef (s.phaseNow j - x) (s.reg R.AUX_KT))
    let trim := if (s.leg (12 + j)).skip then (s.auxPhase j).trim else sat (-3276) 3276 ((s.auxPhase j).trim - d)
    let s := s.modPhase j fun p => { p with trim := trim }
    s.when (decide (3276 ≤ trim.natAbs)) fun s => s.raise R.AUX_STAT F.AUX_STAT_TRIMLIM) s

/-- The compares of the phases that are on (R370). -/
def auxCompares (s : State) (t : Nat) : State :=
  s.phasesOn.foldl (fun s j =>
    let d := (sat 0 65535 (s.fld R.AUX_DUTY F.AUX_DUTY_DUTY + (s.auxPhase j).trim)).toNat
    let c := s.tbPeriod t * 16 * (65536 - d) / 65536
    s.modLeg (12 + j) fun l => { l with gov := some (c, c) }) s

/-- Register `r` is a shadowed register of the converter (R378). -/
def auxOwned (r : Nat) : Bool := decide (r / 0x10000 = 0xC)

/-- The reload of timebase `t` as the converter takes it (R370, R371, R376 to R378). -/
def auxReload (s : State) (t : Nat) : State :=
  if s.fld R.AUX_CFG F.AUX_CFG_TB ≠ t then s
  else
    let s := s.commitPoint auxOwned fun s r w => s.setReg r w
    if s.auxDriving then ((((s.auxStep).auxRamp).auxBalance).auxCompares t).auxLegs else s.auxLegs

/-- The converter's shadows commit at once while its timebase is stopped (R378). -/
def auxStoppedCommit (s : State) : State :=
  if s.tbRunning (s.fld R.AUX_CFG F.AUX_CFG_TB) then s else s.commitPoint auxOwned fun s r w => s.setReg r w

/-! ### The sample boundary -/

/-- The phase count at a boundary (R376). -/
def auxPhaseCount (s : State) : State :=
  let n := s.phasesActive.length
  let nmin := s.fld R.AUX_PHC F.AUX_PHC_NMIN
  let nmax := s.fld R.AUX_PHC F.AUX_PHC_NMAX
  let w := s.tableWord (s.fld R.AUX_PHC F.AUX_PHC_TBASE + (n - 1))
  let order := (List.range 8).map s.auxOrd
  let add (s : State) : State :=
    match order.find? fun j => !s.phaseOn j && s.phaseAvail j with
    | some j =>
      ((s.modPhase j fun _ => ⟨0, -3276⟩).modAux fun a => { a with ramp := some (j, true, 0) }).auxCount F.AUX_CNT_ADDS
    | none => s
  let shed (s : State) : State :=
    if s.aux.holdoff then s
    else
      match (order.filter fun j => s.phasesActive.contains j).getLast? with
      | some j => (s.modAux fun a => { a with ramp := some (j, false, 0) }).auxCount F.AUX_CNT_SHEDS
      | none => s
  if s.aux.ramp.isSome then s
  else if n < nmin then add s
  else if nmax < n then shed s
  else if n < nmax && w.bits 15 0 != 0xFFFF && decide ((w.bits 15 0 : Int) < s.aux.iout) then add s
  else if nmin < n && decide (s.aux.iout < (w.bits 31 16 : Int)) && w.bits 31 16 != 0 then shed s
  else s

/-- Slot `n` writes `AUX_DUTY`, as the slot of the converter does (R381). -/
def slotFeedsAux (s : State) (n : Nat) : Bool :=
  let r := R.CLE_SL_DEST n
  s.bit r F.CLE_SL_DEST_EN && s.fld r F.CLE_SL_DEST_BLK * 0x10000 + s.fld r F.CLE_SL_DEST_OFS * 4 == R.AUX_DUTY

/-- The converter at a sample boundary: permission, Iout, Vref and Vt, the set-point of its slot, the phase count
(R372, R373, R376). In STOPPED and WAIT a slot that does not write `AUX_DUTY` is left alone: DEDUCED from R381, entry 83;
unsafe. -/
def auxBoundary (s : State) : State :=
  let s :=
    if s.aux.run ≠ .stopped && !s.permits .aux then s.auxStop (if s.lockInForce then .locked else .wrongMode) else s
  let latched (j : Nat) : Int :=
    s.phaseCurrent j (s.acq.chan[fin 48 (s.fld (R.AUX_PH j) F.AUX_PH_CH)]).latched
  let iout := (s.phasesOn.map latched).sum
  let s := s.modAux fun a => { a with iout := iout }
  let slot := s.fld R.AUX_CFG F.AUX_CFG_SLOTV
  let s :=
    if s.aux.run = .stopped || s.aux.run = .wait then
      if s.slotFeedsAux slot then (s.slotClear (fin 64 slot)).replaceSpr slot s.auxVolts else s
    else
      let rate : Int := min 1000 (max 1 (s.fld R.AUX_RATE F.AUX_RATE_RATE))
      let step := rate * s.sampleNs
      let vref := s.aux.vref + sat (-step) step (s.auxTarget - s.aux.vref)
      let droop := fdiv (s.fld R.AUX_LL F.AUX_LL_RLL * iout) 1600
      let vt := max 0 (fdiv vref 10000 - droop)
      let s := s.modAux fun a => { a with vref := vref, vt := vt }
      let s := s.replaceSpr slot vt
      let s :=
        if s.aux.run = .ramp && vref = s.auxTarget && !s.aux.pause && !s.aux.again then
          s.modAux fun a => { a with run := .run, status := .ok }
        else s
      if s.aux.pause || s.aux.again then s else s.auxPhaseCount
  s.auxLegs

/-- What the state registers of the converter read as (R379, R380). AVAIL shows the legs from IDLE on, and its reset value before
(R378, log entry 170). DEDUCED. -/
def auxView (s : State) (r : Nat) : Option Word :=
  let a := s.aux
  if r = R.AUX_STATE then
    some (Word.field 31 28 (match a.run with | .stopped => 0 | .wait => 1 | .ramp => 2 | .run => 3)
      ||| Word.field 27 24 s.phasesActive.length ||| Word.field 23 23 (Word.ofBool a.holdoff)
      ||| Word.field 22 22 (Word.ofBool a.pause)
      ||| Word.field 21 20 (match a.ramp with | none => 0 | some (_, true, _) => 1 | some (_, false, _) => 2)
      ||| Word.field 7 0 a.status.code)
  else if r = R.AUX_VREF then
    some (Word.field 31 16 (modBits 16 a.vt) ||| Word.field 15 0 (modBits 16 (fdiv a.vref 10000)))
  else if r = R.AUX_IOUT then some (Word.field 15 0 (modBits 16 a.iout))
  else if R.AUX_TRIM 0 ≤ r && r < R.AUX_TRIM 8 then
    let j := (r - R.AUX_TRIM 0) / 4
    some (Word.field 31 31 (Word.ofBool (s.phaseOn j)) ||| Word.field 30 30 (Word.ofBool (s.up && s.phaseAvail j))
      ||| Word.field 20 16 (s.auxPhase j).share ||| Word.field 15 0 (modBits 16 (s.auxPhase j).trim))
  else none

/-! ### Reloads -/

/-- The reload of timebase `t` (R229, R238, R271, R313, R370). -/
def reload (s : State) (t : Fin 10) : State :=
  let s := ((s.reloadCommit t).actReload t.val).auxReload t.val
  let s := forFin 2 (fun x s => s.tdModulate x t.val) s
  s.reloadLegs t

/-- The timebases of a mask start with a reload; a stop that waits is cancelled (R22, R230). -/
def tbStart (s : State) (mask : BitVec 10) : State :=
  forFin 10 (fun t s =>
    if !mask.getLsbD t.val then s
    else if s.wfu.tb[t].running then s.modTb t fun x => { x with stopping := false }
    else
      let s := if t.val = 0 then s.modClk fun c => { c with aligned := false, reloads := 0 } else s
      (s.modTb t fun x => { x with running := true, stopping := false }).reload t) s

end State

/-- START or STOP of the converter by a master (R373, R378). -/
def State.auxWrite (s : State) (m : Master) (f : State → State) : State :=
  if s.lockInForce then s.complete m R.AUX_CTL .locked
  else if s.modePermits .aux && s.mode != .service then (f s).complete m R.AUX_CTL .ok
  else s.complete m R.AUX_CTL .wrongMode

/-- AUX_START: START is written to `AUX_CTL` (R373, R378). -/
def execAuxStart (m : Master) (s : State) : Host.Outcome State Fault Refusal := .next (s.auxWrite m State.auxStart)

/-- AUX_STOP: STOP is written to `AUX_CTL` (R373, R378). -/
def execAuxStop (m : Master) (s : State) : Host.Outcome State Fault Refusal :=
  .next (s.auxWrite m fun s => s.auxStop .ok)

/-- AUX_HOLDOFF_EXPIRY (R377). -/
def execAuxHoldoffExpiry (s : State) : Host.Outcome State Fault Refusal :=
  .next (s.whenUp fun s => s.modAux fun a => { a with holdoff := false })

/-- TIMEBASE_START: 1 is written to the run bits of stopped timebases (R230). -/
def execTimebaseStart (mask : BitVec 10) (s : State) : Host.Outcome State Fault Refusal :=
  .next (s.whenUp fun s => s.tbStart mask)

end Sys2Proof.Machine
end

