-- ==== Sys2Proof/Machine/Enp.lean ====
section
/-!
DEFINITION. The energy path (R335 to R359): sessions, the source lookup, start steps and their retries, removal and bus
hold, the hinge, endings and export. The start budget stands in Budget.lean.
-/

namespace Sys2Proof.Machine

/-- The code of R336. -/
def EnpPhase.code : EnpPhase → Nat
  | .idle => 0 | .detect => 1 | .qualify => 2 | .mains => 3 | .precharge => 4 | .close => 5 | .run => 6
  | .busHold => 7 | .hinge => 8 | .holdOff => 9 | .halted => 10 | .expWait => 11 | .expRun => 12 | .fault => 13

/-- The proximity class and the cable rating in 1/16 A of a resistance (R340). -/
def proxClass (r : Nat) : Nat × Nat :=
  if 5000 < r then (0, 0)
  else if 1000 ≤ r && r ≤ 2700 then (1, 208)
  else if 470 ≤ r && r < 1000 then (2, 320)
  else if 150 ≤ r && r < 470 then (3, 512)
  else if 75 ≤ r && r < 150 then (4, 1008)
  else (5, 0)

/-- The pilot limit in 1/16 A of a duty in 0.1 %, 0 for a steady pilot (R339). -/
def pilotLimit (pwm : Bool) (d : Nat) : Nat :=
  if !pwm || d < 80 then 0 else if d < 100 then 96 else if d ≤ 850 then d * 96 / 100
  else if d ≤ 960 then (d - 640) * 4 else if d ≤ 970 then 1280 else 0

/-- The pilot's state, and whether it is PWM, from its edges' frequency in Hz (0: no edge for 3 ms) and its upper and lower
plateau in 0.1 V, one level where it is steady (R338). -/
def pilotState (hz : Nat) (upper lower : Int) : Nat × Bool :=
  let pwm := decide (900 ≤ hz) && decide (hz ≤ 1100)
  let band (lo hi : Int) : Bool := decide (lo ≤ upper) && decide (upper < hi)
  let n :=
    if (!pwm && hz ≠ 0) || (pwm && decide (-105 < lower)) then 7
    else if band 105 136 then 0 else if band 75 105 then 1 else if band 45 75 then 2 else if band 15 45 then 3
    else if band (-15) 15 && decide (-15 ≤ lower) then 4
    else if !pwm && decide (upper ≤ -105) then 5 else 7
  (n, pwm)

/-- The pilot class of R338. -/
def pilotClass (pstate : Nat) (pwm : Bool) : Nat :=
  if pwm then 1 else if pstate = 4 then 0 else if pstate ≤ 2 then 2 else 3

namespace State

/-- The energy path changed by `f`. -/
def modEnp (s : State) (f : EnpState → EnpState) : State := { s with enp := f s.enp }

/-- The session's state. -/
def enpPhase (s : State) : EnpPhase := s.enp.phase

/-- The session enters a state; event 192 for RUN, BUSHOLD and EXPRUN (R367). -/
def setEnp (s : State) (p : EnpPhase) : State :=
  (s.modEnp fun e => { e with phase := p }).fireIf (p == .run || p == .busHold || p == .expRun) 192

/-- The timebase of the rectifier, or of the bridge (R335). -/
def enpTb (s : State) (bridge : Bool) : Fin 10 :=
  fin 10 (s.fld R.ENP_TB (if bridge then F.ENP_TB_TBD else F.ENP_TB_TBR))

/-- A charger timebase is started, as a write to its RUN bit (R335). -/
def enpStartTb (s : State) (bridge : Bool) : State := s.tbStart (BitVec.ofNat 10 (2 ^ (s.enpTb bridge).val))

/-- A charger timebase is stopped, as a write to its RUN bit (R335). -/
def enpStopTb (s : State) (bridge : Bool) : State := s.tbStop (BitVec.ofNat 10 (2 ^ (s.enpTb bridge).val))

/-- The relays are commanded through the GPIO; the command is to be confirmed where it changes something (R335). -/
def enpRelay (s : State) (closed : Bool) : State :=
  s.modEnp fun e =>
    { e with
      relay := closed, relayPad := some closed
      confirmed := if e.confirmed = some closed then e.confirmed else none }

/-- SAFE: both timebases stopped and the relays confirmed open (R336). -/
def enpSafe (s : State) : Bool :=
  !s.tbRunning (s.enpTb true).val && !s.tbRunning (s.enpTb false).val && s.enp.confirmed == some false

/-- `ENP_STATE`'s record of an ending. -/
def enpRecord (s : State) (cause : Nat) (st : Status) : State :=
  (s.setFld R.ENP_STATE F.ENP_STATE_CAUSE cause).setFld R.ENP_STATE F.ENP_STATE_STATUS st.code

/-- The drive of `PLT_DRV` as EXPWAIT is entered: steady until state B is read, PWM where it stands, off for the tool outlet
(R337, R358, R359). -/
def expPilot (s : State) : Nat :=
  if s.bit R.ENP_CFG F.ENP_CFG_EXTOOL then 0 else if s.fld R.ENP_SRCST F.ENP_SRCST_PSTATE = 1 then 2 else 1

/-- The pilot limit as the pilot stands, in the vehicle role (R339). -/
def pilotLim (s : State) : State :=
  if s.enp.exporting then s
  else
    s.setFld R.ENP_LIM0 F.ENP_LIM0_PILOT
      (pilotLimit (s.bit R.ENP_SRCST F.ENP_SRCST_PWM) (s.fld R.ENP_PLTST F.ENP_PLTST_DUTY))

/-- `ENP_BMSST.STATE` changes; event 197 (R346). -/
def setBms (s : State) (n : Nat) : State :=
  let was := s.fld R.ENP_BMSST F.ENP_BMSST_STATE
  (s.setFld R.ENP_BMSST F.ENP_BMSST_STATE n).fireIf (n != was) 197

/-- A session or an energised period ends (R356). With the session LOST ends, as NONE (R346, log entry 154), and outside export
the pilot's limit counts again (R339). -/
def enpDone (s : State) (cause : Nat) (st : Status) (next : EnpPhase) : State :=
  let s := ((s.budgetWithdraw 6).budgetWithdraw 7).enpRecord cause st
  let s := s.modEnp fun e =>
    { e with phase := next, s2 := false, asked := false, pause := false, stopping := false, removal := false
             hinge := 0, mainsFailed := false, linkFailed := false, relayFailed := false
             exporting := e.exporting && (next == .expWait || next == .holdOff || next == .halted)
             pilot := if next = .expWait then s.expPilot else 0 }
  let s := s.when (next != .expWait && s.fld R.ENP_BMSST F.ENP_BMSST_STATE = 3) fun s => s.setBms 0
  (s.pilotLim.fire 195).fireIf (decide (10 ≤ cause) && decide (cause ≤ 14)) 198

/-- A slot named in a byte of `ENP_SLOT0` or `ENP_SLOT1`: bit 7 enables, bits 5:0 name it (R366). -/
def enpSlot (s : State) (r : Nat) (f : Fld) : Option (Fin 64) :=
  let b := s.fld r f
  if 128 ≤ b then some (fin 64 b) else none

/-- IREF, and the set-point of SLOTI with it, become 0 (R353). -/
def irefZero (s : State) : State :=
  let s := s.setFld R.ENP_LIM1 F.ENP_LIM1_IREF 0
  match s.enpSlot R.ENP_SLOT0 F.ENP_SLOT0_I with
  | some n => s.replaceSpr n.val 0
  | none => s

/-- The steps of the hinge that need not wait (R353). -/
def hingeAdvance (s : State) : State :=
  let s :=
    if s.enp.hinge = 2 && !s.tbRunning (s.enpTb true).val then
      (s.modEnp fun e => { e with hinge := 3 }).enpStopTb false
    else s
  let s :=
    if s.enp.hinge = 3 && !s.tbRunning (s.enpTb false).val then
      (s.modEnp fun e => { e with hinge := 5 }).enpRelay false
    else s
  if s.enp.hinge = 5 && s.enp.confirmed = some false then
    s.enpDone s.enp.ending.cause s.enp.ending.status s.enp.ending.next
  else s

/-- The hinge steps begin (R353). -/
def hingeStart (s : State) (cause : Nat) (st : Status) (next : EnpPhase) : State :=
  let s := ((s.budgetWithdraw 6).budgetWithdraw 7).modEnp fun e =>
    { e with phase := .hinge, s2 := false, asked := false, pause := false, stopping := false, removal := false
             hinge := 2, ending := ⟨cause, st, next⟩, relayFailed := false }
  ((s.irefZero.fire 194).enpStopTb true).hingeAdvance

/-- The reload of a timebase lets the hinge go on (R353). -/
def enpReload (s : State) : State := if s.enp.hinge = 2 || s.enp.hinge = 3 then s.hingeAdvance else s

/-! ### Sessions -/

/-- CONN, PX and PL. -/
def enpConn (s : State) : Bool := s.bit R.ENP_SRCST F.ENP_SRCST_CONN

/-- DETECT is left when connector and pilot stand (R348). -/
def enpDetect (s : State) : State :=
  if s.enpPhase = .detect && s.enpConn && s.fld R.ENP_SRCST F.ENP_SRCST_PL ≠ 3 then s.setEnp .qualify else s

/-- The BMS watch starts afresh, its counts zeroed (R345, R355, R366). -/
def bmsFresh (s : State) : State :=
  let was := s.fld R.ENP_BMSST F.ENP_BMSST_STATE
  ((s.setReg R.ENP_BMSST 0).modEnp fun e => { e with bmsSeq := none, bmsOos := false, bmsLim := 0 }).fireIf (was != 0) 197

/-- A session's number counts up and its watches start afresh (R355; log entry 50). DEDUCED. -/
def enpNumber (s : State) : State :=
  let s := s.setFld R.ENP_STATE F.ENP_STATE_SESS (s.fld R.ENP_STATE F.ENP_STATE_SESS + 1)
  (s.bmsFresh).modEnp fun e => { e with source := 0, looked := false, toHold := false, used := 0 }

/-- Export: the pilot's advertised current, in 1/16 A (R358, R359). -/
def enpAdv (s : State) : Nat :=
  let lim := s.fld R.ENP_EXP F.ENP_EXP_LIM
  if s.bit R.ENP_CFG F.ENP_CFG_EXTOOL then min lim 256
  else min (min lim (s.fld R.ENP_LIM0 F.ENP_LIM0_CABLE)) 256

/-- The precharge of a session begins (R348, R358). -/
def enpPrecharge (s : State) : State :=
  ((s.modEnp fun e => { e with asked := false, pause := false }).setEnp .precharge).enpStartTb true

/-- The budget's answer at once to a session's request (R356, R362). -/
def enpAsked (p : Asked × State) : State :=
  match p with
  | (.granted, s) => s.enpPrecharge
  | (.refused, s) => s.enpDone 14 .outOfRange .idle
  | (.waits, s) => s.modEnp fun e => { e with asked := true }

/-- The steps of an export start begin with the budget request on port 7; its class is not stated and is free (R358,
R361; log entry 51). -/
def exportStart (s : State) : State :=
  let cls := (Config.freeWord 361 s.freeCount).toNat % 16
  if s.enp.asked then s else enpAsked ((s.takeFree).budgetAsk 7 cls)

/-- A session begins (R337). -/
def enpBegin (s : State) : State :=
  let s := s.enpNumber
  if s.mode = .supply then
    let s := (s.modEnp fun e => { e with exporting := true, pilot := s.expPilot }).setEnp .expWait
    if s.bit R.ENP_CFG F.ENP_CFG_EXTOOL then s.exportStart else s
  else ((s.modEnp fun e => { e with exporting := false }).setEnp .detect).enpDetect

/-- The outcome of a command (R337). -/
def enpCmd (s : State) (st : Status) : State := s.modEnp fun e => { e with cmdst := st }

/-- START (R337). -/
def enpStart (s : State) : State := if s.enpPhase = .idle then (s.enpCmd .ok).enpBegin else s.enpCmd .busy

/-- RESTART (R337). -/
def enpRestart (s : State) : State := if s.enpPhase = .halted then (s.enpCmd .ok).enpBegin else s.enpCmd .busy

/-- STOP (R337, R354, R356). -/
def enpStop (s : State) : State :=
  let s := s.enpCmd .ok
  match s.enpPhase with
  | .idle => s
  | .fault => ((s.modEnp fun e => { e with relayFailed := false }).enpRelay false).setEnp .idle
  | .hinge => s.modEnp fun e => { e with ending := { e.ending with next := .idle } }
  | .run | .busHold | .expRun => s.modEnp fun e => { e with stopping := true }
  | _ => if s.enpSafe then s.enpDone 1 .ok .idle else s.hingeStart 1 .ok .idle

/-- After a STOP the input current has fallen, or 1 s has passed (R356). -/
def stopFall (s : State) : State := if s.enp.stopping then s.hingeStart 1 .ok .idle else s

/-- A loss during steps 4 to 6 of R348 returns the session to DETECT; an export start returns to EXPWAIT (R358). -/
def enpBack (s : State) : State :=
  let s := ((s.enpStopTb true).enpStopTb false).enpRelay false
  let s := ((s.budgetWithdraw 6).budgetWithdraw 7).modEnp fun e =>
    { e with s2 := false, asked := false, pause := false, mainsFailed := false, linkFailed := false, relayFailed := false }
  if s.enp.exporting then s.setEnp .expWait else (s.setEnp .detect).enpDetect

/-- The session stands in steps 4 to 6: its source has been looked up, its relays not yet confirmed. -/
def enpStarting (s : State) : Bool :=
  s.enpPhase == .precharge || s.enpPhase == .close || (s.enpPhase == .mains && s.enp.asked)

/-- The charger's function ends, by the mode, the lock-out or its enable (R354, R356, R357). -/
def enpForbid (s : State) : State :=
  match s.enpPhase with
  | .idle | .fault => s
  | .hinge => s.modEnp fun e => { e with ending := { e.ending with next := .idle } }
  | _ => s.hingeStart 2 (if s.lockInForce then .locked else .ok) .idle

/-- A source loss in RUN or BUSHOLD (R352, R354). -/
def sourceLoss (s : State) (cause : Nat) : State :=
  if s.enpPhase = .run || s.enpPhase = .busHold then s.hingeStart cause .timeout .holdOff else s

/-! ### Limits -/

/-- The input limit of R343. -/
def ilim (s : State) : Nat :=
  let w := s.enp.source
  let m := 256
  let m := if w.bit 14 then min m (s.fld R.ENP_LIM0 F.ENP_LIM0_PILOT) else m
  let m := if w.bit 13 then min m (s.fld R.ENP_LIM0 F.ENP_LIM0_CABLE) else m
  if w.bit 12 then min m (s.fld R.ENP_SRCTAB F.ENP_SRCTAB_SOCK) else m

/-- ILIM is formed; event 193 on a change (R343). -/
def formIlim (s : State) : State :=
  let n := s.ilim
  let was := s.fld R.ENP_LIM1 F.ENP_LIM1_ILIM
  (s.setFld R.ENP_LIM1 F.ENP_LIM1_ILIM n).fireIf (n != was) 193

/-- The battery charge limit of R347. -/
def bmsLimit (s : State) : Nat :=
  if s.bit R.ENP_BMSST F.ENP_BMSST_FULL then 0
  else if s.fld R.ENP_BMSST F.ENP_BMSST_STATE ≠ 1 || s.bit R.ENP_BMSST F.ENP_BMSST_FAULT then
    s.fld R.ENP_BMSCFG F.ENP_BMSCFG_SAFE
  else s.enp.bmsLim

/-! ### Removal and bus hold -/

/-- The battery is removed (R350, R351). In the hinge bus hold does not follow, and a removal that has not been told yet raises its
event (R354, R367). -/
def removal (s : State) (cause : Nat) (st : Status) : State :=
  match s.enpPhase with
  | .hinge =>
    let told := s.enp.removal || (7 ≤ s.enp.ending.cause && s.enp.ending.cause ≤ 9)
    ((s.modEnp fun e => { e with removal := true }).raise R.ENP_STAT F.ENP_STAT_BATRM).fireIf (!told) 196
  | .run | .expRun =>
    if s.enp.removal then s
    else
      let s := (s.raise R.ENP_STAT F.ENP_STAT_BATRM).fire 196
      if s.bit R.ENP_CFG F.ENP_CFG_BHOLD && s.enpPhase = .run then
        let s := ((s.enpStopTb true).enpStopTb false).enpRecord cause st
        s.modEnp fun e => { e with removal := true }
      else s.hingeStart cause st .halted
  | _ => s

/-- The charger starts again in bus hold (R351). -/
def busHoldRestart (s : State) : State :=
  if s.enp.removal && s.enpPhase = .run then
    (((s.modEnp fun e => { e with removal := false }).enpStartTb true).enpStartTb false).setEnp .busHold
  else s

/-- The removals of R347, from the BMS record. -/
def bmsRemoval (s : State) : State :=
  if s.fld R.ENP_BMSST F.ENP_BMSST_STATE = 3 then s.removal 9 .timeout
  else if s.enp.bmsSeq.isSome && !s.bit R.ENP_BMSST F.ENP_BMSST_CONT then s.removal 7 .outOfRange
  else s

/-- A BMS message is delivered (R345 to R347). -/
def bmsMessage (s : State) (value : BitVec 7) : State :=
  let r := R.ENP_BMSST
  let seq := value.toNat % 16
  let accept (s : State) : State :=
    let s := ((s.setFld r F.ENP_BMSST_CONT (Word.ofBool (value.getLsbD 4))).setFld r F.ENP_BMSST_FULL
      (Word.ofBool (value.getLsbD 6))).setFld r F.ENP_BMSST_FAULT (Word.ofBool (value.getLsbD 5))
    let lim := s.fld R.ENP_BMSLIM F.ENP_BMSLIM_ICHG
    let s := s.modEnp fun e => { e with bmsSeq := some seq, bmsLim := lim }
    let st := s.fld r F.ENP_BMSST_STATE
    let s := s.when (st = 2) fun s => s.countUp r F.ENP_BMSST_TRANS
    if st = 3 then s else s.setBms 1
  match s.enp.bmsSeq with
  | none => (accept s).bmsRemoval
  | some last =>
    if seq = (last + 1) % 16 then
      let s := s.when s.enp.bmsOos fun s => s.countUp r F.ENP_BMSST_TRANS
      (accept (s.modEnp fun e => { e with bmsOos := false })).bmsRemoval
    else if seq = last then s.countUp r F.ENP_BMSST_DUPCNT
    else
      let again := s.enp.bmsOos
      let s := accept ((s.countUp r F.ENP_BMSST_OOSCNT).modEnp fun e => { e with bmsOos := true })
      (if again then s.setBms 3 else s).bmsRemoval

/-- No message has been accepted for TO ms (R346). -/
def bmsTimeout (s : State) : State :=
  let st := s.fld R.ENP_BMSST F.ENP_BMSST_STATE
  if st = 1 then s.setBms 2 else if st = 2 then (s.setBms 3).bmsRemoval else s

/-- A conversion of the bus channel completes: a rise above the window's lowest by more than DV codes is a removal, in the states
in which a removal acts (R350, R354, R359). -/
def busConversion (s : State) (n : Fin 48) : State :=
  if s.fld R.ENP_BUS F.ENP_BUS_CH ≠ n.val then s
  else
    let code := s.singleValue n
    let win := s.fld R.ENP_BUS F.ENP_BUS_WIN
    let l := s.enp.bus.filter fun p => (s.now - p.1).toNat ≤ win
    let low := l.foldl (fun m p => min m p.2) code
    let s := s.modEnp fun e => { e with bus := l ++ [(s.now, code)] }
    if low + s.fld R.ENP_BUS F.ENP_BUS_DV < code then s.removal 8 .outOfRange else s

/-- The channel of the input current of phase `i`, L1 to L3 (R366). -/
def enpInput (s : State) (i : Fin 3) : Nat :=
  s.fld R.ENP_ICH (if i = 0 then F.ENP_ICH_IC0 else if i = 1 then F.ENP_ICH_IC1 else F.ENP_ICH_IC2)

/-- A conversion of an input current counts in its phase's half-cycle (R352). -/
def inputConversion (s : State) (n : Fin 48) : State :=
  let i := fdiv (((s.singleValue n : Nat) - s.fld R.ENP_ICAL F.ENP_ICAL_OFS : Int) * s.sfld R.ENP_ICAL F.ENP_ICAL_GAIN) 256
  forFin 3 (fun k s =>
    if s.enpInput k = n.val then
      s.modEnp fun e =>
        { e with sumsq := vupd e.sumsq k (· + i.natAbs * i.natAbs), count := vupd e.count k (· + 1) }
    else s) s

/-- A conversion as the energy path takes it (R350, R352). -/
def enpConversion (s : State) (n : Fin 48) : State :=
  if s.hasCharger then (s.inputConversion n).busConversion n else s

/-- A half-cycle of phase `k` ends: its RMS current, rounded down or up freely, and `ENP_EXPST.IOUT` with that of L1 (R352, R359,
R366); a half-cycle without a conversion leaves them. -/
def halfCycleEnd (s : State) (k : Fin 3) : State :=
  let n := s.enp.count[k]
  let q := s.enp.sumsq[k]
  let s := s.modEnp fun e => { e with sumsq := e.sumsq.set k 0, count := e.count.set k 0 }
  if n = 0 then s
  else
    let r := isqrt 32 (q / n)
    let r := if r * r * n ≠ q && Config.roundUp 352 q n then r + 1 else r
    let s := s.modEnp fun e => { e with rms := e.rms.set k r }
    if k = 0 then s.setFld R.ENP_EXPST F.ENP_EXPST_IOUT (min 65535 r) else s

/-! ### Start steps -/

/-- Connector and pilot have held: S2 closes, unless there is no pilot, and mains is awaited (R348). -/
def qualifyEnd (s : State) : State :=
  if s.enpPhase = .qualify then
    let s2 := s.fld R.ENP_SRCST F.ENP_SRCST_PL ≠ 0
    (s.modEnp fun e => { e with s2 := s2 }).setEnp .mains
  else s

/-- What the mains sensing shows (R341): for the phases of `half` a half-cycle ends, `v` being its peak to neutral of L1 to L3;
`vpp` is the largest phase-to-phase peak. -/
def mainsShow (s : State) (half : BitVec 3) (v : Vector (BitVec 16) 3) (vpp : BitVec 16) (freq : BitVec 12) : State :=
  let vmin := s.fld R.ENP_MAINS F.ENP_MAINS_VMIN
  let was : BitVec 3 := BitVec.ofNat 3 (s.fld R.ENP_MAINSST F.ENP_MAINSST_PRES)
  let seen (i : Fin 3) : Bool := decide (vmin ≤ v[i].toNat)
  let there (i : Fin 3) : Bool := if half.getLsbD i.val then seen i else was.getLsbD i.val
  let pres := ((List.finRange 3).map fun i => 2 ^ i.val * Word.ofBool (there i)).sum
  let miss : Vector Nat 3 := Vector.ofFn fun i =>
    if half.getLsbD i.val then (if seen i then 0 else s.enp.miss[i] + 1) else s.enp.miss[i]
  let peak := if pres = 1 then v[0].toNat else vpp.toNat
  let s := s.modEnp fun e => { e with miss := miss }
  (s.setReg R.ENP_MAINSST (Word.field 30 28 pres ||| Word.field 27 16 freq.toNat ||| Word.field 15 0 peak)).setFld
    R.ENP_SRCST F.ENP_SRCST_PH ((List.finRange 3).filter fun i => there i).length

/-- The phases shown present. -/
def mainsPres (s : State) : BitVec 3 := BitVec.ofNat 3 (s.fld R.ENP_MAINSST F.ENP_MAINSST_PRES)

/-- A phase in use has missed two half-cycles in a row (R352). -/
def mainsLost (s : State) : Bool := (List.finRange 3).any fun i => s.enp.used.getLsbD i.val && decide (2 ≤ s.enp.miss[i])

/-- Mains can be qualified: a phase present, and 45 Hz to 65 Hz (R341). -/
def mainsGood (s : State) : Bool :=
  let f := s.fld R.ENP_MAINSST F.ENP_MAINSST_FREQ
  s.mainsPres != 0 && decide (450 ≤ f) && decide (f ≤ 650)

/-- Mains has held for MQUAL ms: the source lookup, the input limit, the battery check, the budget request (R341 to R343,
R348). -/
def mainsQualified (s : State) : State :=
  if s.enpPhase ≠ .mains || s.enp.pause || s.enp.asked || !s.mainsGood then s
  else
    let idx := s.fld R.ENP_SRCTAB F.ENP_SRCTAB_TBASE + 32 * s.fld R.ENP_SRCST F.ENP_SRCST_PH
      + 4 * s.fld R.ENP_SRCST F.ENP_SRCST_PX + s.fld R.ENP_SRCST F.ENP_SRCST_PL
    let w := s.tableWord idx
    let pres := s.mainsPres
    let s := (s.modEnp fun e => { e with source := w, looked := true, used := pres }).setFld R.ENP_SRCST
      F.ENP_SRCST_TYPE (w.bits 31 24)
    let s := s.formIlim
    if !w.bit 15 then s.enpDone 10 .outOfRange .idle
    else
      let live := s.fld R.ENP_BMSST F.ENP_BMSST_STATE = 1 && s.bit R.ENP_BMSST F.ENP_BMSST_CONT
      if !live && !s.bit R.ENP_CFG F.ENP_CFG_BHOLD then
        (s.raise R.ENP_STAT F.ENP_STAT_NOBAT).enpDone 7 .outOfRange .halted
      else enpAsked ((s.modEnp fun e => { e with toHold := !live }).budgetAsk 6 (w.bits 11 8))

/-- The link has reached its target: relays are commanded closed; an export forms its output first (R348, R358). -/
def linkCheck (s : State) : State :=
  if s.enpPhase ≠ .precharge || s.enp.pause then s
  else
    let link := s.latchedOf (s.fld R.ENP_LINK F.ENP_LINK_LCH)
    let target := s.fld R.ENP_MAINSST F.ENP_MAINSST_PEAK * s.fld R.ENP_LINK F.ENP_LINK_PREK / 256
    if 98 * target * 256 ≤ 100 * link * s.fld R.ENP_LGAIN F.ENP_LGAIN_GAIN then
      let s := if s.enp.exporting then s.enpStartTb false else s
      (s.enpRelay true).setEnp .close
    else s

/-- The relays are confirmed, and their command's failure record ends (R335, R348, R349, R353, R358). -/
def relayConfirmed (s : State) (closed : Bool) : State :=
  if s.enp.relay ≠ closed then s
  else
    let s := s.modEnp fun e => { e with confirmed := some closed, relayFailed := false }
    if closed then
      if s.enpPhase = .close then
        if s.enp.exporting then (s.setEnp .expRun).bmsRemoval
        else
          let s := s.enpStartTb false
          (if s.enp.toHold then s.setEnp .busHold else s.setEnp .run).bmsRemoval
      else s
    else s.hingeAdvance

/-- The level of the relays' feedback is read: with FBPOL = 1 low means closed; with FBEN = 0 nothing is read (R335, R366). -/
def relayFeedback (s : State) (level : Bool) : State :=
  if s.bit R.ENP_RLY F.ENP_RLY_FBEN then s.relayConfirmed (level != s.bit R.ENP_RLY F.ENP_RLY_FBPOL) else s

/-- The second failure of a relay command: an open command leaves nothing to stop but the timebases (R349, R356). -/
def relayLasting (s : State) : State :=
  if s.enp.relay then s.hingeStart 13 .failedTwice .fault
  else ((s.enpStopTb true).enpStopTb false).enpDone 13 .failedTwice .fault

/-- TRLY ms have passed since a relay command that is not confirmed: without feedback it counts as confirmed; else it is a
failure, and the command, in whatever state it was given, is given again or has failed twice (R335, R349). -/
def relayTimeout (s : State) : State :=
  if s.enp.confirmed.isSome then s
  else if !s.bit R.ENP_RLY F.ENP_RLY_FBEN then s.relayConfirmed s.enp.relay
  else if s.enp.relayFailed then s.relayLasting
  else
    let closed := s.enp.relay
    (((s.raise R.ENP_STAT F.ENP_STAT_RETRY).modEnp fun e => { e with relayFailed := true }).enpRelay false).enpRelay closed

/-- Mains is not qualified within 3 s (R349). -/
def mainsTimeout (s : State) : State :=
  if s.enpPhase ≠ .mains || s.enp.asked || s.enp.pause then s
  else if s.enp.mainsFailed then s.hingeStart 11 .failedTwice .idle
  else
    (s.raise R.ENP_STAT F.ENP_STAT_RETRY).modEnp fun e => { e with mainsFailed := true, pause := true, s2 := false }

/-- The link is not at its target within 500 ms (R349). -/
def prechargeTimeout (s : State) : State :=
  if s.enpPhase ≠ .precharge || s.enp.pause then s
  else if s.enp.linkFailed then s.hingeStart 12 .failedTwice .idle
  else
    ((s.raise R.ENP_STAT F.ENP_STAT_RETRY).modEnp fun e => { e with linkFailed := true, pause := true }).enpStopTb true

/-- The pause of a repeated start step ends (R349). -/
def retryPauseEnd (s : State) : State :=
  if !s.enp.pause then s
  else
    let s := s.modEnp fun e => { e with pause := false }
    if s.enpPhase = .mains then
      let s2 := s.fld R.ENP_SRCST F.ENP_SRCST_PL ≠ 0
      s.modEnp fun e => { e with s2 := s2 }
    else if s.enpPhase = .precharge then s.enpStartTb true
    else s

/-- A grant of the session's request (R348, R358). -/
def enpGrant (s : State) : State := if s.enp.asked then s.enpPrecharge else s

/-- The session's request leaves the queue without a grant (R349, R356, R362). -/
def enpUngranted (s : State) (st : Status) : State := if s.enp.asked then s.enpDone 14 st .idle else s

/-! ### Pilot, proximity and watches -/

/-- In EXPWAIT, what a pilot state brings about: the pilot is steady until state B is read and PWM from then on, and state C starts
the steps once it is PWM (R358). -/
def exportWait (s : State) (pstate : Nat) : State :=
  let idle (s : State) : State := (s.budgetWithdraw 7).modEnp fun e => { e with asked := false }
  if pstate = 1 then (idle s).modEnp fun e => { e with pilot := 2 }
  else if pstate = 2 then (if s.enp.pilot = 2 then s.exportStart else s)
  else if pstate = 3 then ((idle s).raise R.ENP_STAT F.ENP_STAT_VENT).fire 198
  else (idle s).modEnp fun e => { e with pilot := 1 }

/-- In export, what a pilot state brings about; `was` is the state before it (R354, R358, R359). -/
def exportPilot (s : State) (was pstate : Nat) : State :=
  let loss (p : Nat) : Bool := p = 0 || 4 ≤ p
  if s.bit R.ENP_CFG F.ENP_CFG_EXTOOL then s
  else
    match s.enpPhase with
    | .expWait => s.exportWait pstate
    | .precharge | .close => if pstate = 2 then s else s.enpBack.exportWait pstate
    | .expRun =>
      if pstate = 1 then s.hingeStart 1 .ok .expWait
      else if loss pstate then s.hingeStart 3 .timeout .holdOff
      else s
    | .hinge => if loss was && !loss pstate then s.raise R.ENP_STAT F.ENP_STAT_REPLUG else s
    | _ => s

/-- A pilot state has held for PFILT ms (R338, R339, R348, R352, R354, R358): from the frequency of its edges, its duty in 0.1 %,
and its plateaus. -/
def pilotChange (s : State) (hz duty : Nat) (upper lower : Int) : State :=
  let (pstate, pwm) := pilotState hz upper lower
  let wasPl := s.fld R.ENP_SRCST F.ENP_SRCST_PL
  let was := s.fld R.ENP_SRCST F.ENP_SRCST_PSTATE
  let pl := pilotClass pstate pwm
  let r := R.ENP_SRCST
  let s := ((s.setFld r F.ENP_SRCST_PL pl).setFld r F.ENP_SRCST_PWM (Word.ofBool pwm)).setFld r F.ENP_SRCST_PSTATE pstate
  let s := s.setReg R.ENP_PLTST (Word.field 25 16 duty ||| Word.field 15 8 upper.toNat ||| Word.field 7 0 (min 255 (-lower).toNat))
  if s.enp.exporting then s.exportPilot was pstate
  else
    let s := s.pilotLim
    let s := s.when (pwm && decide (30 ≤ duty) && decide (duty < 80)) fun s => s.raise R.ENP_STAT F.ENP_STAT_DIGCOM
    let loss := pstate ≠ 1 && pstate ≠ 2
    match s.enpPhase with
    | .detect => s.enpDetect
    | .qualify => if pl ≠ wasPl then (s.setEnp .detect).enpDetect else s
    | .mains => if loss || (!s.enp.asked && pl ≠ wasPl) then s.enpBack else s
    | .precharge | .close => if loss then s.enpBack else s
    | .run | .busHold => if loss then s.sourceLoss 3 else s
    | .hinge => if loss || was = 1 || was = 2 then s else s.raise R.ENP_STAT F.ENP_STAT_REPLUG
    | _ => s

/-- The proximity resistance changes (R340, R348, R354). -/
def proximity (s : State) (res : Nat) : State :=
  let wasPx := s.fld R.ENP_SRCST F.ENP_SRCST_PX
  let was := s.enpConn
  let (px, cable) := proxClass res
  let conn := 1 ≤ px && px ≤ 4
  let s := s.setReg R.ENP_PROX (Word.field 15 0 res)
  let s := (s.setFld R.ENP_SRCST F.ENP_SRCST_PX px).setFld R.ENP_SRCST F.ENP_SRCST_CONN (Word.ofBool conn)
  let s := s.setFld R.ENP_LIM0 F.ENP_LIM0_CABLE cable
  match s.enpPhase with
  | .detect => s.enpDetect
  | .qualify => if px ≠ wasPx then (s.setEnp .detect).enpDetect else s
  | .mains => if !conn || (!s.enp.asked && px ≠ wasPx) then s.enpBack else s
  | .precharge | .close => if !conn && !s.enp.exporting then s.enpBack else s
  | .hinge => if conn && !was then s.raise R.ENP_STAT F.ENP_STAT_REPLUG else s
  | _ => s

/-- The watches of every 10 µs: what mains shows and the currents of the half-cycles that end, a lost phase, the link (R335, R341,
R352, R354, R359). -/
def enpWatch (s : State) (half : BitVec 3) (v : Vector (BitVec 16) 3) (vpp : BitVec 16) (freq : BitVec 12) : State :=
  let was := s.mainsPres
  let s := s.mainsShow half v vpp freq
  let s := forFin 3 (fun k s => if half.getLsbD k.val then s.halfCycleEnd k else s) s
  let s := s.when (s.enpPhase = .hinge && s.mainsPres &&& ~~~was != 0) fun s => s.raise R.ENP_STAT F.ENP_STAT_REPLUG
  let s := s.enpDetect
  let s :=
    if s.mainsLost && !s.enp.exporting then (if s.enpStarting then s.enpBack else s.sourceLoss 4) else s
  s.linkCheck

/-- HOLDOFF ends and a new session begins (R355). -/
def holdOffEnd (s : State) : State :=
  if s.enpPhase = .holdOff then
    let s := s.enpNumber
    if s.enp.exporting then
      let s := (s.modEnp fun e => { e with pilot := s.expPilot }).setEnp .expWait
      if s.bit R.ENP_CFG F.ENP_CFG_EXTOOL then s.exportStart else s
    else (s.setEnp .detect).enpDetect
  else s

/-! ### The sample boundary -/

/-- IREF of R344. -/
def iref (s : State) : Nat :=
  let ilim := s.fld R.ENP_LIM1 F.ENP_LIM1_ILIM
  let prev (f : Fld) : Int := match s.enpSlot R.ENP_SLOT0 f with | some n => s.cle.slot[n].y | none => 0
  if s.enp.stopping then 0
  else
    match s.enpPhase with
    | .run =>
      if (s.enpSlot R.ENP_SLOT0 F.ENP_SLOT0_B).isNone then ilim else (min (ilim : Int) (max 0 (prev F.ENP_SLOT0_B))).toNat
    | .busHold => (min (ilim : Int) (max 0 (prev F.ENP_SLOT0_H))).toNat
    | _ => 0

/-- The set-points of the named slots (R344); φ counts in 10^-9 of a turn, and the rounding of the sine's product is free
(log entry 30). -/
def enpSlots (s : State) : State :=
  let put (s : State) (r : Nat) (f : Fld) (v : Int) : State :=
    match s.enpSlot r f with | some n => s.replaceSpr n.val v | none => s
  let p := s.enpPhase
  let k := s.fld R.ENP_LINK F.ENP_LINK_VSET
  let peak := s.fld R.ENP_MAINSST F.ENP_MAINSST_PEAK * s.fld R.ENP_LINK F.ENP_LINK_PREK / 256
  let s := put s R.ENP_SLOT0 F.ENP_SLOT0_I (s.fld R.ENP_LIM1 F.ENP_LIM1_IREF)
  let s := put s R.ENP_SLOT0 F.ENP_SLOT0_B (if p = .run then s.bmsLimit else 0)
  let s := put s R.ENP_SLOT0 F.ENP_SLOT0_H (if p = .busHold then s.fld R.ENP_BHOLD F.ENP_BHOLD_VSET else 0)
  let s := put s R.ENP_SLOT0 F.ENP_SLOT0_K (if p = .precharge then peak else k)
  put s R.ENP_SLOT1 F.ENP_SLOT1_X
    (if s.enp.exporting && (p = .expRun || p = .precharge) then
      freeDiv 344 (s.fld R.ENP_EXP F.ENP_EXP_VPK * (trigOf 250000000 s.enp.phi).2) oneQ else 0)

/-- The advertised current of an export; event 193 on a change, and the pilot's duty (R358, R367). -/
def formAdv (s : State) : State :=
  let adv := s.enpAdv
  let duty := if s.enp.pilot = 2 && 96 ≤ adv then adv * 100 / 96 else 0
  let was := s.enp.adv
  ((s.setFld R.ENP_EXPST F.ENP_EXPST_DUTY duty).modEnp fun e => { e with adv := adv }).fireIf (adv != was) 193

/-- The energy path at a sample boundary (R343, R344, R357). -/
def enpBoundary (s : State) : State :=
  if !s.hasCharger then s
  else
    let s := if !s.permits (if s.enp.exporting then .exportPort else .charger) then s.enpForbid else s
    let s := if s.enp.looked then s.formIlim else s
    let s := if s.enp.exporting then s.formAdv else s
    let n := s.iref
    let s := s.setFld R.ENP_LIM1 F.ENP_LIM1_IREF n
    let hz := if s.bit R.ENP_CFG F.ENP_CFG_F60 then 60 else 50
    let ns := s.sampleNs
    (s.modEnp fun e => { e with phi := (e.phi + hz * ns) % 1000000000 }).enpSlots

/-- What `ENP_STATE` reads as (R366). -/
def enpView (s : State) (r : Nat) : Option Word :=
  if r = R.ENP_STATE then
    some (((((s.reg r).setBits 31 31 (Word.ofBool s.enpSafe)).setBits 11 8 s.enpPhase.code).setBits 7 0 s.enp.cmdst.code))
  else s.budgetView r

/-- `f` is applied where the charger is present and the unit runs (R364). -/
def whenEnp (s : State) (f : State → State) : State := if s.hasCharger && s.up then f s else s

/-- A command of `ENP_CMD` by a master: permitted in CHARGE and SUPPLY only (R337). -/
def enpWrite (s : State) (m : Master) (f : State → State) : State :=
  if !s.hasCharger then s.setStatus m .notPresent
  else if s.lockInForce then s.complete m R.ENP_CMD .locked
  else if (s.mode == .charge || s.mode == .supply)
      && (match s.pendTarget with | some t => t == .charge || t == .supply | none => true) then
    (f s).complete m R.ENP_CMD .ok
  else s.complete m R.ENP_CMD .wrongMode

end State

/-- ENP_START (R337). -/
def execEnpStart (m : Master) (s : State) : Host.Outcome State Fault Refusal := .next (s.enpWrite m State.enpStart)

/-- ENP_STOP (R337, R356). -/
def execEnpStop (m : Master) (s : State) : Host.Outcome State Fault Refusal := .next (s.enpWrite m State.enpStop)

/-- ENP_RESTART (R337). -/
def execEnpRestart (m : Master) (s : State) : Host.Outcome State Fault Refusal := .next (s.enpWrite m State.enpRestart)

/-- ENP_WATCH (R335, R341, R352). -/
def execEnpWatch (half : BitVec 3) (v : Vector (BitVec 16) 3) (vpp : BitVec 16) (freq : BitVec 12) (s : State) :
    Host.Outcome State Fault Refusal :=
  .next (s.whenEnp fun s => s.enpWatch half v vpp freq)

/-- PILOT_STATE_CHANGE (R338). -/
def execPilotStateChange (hz : BitVec 16) (duty : BitVec 10) (upper lower : BitVec 9) (s : State) :
    Host.Outcome State Fault Refusal :=
  .next (s.whenEnp fun s => s.pilotChange hz.toNat duty.toNat upper.toInt lower.toInt)

/-- PROXIMITY_CHANGE (R340). -/
def execProximityChange (res : BitVec 16) (s : State) : Host.Outcome State Fault Refusal :=
  .next (s.whenEnp fun s => s.proximity res.toNat)

/-- MAINS_QUALIFIED (R341, R342). -/
def execMainsQualified (s : State) : Host.Outcome State Fault Refusal := .next (s.whenEnp State.mainsQualified)

/-- QUALIFY_EXPIRY (R348). -/
def execQualifyExpiry (s : State) : Host.Outcome State Fault Refusal := .next (s.whenEnp State.qualifyEnd)

/-- RELAY_CONFIRMED (R335, R348, R353). -/
def execRelayConfirmed (level : Bool) (s : State) : Host.Outcome State Fault Refusal :=
  .next (s.whenEnp fun s => s.relayFeedback level)

/-- MAINS_QUALIFY_TIMEOUT (R349). -/
def execMainsQualifyTimeout (s : State) : Host.Outcome State Fault Refusal := .next (s.whenEnp State.mainsTimeout)

/-- PRECHARGE_TIMEOUT (R349). -/
def execPrechargeTimeout (s : State) : Host.Outcome State Fault Refusal := .next (s.whenEnp State.prechargeTimeout)

/-- RELAY_CONFIRM_TIMEOUT (R349). -/
def execRelayConfirmTimeout (s : State) : Host.Outcome State Fault Refusal := .next (s.whenEnp State.relayTimeout)

/-- ENP_RETRY_DELAY_EXPIRY (R349). -/
def execEnpRetryDelayExpiry (s : State) : Host.Outcome State Fault Refusal := .next (s.whenEnp State.retryPauseEnd)

/-- BMS_MESSAGE: a write of `ENP_BMSIN` (R345). -/
def execBmsMessage (m : Master) (value : BitVec 7) (s : State) : Host.Outcome State Fault Refusal :=
  .next (if s.hasCharger then (s.whenEnp fun s => s.bmsMessage value).setStatus m .ok else s.setStatus m .notPresent)

/-- BMS_FRESHNESS_TIMEOUT (R346). -/
def execBmsFreshnessTimeout (s : State) : Host.Outcome State Fault Refusal := .next (s.whenEnp State.bmsTimeout)

/-- BUS_HOLD_RESTART (R351). -/
def execBusHoldRestart (s : State) : Host.Outcome State Fault Refusal := .next (s.whenEnp State.busHoldRestart)

/-- HOLDOFF_END (R355). -/
def execHoldoffEnd (s : State) : Host.Outcome State Fault Refusal := .next (s.whenEnp State.holdOffEnd)

/-- PILOT_ZERO_TIMEOUT: PZT s have passed with a pilot limit of 0 (R343, R356). -/
def execPilotZeroTimeout (s : State) : Host.Outcome State Fault Refusal :=
  .next (s.whenEnp fun s =>
    if (s.enpPhase = .run || s.enpPhase = .busHold) && s.fld R.ENP_LIM0 F.ENP_LIM0_PILOT = 0 then
      s.hingeStart 6 .ok .holdOff
    else s)

/-- INPUT_CURRENT_COLLAPSE: ICT ms have passed; a source loss where the current of every phase in use is below ICOL while IREF
is 2 A or more (R352). -/
def execInputCurrentCollapse (s : State) : Host.Outcome State Fault Refusal :=
  .next (s.whenEnp fun s =>
    let low (i : Fin 3) : Bool := !s.enp.used.getLsbD i.val || decide (s.enp.rms[i] < s.fld R.ENP_MAINS F.ENP_MAINS_ICOL)
    if decide (32 ≤ s.fld R.ENP_LIM1 F.ENP_LIM1_IREF) && (List.finRange 3).all low then s.sourceLoss 5 else s)

/-- STOP_CURRENT_FALL (R356). -/
def execStopCurrentFall (s : State) : Host.Outcome State Fault Refusal := .next (s.whenEnp State.stopFall)

/-- EXPORT_OVERCURRENT: 1 s has passed; an ending where IOUT is above ADV × 1.1 (R359). -/
def execExportOvercurrent (s : State) : Host.Outcome State Fault Refusal :=
  .next (s.whenEnp fun s =>
    if s.enpPhase = .expRun && decide (11 * s.enp.adv < 10 * s.fld R.ENP_EXPST F.ENP_EXPST_IOUT) then
      s.hingeStart 15 .outOfRange .halted
    else s)

/-- TIMEBASE_RELOAD (R229). -/
def execTimebaseReload (t : Fin 10) (s : State) : Host.Outcome State Fault Refusal :=
  .next (if s.up && s.tbRunning t.val then (s.reload t).enpReload else s)

/-- CONVERSION_COMPLETE (R155): the conversion is judged, queued, and delivered to table drive, the actuators and the
energy path (R154, R312, R350). -/
def execConversionComplete (k : Fin 8) (code : BitVec 12) (s : State) : Host.Outcome State Fault Refusal :=
  .next (s.whenUp fun s =>
    match s.nextConversion k with
    | none => s
    | some (n, td) =>
      let s := s.acqConversion k code
      let s := match td with | some x => s.tdDeliver x n.val (s.singleValue n) | none => s
      (s.actConversion n).enpConversion n)

end Sys2Proof.Machine
end

