-- ==== Sys2Proof/Machine/Power.lean ====
section
/-!
DEFINITION. What reaches several power units at once: legs that become high-impedance, tripped or free again (R320,
R372), clears of legs (R301), and the grants and ends of the start budget at their requesters (R361 to R363, R488).
-/

namespace Sys2Proof.Machine
namespace State

/-- The converter and the actuator drives follow a change of their legs' availability (R320, R372). -/
def legsChanged (s : State) : State := s.auxLost.actPauses

/-- A clear of leg `n` asked by master `m` (R62, R301). -/
def legClearBy (s : State) (m : Master) (n : Nat) : State :=
  let st := s.legClearStatus n
  ((s.legClear n).legsChanged).complete m R.GDP_CLR st

/-! ### The start budget at its requesters -/

/-- A request of this module on `port` is granted (R361, R362). -/
def budgetGranted (s : State) (port cls : Nat) : State :=
  if h : port < 5 then
    if s.actState ⟨port, h⟩ = 1 then s.actGranted ⟨port, h⟩ else s
  else if port = 5 then s.auxGrant
  else if port < 8 then s.enpGrant
  else s.budgetResult (port - 8) cls .ok

/-- A request of this module on `port` ends without a grant (R362). -/
def budgetEnded (s : State) (port cls : Nat) (st : Status) : State :=
  if h : port < 5 then
    if s.actState ⟨port, h⟩ = 1 then s.actEnd ⟨port, h⟩ st else s
  else if port = 5 then s.auxUngranted st
  else if port < 8 then s.enpUngranted st
  else s.budgetResult (port - 8) cls st

/-- Every 1 µs the bucket refills and the heads it pays for are granted; a grant to the partner module leaves in a
frame (R360, R362, R488). -/
def budgetTick (s : State) : State :=
  let s := s.budgetRefill
  if s.quiet then s
  else
  let (l, s) := s.budgetGrants s.budget.queue.length
  l.foldl (fun s q => if q.partner then s else s.budgetGranted q.port q.cls) s

/-- The request that has waited TO ms on `port` leaves the queue; one whose class gives no timeout waits on (R361, R362). -/
def budgetTimeout (s : State) (port : Nat) : State :=
  match s.budget.queue.find? fun q => q.port == port && q.wait != 0 with
  | none => s
  | some q =>
    let s := s.modBudget fun b => { b with queue := b.queue.filter fun p => p != q }
    let s := (s.raise R.ENP_SBST F.ENP_SBST_TO).countUp R.ENP_SBST F.ENP_SBST_TOCNT
    if q.partner then s.fire 199 else (s.budgetEnded port q.cls .timeout).fire 199

/-- A request of firmware port `f` (R363). -/
def budgetFirmware (s : State) (f : Fin 4) (cls : Nat) : State :=
  if s.budgetWaits (8 + f.val) then s.budgetResult f.val cls .busy
  else
    match s.budgetAsk (8 + f.val) cls with
    | (.granted, s) => s.budgetResult f.val cls .ok
    | (.refused, s) => s.budgetResult f.val cls .outOfRange
    | (.waits, s) => s

/-- A BUDGET frame: at the acting lead a request of the partner module; at the quiet module the outcome of a request
it sent (R488). -/
def budgetFrame (s : State) (port : Nat) (cls : Nat) (outcome : Option (BitVec 8)) : State :=
  match outcome with
  | none => if s.bit R.TWN_ST F.TWN_ST_ACTLEAD then (s.budgetJudge port cls true).2 else s
  | some st =>
    if s.budget.sent.any fun q => q == (port, cls) then
      let s := s.modBudget fun b => { b with sent := b.sent.erase (port, cls) }
      if st = 0 then s.budgetGranted port cls
      else if st = 5 then
        ((s.raise R.ENP_SBST F.ENP_SBST_TO).countUp R.ENP_SBST F.ENP_SBST_TOCNT).budgetEnded port cls .timeout
      else s.budgetEnded port cls .outOfRange
    else s

end State

/-- TRIP_INPUT: the filtered level of a trip pad (R243 to R245, R320). -/
def execTripInput (k : Fin 4) (level : Bool) (s : State) : Host.Outcome State Fault Refusal :=
  .next (s.whenUp fun s => (s.tripInput k level).legsChanged)

/-- TRIP_CLEAR (R245). -/
def execTripClear (mask : BitVec 4) (s : State) : Host.Outcome State Fault Refusal :=
  .next (s.whenUp fun s => (s.tripClear mask).legsChanged)

/-- DESATURATION_DETECTION (R292, R305). -/
def execDesaturationDetection (i : Fin 15) (w : Switch) (s : State) : Host.Outcome State Fault Refusal :=
  .next (s.whenProtects fun s => (s.desaturation i.val w).legsChanged)

/-- SHUNT_DETECTION (R293, R305). -/
def execShuntDetection (c : Fin 9) (above : Bool) (s : State) : Host.Outcome State Fault Refusal :=
  .next (s.whenProtects fun s => (s.shuntChange c.val above).legsChanged)

/-- FAULT_LINE_DETECTION (R294, R305). -/
def execFaultLineDetection (n : Fin 27) (active : Bool) (s : State) : Host.Outcome State Fault Refusal :=
  .next (s.whenProtects fun s => if s.legPresent n.val then (s.lineChange n.val active).legsChanged else s)

/-- ENABLE_BLANK_EXPIRY (R289, R305). -/
def execEnableBlankExpiry (x : Fin 4) (s : State) : Host.Outcome State Fault Refusal :=
  .next (s.whenProtects fun s => (s.blankEnd x.val).legsChanged)

/-- COOL_OFF_END (R299). -/
def execCoolOffEnd (n : Fin 42) (s : State) : Host.Outcome State Fault Refusal :=
  .next (s.coolOffEnd n.val).legsChanged

/-- LEG_CLEAR: a write of `GDP_CLR` (R301); a leg number that is not listed is a host mistake (R49). -/
def execLegClear (m : Master) (leg : BitVec 6) (s : State) : Host.Outcome State Fault Refusal :=
  if 41 < leg.toNat then .fault .hostMistake else .next (s.legClearBy m leg.toNat)

/-- DRIVER_SUPPLY_DIP (R302, R305). -/
def execDriverSupplyDip (r : DriverRail) (s : State) : Host.Outcome State Fault Refusal :=
  .next (s.whenProtects fun s => s.supplyDip r)

/-- DRIVER_SUPPLY_RECOVERY (R302, R305). -/
def execDriverSupplyRecovery (s : State) : Host.Outcome State Fault Refusal :=
  .next (s.whenProtects State.supplyRecover)

/-- BUDGET_TICK (R360, R362); the budget runs in every mode except OFF and BOOT (R364). -/
def execBudgetTick (s : State) : Host.Outcome State Fault Refusal := .next (s.whenUp State.budgetTick)

/-- BUDGET_TIMEOUT (R362, R364). -/
def execBudgetTimeout (port : Fin 12) (s : State) : Host.Outcome State Fault Refusal :=
  .next (s.whenUp fun s => s.budgetTimeout port.val)

/-- BUDGET_FIRMWARE_REQUEST (R363). -/
def execBudgetFirmwareRequest (f : Fin 4) (cls : BitVec 4) (s : State) : Host.Outcome State Fault Refusal :=
  .next (s.whenUp fun s => s.budgetFirmware f cls.toNat)

/-- BUDGET_FIRMWARE_WITHDRAW (R363). -/
def execBudgetFirmwareWithdraw (f : Fin 4) (s : State) : Host.Outcome State Fault Refusal :=
  .next (s.whenUp fun s => s.budgetWithdraw (8 + f.val))

/-- BUDGET_FRAME (R488). -/
def execBudgetFrame (port : Fin 12) (cls : BitVec 4) (outcome : Option (BitVec 8)) (s : State) :
    Host.Outcome State Fault Refusal := .next (s.whenUp fun s => s.budgetFrame port.val cls.toNat outcome)

end Sys2Proof.Machine
end

