-- ==== Sys2Proof/Machine/CnvRec.lean ====
section
/-!
DEFINITION. The context records of the conversation engine and the frames it forms (R450, R451, R456 to R459): reading
and writing a record's fields, timers, and the layout of the transport frames of ISO 11783-3 (log entry 60).
-/

namespace Sys2Proof.Machine

/-- The identifier of a frame: priority, parameter group, destination and source address; a group with PF below 240
carries the destination in its low byte (log entry 60). PRESUMED. -/
def pgnId (prio pgn da sa : Nat) : BitVec 29 :=
  BitVec.ofNat 29 (prio % 8 * 2 ^ 26 + (if pgn / 256 % 256 < 240 then pgn / 256 * 256 + da else pgn) % 2 ^ 18 * 256 + sa)

/-- A classical data frame with an extended identifier. -/
def classical (id : BitVec 29) (data : List Byte) : CanFrame :=
  { ext := true, id := id, fdf := false, brs := false, rtr := false, esi := false
    dlc := BitVec.ofNat 4 (min 8 data.length), data := data }

/-- The `n` low bytes of a number, lowest first. -/
def leBytes : Nat → Nat → List Byte
  | 0, _ => []
  | n + 1, v => BitVec.ofNat 8 (v % 256) :: leBytes n (v / 256)

/-- The number whose bytes stand lowest first. -/
def ofLe : List Byte → Nat
  | [] => 0
  | b :: t => b.toNat + 256 * ofLe t

namespace State

/-- Word `k` of the record of session `n` (R450). -/
def recAddr (n k : Nat) : Nat := 0x23080000 + 64 * n + 4 * k

/-- Word `k` of the record of session `n`. -/
def ctx (s : State) (n k : Nat) : Word := s.word (recAddr n k)

/-- Bits `hi` to `lo` of word `k` of the record of session `n`. -/
def recBits (s : State) (n k hi lo : Nat) : Nat := (s.ctx n k).bits hi lo

/-- Bits `hi` to `lo` of word `k` of the record of session `n` take `v`. -/
def setRec (s : State) (n k hi lo v : Nat) : State :=
  s.setWord (recAddr n k) ((s.ctx n k).setBits hi lo v)

def recKind (s : State) (n : Nat) : Nat := s.recBits n 0 3 0
def recCh (s : State) (n : Nat) : Nat := s.recBits n 0 6 4
def recPrio (s : State) (n : Nat) : Nat := s.recBits n 0 18 16
def recPgn (s : State) (n : Nat) : Nat := s.recBits n 1 17 0
def recDa (s : State) (n : Nat) : Nat := s.recBits n 1 31 24
def recState (s : State) (n : Nat) : Nat := s.recBits n 5 3 0
def recProto (s : State) (n : Nat) : Nat := s.recBits n 5 5 4
def recPeer (s : State) (n : Nat) : Nat := s.recBits n 5 15 8
def recNext (s : State) (n : Nat) : Nat := s.recBits n 6 23 0
def recEnd (s : State) (n : Nat) : Nat := s.recBits n 7 23 0
def recSize (s : State) (n : Nat) : Nat := s.recBits n 8 19 0
def recTimer (s : State) (n : Nat) : Nat := s.recBits n 10 31 28
def setState (s : State) (n v : Nat) : State := s.setRec n 5 3 0 v
def setNext (s : State) (n v : Nat) : State := s.setRec n 6 23 0 v
def setEnd (s : State) (n v : Nat) : State := s.setRec n 7 23 0 v

/-- Packets per CTS (R451). -/
def recWin (s : State) (n : Nat) : Nat := match s.recBits n 0 31 24 with | 0 => 255 | w => w

/-- Bytes in the buffers of session `n` (R451). -/
def recRoom (s : State) (n : Nat) : Nat := (match s.recBits n 4 15 8 with | 0 => 256 | b => b) * 2048

/-- Where byte `k` of the message of session `n` lies (R450). -/
def msgAddr (s : State) (n k : Nat) : Nat := 0x23000000 + 2048 * s.recBits n 4 7 0 + k

/-- Packets of the message in progress, seven bytes each. -/
def recTotal (s : State) (n : Nat) : Nat := (s.recSize n + 6) / 7

/-- Session `n` is in progress (R451). -/
def inProgress (s : State) (n : Nat) : Bool := s.recState n != 0 && s.recState n != 6

/-- Session `n` is a shadow (R468). -/
def recShadow (s : State) (n : Nat) : Bool := s.recBits n 5 7 7 == 1

/-- What the engine keeps of session `n` beside its record. -/
def ses (s : State) (n : Nat) : Session := s.cnv.ses[fin 256 n]

/-- That record changed by `f`. -/
def modSes (s : State) (n : Nat) (f : Session → Session) : State :=
  { s with cnv := { s.cnv with ses := vupd s.cnv.ses (fin 256 n) f } }

/-- The channel's own address (R452). -/
def ownSa (s : State) (c : Nat) : Nat := (s.reg (if c < 4 then R.CNV_SA0 else R.CNV_SA1)).bits (c % 4 * 8 + 7) (c % 4 * 8)

/-- The engine is a listener (R468). -/
def cnvQuiet (s : State) : Bool := s.bit R.CNV_CFG F.CNV_CFG_QUIET

/-- Transport sessions run (R470). -/
def cnvOn (s : State) : Bool := s.bit R.CNV_CFG F.CNV_CFG_EN

/-- Timer `t` of R460 in ms; 0 acts as 1. -/
def timerMs (s : State) (t : Nat) : Nat :=
  let r := if t ≤ 2 then R.CNV_TIM0 else if t ≤ 4 then R.CNV_TIM1 else R.CNV_TIM2
  max 1 (if t % 2 = 1 then (s.reg r).bits 31 16 else (s.reg r).bits 15 0)

/-- Timer `t` of session `n` starts, in place of the one that runs; 0 stops it (R460). -/
def startTimer (s : State) (n t : Nat) : State :=
  let s := s.setRec n 10 31 28 t
  if t = 0 then s else s.setRec n 9 31 0 ((s.now.toNat + 1000 * s.timerMs t) % 2 ^ 32)

/-! ### Frames -/

/-- Session `n` uses extended transport. -/
def recEtp (s : State) (n : Nat) : Bool := s.recProto n == 3

/-- A transport control frame of channel `c` to `da` (R452, R456). -/
def controlFrame (s : State) (c prio da : Nat) (etp : Bool) (data : List Byte) : CanFrame :=
  classical (pgnId prio (if etp then 0xC800 else 0xEC00) da (s.ownSa c)) data

/-- A control frame of session `n` to its peer. -/
def sesFrame (s : State) (n : Nat) (data : List Byte) : CanFrame :=
  s.controlFrame (s.recCh n) (s.recPrio n) (s.recPeer n) (s.recEtp n) (data ++ leBytes 3 (s.ses n).pgn)

/-- The announcement of a transmit session: RTS, ETP RTS or BAM (R456). -/
def announceFrame (s : State) (n : Nat) : CanFrame :=
  let size := s.recSize n
  if s.recEtp n then s.sesFrame n (0x14 :: leBytes 4 size)
  else
    let bam := s.recProto n == 2
    s.sesFrame n ((if bam then 0x20 else 0x10) :: leBytes 2 size ++ leBytes 1 (s.recTotal n)
      ++ [if bam then 0xFF else BitVec.ofNat 8 (s.recWin n)])

/-- The data frame that is next to send (R456): sequence number and seven bytes, or the whole of a single frame. -/
def bulkFrame (s : State) (n : Nat) : CanFrame :=
  let c := s.recCh n
  let size := s.recSize n
  if s.recProto n = 0 then
    classical (pgnId (s.recPrio n) (s.recPgn n) (s.recDa n) (s.ownSa c)) (s.bytes (s.msgAddr n 0) size)
  else
    let k := s.recNext n
    let seq := if s.recEtp n then k - s.recBits n 10 23 0 else k
    let body := (List.range 7).map fun i =>
      let j := 7 * (k - 1) + i
      if j < size then s.byte (s.msgAddr n j) else 0xFF
    classical (pgnId (s.recPrio n) (if s.recEtp n then 0xC700 else 0xEB00) (s.recPeer n) (s.ownSa c))
      (BitVec.ofNat 8 seq :: body)

end State
end Sys2Proof.Machine
end

