-- ==== Sys2Proof/Machine/Net.lean ====
section
/-!
DEFINITION. The field network (R422 to R449): transmit buffers and queues, gate queues, bus-off, the receive queue,
reference messages, and the Ethernet ports.
-/

namespace Sys2Proof.Machine

/-- Data bytes of a length code (R428). -/
def dlcLen (fdf : Bool) (dlc : Nat) : Nat :=
  if !fdf then min dlc 8
  else if dlc ≤ 8 then dlc
  else if dlc ≤ 12 then 8 + 4 * (dlc - 8)
  else if dlc = 13 then 32 else if dlc = 14 then 48 else 64

/-- The value an arbitration compares, lowest winning: the base identifier, a base frame before an extended one, the
rest of the identifier (R431). -/
def arbKey (f : CanFrame) : Nat :=
  f.id.toNat / 2 ^ 18 * 2 ^ 19 + (if f.ext then 2 ^ 18 + f.id.toNat % 2 ^ 18 else 0)

/-- The frame of a pushed packet (R428, R432). -/
def pushedFrame (l : List Word) : CanFrame :=
  let w0 := l.headD 0
  let w1 := (l.drop 1).headD 0
  let fdf := w0.bit 19
  let dlc := w0.bits 16 13
  let n := if w0.bit 17 then 0 else dlcLen fdf dlc
  { ext := w0.bit 20, fdf := fdf, brs := w0.bit 18, rtr := w0.bit 17, esi := false, dlc := BitVec.ofNat 4 dlc
    id := BitVec.ofNat 29 (w0.bits 12 0 * 65536 + w1.bits 15 0)
    data := ((l.drop 2).flatMap fun w => [w.extractLsb' 0 8, w.extractLsb' 8 8, w.extractLsb' 16 8]).take n }

/-- A pushed packet follows R432: reserved fields zero, as many data words as its length asks, and in the last of them
the bytes that remain. -/
def pushedOk (l : List Word) : Bool :=
  let w0 := l.headD 0
  let w1 := (l.drop 1).headD 0
  let n := if w0.bit 17 then 0 else dlcLen (w0.bit 19) (w0.bits 16 13)
  let last := l.getLastD 0
  decide (l.length = 2 + (n + 2) / 3) && decide (w0.bits 23 21 = 0) && decide (w1.bits 23 16 = 0)
    && (n == 0 || decide (last.bits 29 28 = (n + 2) % 3))

/-- The packet of a received frame (R428). -/
def rxPacket (c : Nat) (f : CanFrame) (sof : Word) (flt : Option Nat) (prio : Nat) : List Word :=
  let n := f.data.length
  let w0 := c * 2 ^ 21 + Word.ofBool f.ext * 2 ^ 20 + Word.ofBool f.fdf * 2 ^ 19 + Word.ofBool f.brs * 2 ^ 18
    + Word.ofBool f.rtr * 2 ^ 17 + f.dlc.toNat * 2 ^ 13 + f.id.toNat / 65536
  let w1 := Word.ofBool f.esi * 2 ^ 23 + f.id.toNat % 65536
    + (match flt with | none => 2 ^ 20 | some k => k * 65536)
  let head := [tagWord false 3 prio w0, tagWord false 3 prio w1, tagWord (n == 0) 3 prio (sof.bits 23 0)]
  head ++ tagBytes prio f.data

namespace State

/-! ### Channels -/

/-- The network changed by `f`. -/
def modNet (s : State) (f : NetState → NetState) : State := { s with net := f s.net }

/-- Channel `c`. -/
def chan (s : State) (c : Fin 8) : CanChan := s.net.chan[c]

/-- Channel `c` changed by `f`. -/
def modCan (s : State) (c : Fin 8) (f : CanChan → CanChan) : State :=
  s.modNet fun n => { n with chan := vupd n.chan c f }

/-- Buffer `b` of channel `c` set. -/
def setBuf (s : State) (c : Fin 8) (b : Fin 3) (x : Option TxBuf) : State :=
  s.modCan c fun h => { h with buf := vupd h.buf b fun _ => x }

/-- Channel `c` is enabled, and the unit runs (R422, R443). -/
def canOn (s : State) (c : Fin 8) : Bool := s.mode != .off && s.bit (R.NET_CH_CFG c.val) F.NET_CH_CFG_EN

/-- Channel `c` is in bus-off (R425). -/
def busOff (s : State) (c : Fin 8) : Bool := s.bit (R.NET_CH_ST c.val) F.NET_CH_ST_BUSOFF

/-- Channel `c` carries the gate protocol (R406). -/
def gateChan (s : State) (c : Fin 8) : Bool := (s.fld R.GTE_NETCFG F.GTE_NETCFG_CHMASK).testBit c.val

/-- This module is the acting time master (R436). -/
def timeMaster (s : State) : Bool := s.bit R.NET_TMST F.NET_TMST_ACT

/-- Channel `c` carries reference messages (R437). -/
def refChan (s : State) (c : Nat) : Bool := (s.fld R.NET_TM F.NET_TM_CHMASK).testBit c

/-! ### Loading the buffers (R430, R453) -/

/-- A gate frame is dropped (R465). -/
def gateDrop (s : State) : State :=
  ((s.countUp R.CNV_CNT2 F.CNV_CNT2_GDROP).raise R.CNV_STAT F.CNV_STAT_GDROP).fire 233

/-- A packet of the transmit queue is loaded into buffer `b`, if one waits. -/
def loadQueue (s : State) (c : Fin 8) (b : Fin 3) : State :=
  match takeUrgent (s.chan c).txq.waiting with
  | none => s
  | some (p, rest) =>
    (s.modCan c fun h => { h with txq := { h.txq with waiting := rest } }).setBuf c b
      (some ⟨pushedFrame p.words, .queue, false, 0, false⟩)

/-- The session of channel `c` whose data frame is next, in turn by rising number (R453). -/
def bulkTurn (s : State) (c : Fin 8) : Option Nat :=
  let ok (n : Nat) : Bool := (s.ses n).ready && s.recCh n == c.val && s.inProgress n
  let after := (s.chan c).turn + 1
  match ((List.range 256).filter fun n => after ≤ n).find? ok with
  | some n => some n
  | none => (List.range 256).find? ok

/-- TB1 is loaded from the gate queue, the control frames, or a session's data (R453, R468, R470). -/
def loadTb1 (s : State) (c : Fin 8) : State :=
  match (s.chan c).gate with
  | (_, f) :: t => (s.modCan c fun h => { h with gate := t }).setBuf c 1 (some ⟨f, .gate, false, 0, false⟩)
  | [] =>
    if !s.cnvOn || s.cnvQuiet then s
    else
      match (s.chan c).control with
      | (n, f) :: t =>
        (s.modCan c fun h => { h with control := t }).setBuf c 1 (some ⟨f, .control n, false, 0, false⟩)
      | [] =>
        match s.bulkTurn c with
        | some n =>
          ((s.modCan c fun h => { h with turn := n }).modSes n fun x => { x with ready := false }).setBuf c 1
            (some ⟨s.bulkFrame n, .bulk n, false, 0, false⟩)
        | none => s

/-- A transport frame goes back to the front of its session, unchanged (R453, R454). -/
def giveBack (s : State) (c : Fin 8) (x : TxBuf) : State :=
  match x.src with
  | .control n => s.modCan c fun h => { h with control := (n, x.frame) :: h.control }
  | .bulk n => s.modSes n fun y => { y with ready := true }
  | _ => s

/-- A frame of a transport session. -/
def txTransport (x : TxBuf) : Bool := match x.src with | .control _ | .bulk _ => true | _ => false

/-- A transport frame that waits in TB1 is withdrawn to the front of its session (R453). -/
def withdrawTb1 (s : State) (c : Fin 8) : State :=
  match (s.chan c).buf[1] with
  | some x => if !x.active && txTransport x then (s.setBuf c 1 none).giveBack c x else s
  | none => s

/-- A pending transport frame gives way to a waiting gate frame (R453). -/
def gateFirst (s : State) (c : Fin 8) : State := if (s.chan c).gate = [] then s else s.withdrawTb1 c

/-- A reference message takes the SOF of the one before it on its channel, as it stands when the message is loaded (R437, R438). -/
def refStamp (s : State) (c : Fin 8) (f : CanFrame) : CanFrame :=
  { f with data := f.data.take 4 ++ leBytes 4 (match (s.chan c).refSof with | some t => t.toNat | none => 0xFFFFFFFF) }

/-- The empty buffers of channel `c` are loaded from their sources; none during bus-off (R430, R434, R438). -/
def netLoad (s : State) (c : Fin 8) : State :=
  if s.busOff c then s
  else
    let s :=
      if (s.chan c).buf[0].isSome then s
      else if s.timeMaster && s.refChan c.val then
        match (s.chan c).refWait with
        | some f => (s.modCan c fun h => { h with refWait := none }).setBuf c 0
            (some ⟨s.refStamp c f, .reference, false, 0, false⟩)
        | none => s
      else s.loadQueue c 0
    let s := s.gateFirst c
    let s := if (s.chan c).buf[1].isSome then s else s.loadTb1 c
    if (s.chan c).buf[2].isSome then s else s.loadQueue c 2

/-- Every channel is loaded. -/
def netLoadAll (s : State) : State := forFin 8 (fun c s => s.netLoad c) s

/-- A frame that the gate unit requests on channel `c` (R465). -/
def gateSend (s : State) (c : Fin 8) (halt : Bool) (f : CanFrame) : State :=
  if !s.gateChan c || !s.canOn c || 64 ≤ (s.chan c).gate.length then s.gateDrop
  else
    (s.modCan c fun h =>
      { h with gate := if halt then h.gate.takeWhile (·.1) ++ (true, f) :: h.gate.dropWhile (·.1)
                       else h.gate ++ [(false, f)] }).netLoad c

/-! ### Removing frames -/

/-- The frame of buffer `b` is removed by a cancel (R433, R454, R465). -/
def bufCancel (s : State) (c : Fin 8) (b : Fin 3) : State :=
  match (s.chan c).buf[b] with
  | none => s
  | some x =>
    let s := (s.setBuf c b none).countUp (R.NET_CH_CNT c.val) F.NET_CH_CNT_CANCNT
    match x.src with
    | .gate => s.gateDrop
    | _ => s.giveBack c x

/-- A cancel of buffer `b` (R433). -/
def txCancel (s : State) (c : Fin 8) (b : Fin 3) : State :=
  match (s.chan c).buf[b] with
  | none => s
  | some x =>
    if x.src = .reference then s
    else if x.active then s.setBuf c b (some { x with cancel := true })
    else s.bufCancel c b

/-- Channel `c` can send the frame: a CAN FD frame needs FDE (R423), a listener sends no transport frame (R468); one it cannot send
stays pending and is not offered (log entry 172). -/
def sendable (s : State) (c : Fin 8) (x : TxBuf) : Bool :=
  (!x.frame.fdf || s.bit (R.NET_CH_CFG c.val) F.NET_CH_CFG_FDE) && !(s.cnvQuiet && txTransport x)

/-- Buffer `b` is the one that channel `c` offers for arbitration: of the pending ones that it can send the lowest identifier, ties
going to the lower buffer number, or with ORDER the lowest number; nothing is offered while a frame is on the bus (R423, R431). -/
def offered (s : State) (c : Fin 8) (b : Fin 3) : Bool :=
  match (s.chan c).buf[b] with
  | none => false
  | some x =>
    s.sendable c x && (List.finRange 3).all fun k =>
      match (s.chan c).buf[k] with
      | none => true
      | some y =>
        !y.active && (!s.sendable c y || (if s.bit (R.NET_CH_CFG c.val) F.NET_CH_CFG_ORDER then decide (b ≤ k)
          else decide (arbKey x.frame < arbKey y.frame) || (decide (arbKey x.frame = arbKey y.frame) && decide (b ≤ k))))

/-- A frame on the bus is pending again, or removed by a cancel held on it (R431, R433). -/
def bufBack (s : State) (c : Fin 8) (b : Fin 3) : State :=
  match (s.chan c).buf[b] with
  | some x =>
    if !x.active then s else if x.cancel then s.bufCancel c b else s.setBuf c b (some { x with active := false })
  | none => s

/-- A frame loses arbitration or meets an error; then what is empty is loaded, and a gate frame displaces a transport frame that is
pending again (R431, R433, R453). -/
def bufAgain (s : State) (c : Fin 8) (b : Fin 3) : State :=
  match (s.chan c).buf[b] with
  | some x => if x.active then (s.bufBack c b).netLoad c else s
  | none => s

/-- Bus-off: every buffer is emptied and the gate queue with it (R425, R434, R465). -/
def enterBusOff (s : State) (c : Fin 8) : State :=
  let s := ((s.raise (R.NET_CH_ST c.val) F.NET_CH_ST_BUSOFF).raise R.NET_STAT F.NET_STAT_BUSOFF).raise
    (R.NET_CH_FLG c.val) F.NET_CH_FLG_BUSOFF
  let s := (s.countUp (R.NET_CH_CNT c.val) F.NET_CH_CNT_BOCNT).fire 215
  let s := forFin 3 (fun b s =>
    match (s.chan c).buf[b] with
    | none => s
    | some x =>
      let s := (s.setBuf c b none).countUp (R.NET_CH_CNT c.val) F.NET_CH_CNT_ABORTCNT
      match x.src with
      | .gate => s.gateDrop
      | _ => s.giveBack c x) s
  let s := (s.chan c).gate.foldl (fun s _ => s.gateDrop) s
  s.modCan c fun h => { h with gate := [], recovering := s.bit (R.NET_CH_CFG c.val) F.NET_CH_CFG_AUTOREC }

/-- The error counters of channel `c` take these values (R425). -/
def setErrors (s : State) (c : Fin 8) (tec rec : Nat) : State :=
  let st := R.NET_CH_ST c.val
  let passive := decide (128 ≤ tec) || decide (128 ≤ rec)
  let was := s.bit st F.NET_CH_ST_PASSIVE
  let s := ((s.setFld st F.NET_CH_ST_TEC tec).setFld st F.NET_CH_ST_REC rec).setFld st F.NET_CH_ST_PASSIVE
    (Word.ofBool passive)
  if passive && !was then (s.raise (R.NET_CH_FLG c.val) F.NET_CH_FLG_PASSIVE).fire 217 else s

/-- The error counters of channel `c` after an error: TEC and REC (R425; ISO 11898-1, log entry 63). -/
def errorCounts (s : State) (c : Fin 8) (step : CanStep) : Nat × Nat :=
  let tec := s.fld (R.NET_CH_ST c.val) F.NET_CH_ST_TEC
  let rx := s.fld (R.NET_CH_ST c.val) F.NET_CH_ST_REC
  match step with
  | .uncounted => (tec, rx)
  | .receive => (tec, min 255 (rx + 1))
  | .receiveMore => (tec, min 255 (rx + 8))
  | .transmit => (tec + 8, rx)

/-- A bus error, or a protocol exception (R423, R425, R431); at bus-off nothing is loaded (R434). -/
def canError (s : State) (c : Fin 8) (step : CanStep) (b : Option (Fin 3)) (pxe : Bool) : State :=
  if !s.canOn c || s.busOff c then s
  else
    let (tec, rx) := s.errorCounts c step
    let s := if pxe && s.bit (R.NET_CH_CFG c.val) F.NET_CH_CFG_PXE then
      (s.raise (R.NET_CH_FLG c.val) F.NET_CH_FLG_PXEV).fire 218 else s
    let s := s.setErrors c tec rx
    if 256 ≤ tec then (match b with | some b => s.bufBack c b | none => s).enterBusOff c
    else match b with | some b => s.bufAgain c b | none => s

/-- Recovery ends (R422, R425, R434, R443). -/
def recoveryEnd (s : State) (c : Fin 8) : State :=
  if s.canOn c && s.busOff c && (s.chan c).recovering then
    let s := (s.setFld (R.NET_CH_ST c.val) F.NET_CH_ST_BUSOFF 0).setErrors c 0 0
    ((s.modCan c fun h => { h with recovering := false }).fire 216).netLoad c
  else s

/-! ### Transmit queue -/

/-- Words in the transmit queue, those of a packet still being pushed among them (R432). -/
def txqWords (s : State) (c : Fin 8) : Nat := (s.chan c).txq.words + (s.chan c).push.length

/-- A word is pushed into the transmit queue (R432). -/
def txqPush (s : State) (c : Fin 8) (w : Word) : State :=
  let h := s.chan c
  let last := w.bit 30
  if h.dropping then s.modCan c fun h => { h with dropping := !last }
  else if 256 ≤ s.txqWords c then
    let s := s.modCan c fun h => { h with push := [], dropping := !last }
    ((s.raise (R.NET_CH_FLG c.val) F.NET_CH_FLG_TXQOVF).raise R.NET_STAT F.NET_STAT_TXQOVF).fire 213
  else
    let l := h.push ++ [w]
    if last then
      (s.modCan c fun h =>
        { h with push := [], txq := h.txq.push ⟨(l.headD 0).bits 27 24, l⟩ }).netLoad c
    else s.modCan c fun h => { h with push := l }

/-- A word pushed into a transmit queue ends a packet that does not follow R432 (R449), or that a quiet module sends under the pair's
address (R501). -/
def pushBad (s : State) (c : Fin 8) (w : Word) : Bool :=
  let h := s.chan c
  let f := pushedFrame (h.push ++ [w])
  w.bit 30 && !h.dropping && decide (s.txqWords c < 256)
    && (!pushedOk (h.push ++ [w])
      || (s.quiet && f.ext && s.ownSa c.val != 0xFE && f.id.toNat % 256 == s.ownSa c.val))

/-- The transmit queue is flushed (R12, R434). -/
def txqFlush (s : State) (c : Fin 8) : State :=
  s.modCan c fun h => { h with txq := .empty, push := [], dropping := false }

/-! ### Receive queue -/

/-- A received frame is queued, or dropped whole (R428, R429). -/
def rxQueue (s : State) (c : Fin 8) (f : CanFrame) (sof : Word) (flt : Option Nat) (prio : Nat) : State :=
  let p := rxPacket c.val f sof flt prio
  if 2048 < s.net.rxq.words + p.length then (s.raise R.NET_STAT F.NET_STAT_RXQOVF).fire 212
  else
    let was := s.net.rxq.count
    (s.modNet fun n => { n with rxq := n.rxq.push ⟨prio, p⟩ }).fireIf (was == 0) 211

/-- A read of the receive queue (R9, R12). -/
def rxPop (s : State) : Word × State :=
  match s.net.rxq.pop with
  | some (w, q) => (w, s.modNet fun n => { n with rxq := q })
  | none => (0, s)

/-! ### Reference messages (R436 to R438) -/

/-- RPER in ms; 0 acts as 1. -/
def rper (s : State) : Nat := max 1 (s.fld R.NET_TM F.NET_TM_RPER)

/-- What channel `c` holds of a reference message, but for one on the bus, is dropped. -/
def refDrop (s : State) (c : Fin 8) : State :=
  let s := s.modCan c fun h => { h with refWait := none }
  match (s.chan c).buf[0] with
  | some x => if x.src = .reference && !x.active then s.setBuf c 0 none else s
  | none => s

/-- The module begins or stops acting as time master (R436, R437). -/
def setMaster (s : State) (on : Bool) : State :=
  if s.timeMaster = on then s
  else
    let s := s.setFld R.NET_TMST F.NET_TMST_ACT (Word.ofBool on)
    let s := (s.modNet fun n => { n with unsent := [] })
    let s := forFin 8 (fun c s => (s.refDrop c).modCan c fun h => { h with refSof := none }) s
    (s.fire 209).netLoadAll

/-- The module begins acting other than at the commit of MASTER (R436). -/
def takeMaster (s : State) : State :=
  if s.timeMaster then s
  else ((s.modNet fun n => { n with stood := false }).raise R.NET_STAT F.NET_STAT_TMTAKE).setMaster true

/-- Channels that CHMASK names no longer carry no reference message: TB0 is the transmit queue's (R430). -/
def refLeave (s : State) : State :=
  (forFin 8 (fun c s => if s.refChan c.val then s else s.refDrop c)
    (s.modNet fun n => { n with unsent := n.unsent.filter s.refChan })).netLoadAll

/-- A write of `NET_TM` (R430, R436; log entry 61). -/
def timeWrite (s : State) (w : Word) : State :=
  let was := s.fld R.NET_TM F.NET_TM_ROLE
  let stood := s.net.stood
  let s := (s.setReg R.NET_TM w).modNet fun n => { n with stood := false }
  let role := s.fld R.NET_TM F.NET_TM_ROLE
  let s := if role = 1 then s.setMaster true
    else if role = 2 then
      if stood then s.takeMaster else if was = 2 then s else s.setMaster false
    else s.setMaster false
  s.refLeave

/-- Silence of the reference messages makes a backup, or a module that stood down, act (R436, R443). -/
def refSilence (s : State) : State :=
  if s.mode != .off && !s.timeMaster && (s.fld R.NET_TM F.NET_TM_ROLE = 2 || s.net.stood) then s.takeMaster else s

/-- The reference message of channel `c` (R437). -/
def refFrame (s : State) (c : Fin 8) : CanFrame :=
  let prio := s.fld R.NET_TM F.NET_TM_PRIO
  { ext := false, id := BitVec.ofNat 29 ((s.fld R.NET_TM F.NET_TM_ID * 8 + prio) * 2 ^ 18), fdf := false, brs := false
    rtr := false, esi := false, dlc := 8
    data := BitVec.ofNat 8 (s.fld R.NET_TMST F.NET_TMST_CYCLE) :: BitVec.ofNat 8 prio :: leBytes 2 s.rper
      ++ leBytes 4 (match (s.chan c).refSof with | some t => t.toNat | none => 0xFFFFFFFF) }

/-- A received frame is a reference message of another master with this module's own PRIO while it acts: a host mistake (R449). -/
def refClash (s : State) (c : Fin 8) (f : CanFrame) : Bool :=
  let base := f.id.toNat / 2 ^ 18
  s.canOn c && !s.busOff c && s.timeMaster && s.refChan c.val && !f.ext && !f.rtr
    && (!f.fdf || s.bit (R.NET_CH_CFG c.val) F.NET_CH_CFG_FDE)
    && base / 8 == s.fld R.NET_TM F.NET_TM_ID && base % 8 == s.fld R.NET_TM F.NET_TM_PRIO

/-- A reference message was replaced before it was sent (R438). -/
def refMiss (s : State) : State := (s.countUp R.NET_TMST F.NET_TMST_REFMISS).raise R.NET_STAT F.NET_STAT_REFMISS

/-- The reference messages of a period become due (R437, R438); none in OFF (R443). -/
def refDue (s : State) : State :=
  if !s.timeMaster || s.mode = .off then s
  else
    let chans := (List.range 8).filter s.refChan
    let s := s.modNet fun n => { n with unsent := chans }
    let s := chans.foldl (fun s k =>
      let c := fin 8 k
      let f := s.refFrame c
      let s := if (s.chan c).refWait.isSome then s.refMiss else s
      match (s.chan c).buf[0] with
      | some x =>
        if x.src = .reference && !x.active then
          ((s.setBuf c 0 (some { x with frame := f })).modCan c fun h => { h with refWait := none }).refMiss
        else s.modCan c fun h => { h with refWait := some f }
      | none => (s.modCan c fun h => { h with refWait := some f }).netLoad c) s
    s.setFld R.NET_TMST F.NET_TMST_CYCLE (s.fld R.NET_TMST F.NET_TMST_CYCLE + 1)

/-- A reference message was sent on channel `c` with this SOF (R437). -/
def refSent (s : State) (c : Fin 8) (sof : Word) : State :=
  let s := (s.setReg (R.NET_CH_REFT c.val) sof).modCan c fun h => { h with refSof := some sof }
  let was := s.net.unsent
  let s := s.modNet fun n => { n with unsent := n.unsent.filter (· != c.val) }
  s.fireIf (was.contains c.val && s.net.unsent == []) 208

/-- A reference message is received on channel `c` (R436, R437). -/
def refReceived (s : State) (c : Fin 8) (prio : Nat) (sof : Word) : State :=
  let s := s.setReg (R.NET_CH_REFT c.val) sof
  if s.timeMaster && prio < s.fld R.NET_TM F.NET_TM_PRIO then
    let s := (s.raise R.NET_STAT F.NET_STAT_TMCONF).fire 210
    (s.modNet fun n => { n with stood := true }).setMaster false
  else s

/-! ### Ethernet (R439 to R442) -/

/-- Port `p` changed by `f`. -/
def modEth (s : State) (p : Fin 2) (f : EthPort → EthPort) : State :=
  s.modNet fun n => { n with eth := vupd n.eth p f }

/-- Port `p` is on, and the unit runs (R443); after a clock fault the pads of the ports stay idle (R34). -/
def ethOn (s : State) (p : Fin 2) : Bool := s.mode != .off && !s.clk.fault && s.bit (R.NET_ETH_CFG p.val) F.NET_ETH_CFG_EN

/-- Descriptors of the ring register `r`, and the address of its descriptor `i` (R441). -/
def ringLen (s : State) (r : Nat) : Nat := (s.reg r).bits 31 20
def ringAddr (s : State) (r i : Nat) : Nat := 0x20000000 + (s.reg r).bits 19 3 * 8 + 8 * i

/-- The timestamp of a frame of IEEE 802.1AS event messages is captured: the network time of its start-of-frame delimiter (R442). -/
def ethStamp (s : State) (p : Fin 2) (sent : Bool) (ns8 : Nat) (sfd : Word) (bytes : List Byte) : State :=
  let at' (i : Nat) : Nat := (bytes.getD i 0).toNat
  if at' 12 = 0x88 && at' 13 = 0xF7 && at' 14 % 16 ≤ 3 then
    match s.net.eth[p].tag with
    | some t => s.modEth p fun e => { e with tag := some (t ||| Word.field 29 29 1) }
    | none =>
      let t : Word := Word.field 31 31 1 ||| Word.field 30 30 (Word.ofBool sent) ||| Word.field 25 16 (8 * ns8)
        ||| Word.field 15 0 (at' 44 * 256 + at' 45)
      ((s.setReg (R.NET_ETH_TSUS p.val) sfd).modEth p fun e => { e with tag := some t }).fire 222
  else s

/-- A read of the timestamp tag (R9, R442). -/
def ethTagRead (s : State) (p : Fin 2) : Word × State :=
  match s.net.eth[p].tag with
  | some t => (t, s.modEth p fun e => { e with tag := none })
  | none => (0, s)

/-- Port `p` takes a frame of these bytes: its own station address, broadcast, multicast with MCAST, or any with PROM, of 2,000
bytes at most (R439; byte 0 of an address lies in bits 7:0, and a longer frame is not taken: log entry 173). -/
def ethTakes (s : State) (p : Fin 2) (bytes : List Byte) : Bool :=
  let cfg := R.NET_ETH_CFG p.val
  let dst := bytes.take 6
  let own := leBytes 4 (s.nreg (R.NET_ETH_MAC0 p.val)) ++ leBytes 2 (s.nreg (R.NET_ETH_MAC1 p.val))
  decide (bytes.length ≤ 2000)
    && (dst == own || dst == List.replicate 6 0xFF || ((bytes.getD 0 0).getLsbD 0 && s.bit cfg F.NET_ETH_CFG_MCAST)
      || s.bit cfg F.NET_ETH_CFG_PROM)

/-- An Ethernet frame is received (R439, R441). -/
def ethReceive (s : State) (p : Fin 2) (f : EthFrame) : State :=
  let cnt := R.NET_ETH_CNT p.val
  if !s.ethOn p || !s.ethTakes p f.bytes then s
  else
    let s := if f.err then s.countUp cnt F.NET_ETH_CNT_RXERR else s
    let ring := R.NET_ETH_RXR p.val
    let i := s.fld (R.NET_ETH_IDX p.val) F.NET_ETH_IDX_RXNEXT
    let d := s.ringAddr ring i
    let w1 := s.word (d + 4)
    let s := if f.err then s else s.ethStamp p false f.ns8.val f.sfd f.bytes
    if s.ringLen ring = 0 || !w1.bit 31 then (s.countUp cnt F.NET_ETH_CNT_RXDROP).fire 223
    else
      let room := w1.bits 15 0
      let n := f.bytes.length
      let s := s.setBytes (s.word d).toNat (f.bytes.take room)
      let s := s.setWord (d + 4)
        (((w1.setBits 15 0 n).setBits 29 29 (Word.ofBool (f.err || decide (room < n)))).setBits 31 31 0)
      (s.setFld (R.NET_ETH_IDX p.val) F.NET_ETH_IDX_RXNEXT ((i + 1) % s.ringLen ring)).fire 220

/-- The descriptor that is next to be sent is the port's. -/
def ethOwned (s : State) (p : Fin 2) : Bool :=
  let ring := R.NET_ETH_TXR p.val
  s.ringLen ring != 0 && (s.word (s.ringAddr ring (s.fld (R.NET_ETH_IDX p.val) F.NET_ETH_IDX_TXNEXT) + 4)).bit 31

/-- The descriptor in turn has been sent (R441, R442); one of more than 2,000 bytes never is (R439, log entry 173). -/
def ethSent (s : State) (p : Fin 2) (ns8 : Nat) (sfd : Word) : State :=
  let ring := R.NET_ETH_TXR p.val
  let i := s.fld (R.NET_ETH_IDX p.val) F.NET_ETH_IDX_TXNEXT
  let d := s.ringAddr ring i
  let w1 := s.word (d + 4)
  if !(s.net.eth[p].sending && s.ethOwned p && s.ethOn p && decide (w1.bits 15 0 ≤ 2000)) then s
  else
    let s := if w1.bit 30 then s.ethStamp p true ns8 sfd (s.bytes (s.word d).toNat (w1.bits 15 0)) else s
    let s := (s.setWord (d + 4) (w1.setBits 31 31 0)).fire 221
    let s := s.setFld (R.NET_ETH_IDX p.val) F.NET_ETH_IDX_TXNEXT ((i + 1) % s.ringLen ring)
    s.modEth p fun e => { e with sending := s.ethOwned p }

/-- The speed at which port `p` seeks its link is 100BASE-T1 (R440). -/
def ethSlow (s : State) (p : Fin 2) : Bool :=
  match s.fld (R.NET_ETH_CFG p.val) F.NET_ETH_CFG_SPEED with | 0 => false | 1 => true | _ => s.net.eth[p].try100

/-- A port's link comes up, at the speed the port seeks, or goes down; then a port in fallback begins again with 1000BASE-T1
(R440). SPD100 stands while the link is down (log entry 174). -/
def ethLink (s : State) (p : Fin 2) (up spd100 : Bool) : State :=
  let st := R.NET_ETH_ST p.val
  let was := s.bit st F.NET_ETH_ST_LINK
  if up then
    if !s.ethOn p || spd100 != s.ethSlow p then s
    else ((s.setFld st F.NET_ETH_ST_LINK 1).setFld st F.NET_ETH_ST_SPD100 (Word.ofBool spd100)).fireIf (!was) 219
  else if s.mode = .off then s
  else ((s.setFld st F.NET_ETH_ST_LINK 0).modEth p fun e => { e with try100 := false }).fireIf was 219

/-- After 2 s without link a port in fallback tries the other speed (R440). -/
def ethFallback (s : State) (p : Fin 2) : State :=
  if s.ethOn p && s.fld (R.NET_ETH_CFG p.val) F.NET_ETH_CFG_SPEED = 2 && !s.bit (R.NET_ETH_ST p.val) F.NET_ETH_ST_LINK then
    s.modEth p fun e => { e with try100 := !e.try100 }
  else s

/-! ### What the registers read as -/

/-- What the state registers of the network read as (R445, R446). -/
def netView (s : State) (r : Nat) : Option Word :=
  if r = R.NET_RXQST then some (Word.field 27 16 s.net.rxq.words ||| Word.field 9 0 s.net.rxq.count)
  else if R.NET_CH_CFG 0 ≤ r && r < R.NET_CH_CFG 8 then
    let c := fin 8 ((r - R.NET_CH_CFG 0) / 0x40)
    let tb (b : Fin 3) : Word := match (s.chan c).buf[b] with
      | none => 0
      | some x => Word.field 31 30 (if x.active then 2 else 1) ||| Word.field 29 29 (Word.ofBool x.frame.ext)
          ||| x.frame.id.setWidth 32
    if r = R.NET_CH_TXQST c.val then
      some (Word.field 24 16 (s.txqWords c) ||| Word.field 7 0 (s.chan c).txq.count)
    else if r = R.NET_CH_TB c.val 0 then some (tb 0)
    else if r = R.NET_CH_TB c.val 1 then some (tb 1)
    else if r = R.NET_CH_TB c.val 2 then some (tb 2)
    else none
  else none

end State

/-- CAN_ERROR (R425). -/
def execCanError (c : Fin 8) (step : CanStep) (b : Option (Fin 3)) (pxe : Bool) (s : State) :
    Host.Outcome State Fault Refusal := .next (s.canError c step b pxe)

/-- BUS_OFF_RECOVERY_END (R425). -/
def execBusOffRecoveryEnd (c : Fin 8) (s : State) : Host.Outcome State Fault Refusal := .next (s.recoveryEnd c)

/-- RECOVERY_REQUEST: a write of `NET_CHc_TXCTL.REC` (R425). -/
def execRecoveryRequest (c : Fin 8) (s : State) : Host.Outcome State Fault Refusal :=
  .next (if s.busOff c then s.modCan c fun h => { h with recovering := true } else s)

/-- TXQ_PUSH (R432); a whole packet that breaks the layout, or one of a quiet module under the pair's address, is a host mistake (R449,
R501). -/
def execTxqPush (c : Fin 8) (word : Word) (s : State) : Host.Outcome State Fault Refusal :=
  if s.pushBad c word then .fault .hostMistake else .next (s.txqPush c word)

/-- TX_CANCEL (R433): the outcome is judged on the buffers as they stood before any is loaded again. -/
def execTxCancel (c : Fin 8) (mask : BitVec 3) (s : State) : Host.Outcome State Fault Refusal :=
  .next ((forFin 3 (fun b s => if mask.getLsbD b.val then s.txCancel c b else s) s).netLoad c)

/-- REFERENCE_MESSAGE_DUE (R437, R438). -/
def execReferenceMessageDue (s : State) : Host.Outcome State Fault Refusal := .next s.refDue

/-- REFERENCE_SILENCE_TIMEOUT (R436). -/
def execReferenceSilenceTimeout (s : State) : Host.Outcome State Fault Refusal := .next s.refSilence

/-- TIME_MASTER_WRITE (R436); reserved bits written as one are a host mistake (R8, R445). -/
def execTimeMasterWrite (value : Word) (s : State) : Host.Outcome State Fault Refusal :=
  if value.bits 29 27 ≠ 0 then .fault .hostMistake else .next (s.timeWrite value)

/-- ETH_FRAME_RECEIVED (R441, R442). -/
def execEthFrameReceived (p : Fin 2) (f : EthFrame) (s : State) : Host.Outcome State Fault Refusal :=
  .next (s.ethReceive p f)

/-- ETH_TXGO (R441). -/
def execEthTxgo (p : Fin 2) (s : State) : Host.Outcome State Fault Refusal :=
  .next (s.modEth p fun e => { e with sending := s.ethOn p && s.ethOwned p })

/-- ETH_FRAME_SENT (R441, R442). -/
def execEthFrameSent (p : Fin 2) (ns8 : Fin 125) (sfd : Word) (s : State) : Host.Outcome State Fault Refusal :=
  .next (s.ethSent p ns8.val sfd)

/-- ETH_LINK_CHANGE (R440). -/
def execEthLinkChange (p : Fin 2) (up spd100 : Bool) (s : State) : Host.Outcome State Fault Refusal :=
  .next (s.ethLink p up spd100)

/-- ETH_SPEED_FALLBACK (R440). -/
def execEthSpeedFallback (p : Fin 2) (s : State) : Host.Outcome State Fault Refusal := .next (s.ethFallback p)

/-- ARBITRATION_LOSS (R422, R431, R433). -/
def execArbitrationLoss (c : Fin 8) (b : Fin 3) (s : State) : Host.Outcome State Fault Refusal :=
  .next (if s.canOn c then s.bufAgain c b else s)

end Sys2Proof.Machine
end

