-- ==== Sys2Proof/Machine/Cnv.lean ====
section
/-!
DEFINITION. The conversation engine (R450 to R474): starting, windows, acknowledgements, receiving, failures, endings
and completions of transport sessions.
-/

namespace Sys2Proof.Machine
namespace State

/-! ### Queuing frames -/

/-- Channel of session `n`. -/
def sesChan (s : State) (n : Nat) : Fin 8 := fin 8 (s.recCh n)

/-- A control frame is queued for session `n` (256: none) on channel `c`; Tr runs for it (R453, R460). -/
def queueControl (s : State) (c : Fin 8) (n : Nat) (f : CanFrame) : State :=
  let s := s.modCan c fun h => { h with control := h.control ++ [(n, f)] }
  (if n < 256 then s.startTimer n 1 else s).netLoad c

/-- A control frame of session `n` to its peer. -/
def sesControl (s : State) (n : Nat) (data : List Byte) : State := s.queueControl (s.sesChan n) n (s.sesFrame n data)

/-- A CTS of session `n` for `count` packets from `next` on (R459); the extended form carries a longer number. -/
def sendCts (s : State) (n count next : Nat) : State :=
  if s.recEtp n then s.sesControl n (0x15 :: leBytes 1 count ++ leBytes 3 next)
  else s.sesControl n (0x11 :: leBytes 1 count ++ leBytes 1 next ++ [0xFF, 0xFF])

/-- An Abort frame of reason `reason` leaves for `peer` (R461, R472). -/
def sendAbort (s : State) (c : Fin 8) (prio peer : Nat) (etp : Bool) (reason pgn : Nat) : State :=
  let f := s.controlFrame c.val prio peer etp (0xFF :: leBytes 1 reason ++ [0xFF, 0xFF, 0xFF] ++ leBytes 3 pgn)
  (s.countUp R.CNV_CNT F.CNV_CNT_ABTX).queueControl c 256 f

/-- Session `n` may load its next data frame. -/
def sesReady (s : State) (n : Nat) : State := (s.modSes n fun x => { x with ready := true }).netLoad (s.sesChan n)

/-- The frames of session `n` that have not started are taken out of the channel's queue and buffer. -/
def withdraw (s : State) (n : Nat) : State :=
  let c := s.sesChan n
  let s := (s.modSes n fun x => { x with ready := false }).modCan c fun h =>
    { h with control := h.control.filter fun p => p.1 != n }
  match (s.chan c).buf[1] with
  | some x => if !x.active && (x.src = .control n || x.src = .bulk n) then s.setBuf c 1 none else s
  | none => s

/-! ### Endings (R463, R464) -/

/-- A completion is queued, or dropped whole (R464). -/
def cplPush (s : State) (n kind status reason : Nat) : State :=
  let prio := if kind = 1 || kind = 2 then 0 else 1
  let p := tagPlain prio [kind * 2 ^ 20 + status * 256 + n, s.recSize n, s.recPeer n * 256 + reason]
  if 384 < s.cnv.queue.words + 3 then (s.raise R.CNV_STAT F.CNV_STAT_CPLOVF).fire 225
  else
    let was := s.cnv.queue.count
    ({ s with cnv := { s.cnv with queue := s.cnv.queue.push ⟨prio, p⟩ } }).fireIf (was == 0) 224

/-- Session `n` ends (R463): KIND, status and reason; a receive context with KEEP closes after KIND 0 (R459). -/
def sesEnd (s : State) (n kind : Nat) (st : Status) (reason : Nat) : State :=
  let c := s.sesChan n
  let s := (s.withdraw n).startTimer n 0
  let s := ((s.setRec n 5 31 24 st.code).setRec n 5 23 16 reason).setRec n 5 7 7 0
  let keep := kind == 0 && s.recKind n == 2 && s.recBits n 0 13 13 == 1
  let s := (s.setState n (if keep then 6 else 0)).cplPush n kind st.code reason
  let s :=
    if kind = 0 then s.fire (if s.recKind n = 2 then 227 else 226)
    else if kind = 3 then s else (s.raise R.CNV_STAT F.CNV_STAT_FAILED).fire 228
  (s.fireIf keep 231).netLoad c

/-- Session `n` completes (R463). -/
def sesComplete (s : State) (n : Nat) : State :=
  s.sesEnd n 0 (if s.recBits n 5 6 6 = 1 then .retriedOk else .ok) 0

/-- Session `n` ends with an Abort frame of this reason (R461). -/
def sesAbort (s : State) (n kind : Nat) (st : Status) (reason : Nat) : State :=
  let c := s.sesChan n
  let etp := s.recEtp n
  let prio := s.recPrio n
  let peer := s.recPeer n
  let pgn := (s.ses n).pgn
  (s.sesEnd n kind st reason).sendAbort c prio peer etp reason pgn

/-- A failure of session `n` (R461): the first uses its one retry and is answered by `again`, the next is lasting. -/
def sesFail (s : State) (n : Nat) (again lasting : State → State) : State :=
  if s.recBits n 5 6 6 = 1 then lasting s
  else
    again ((((s.setRec n 5 6 6 1).countUp R.CNV_CNT F.CNV_CNT_RETRY).raise R.CNV_STAT F.CNV_STAT_RETRY).fire 229)

/-- The lasting failure of `reason` with an Abort. -/
def sesLast (reason n : Nat) (s : State) : State := s.sesAbort n 1 .failedTwice reason

/-! ### Transmit sessions (R455 to R457) -/

/-- A start of session `n` meets the checks of R455 and R470; `engine` for `send`. -/
def startStatus (s : State) (n : Nat) (engine : Bool) : Status :=
  let size := s.recBits n 3 19 0
  let da := s.recDa n
  if s.recKind n ≠ 1 || size = 0 || s.recRoom n < size || (da = 0xFF && 1785 < size)
      || !s.bit (R.NET_CH_CFG (s.recCh n)) F.NET_CH_CFG_EN || (da ≠ 0xFF && s.ownSa (s.recCh n) = 0xFE)
      || (engine && s.recBits n 0 7 7 = 0) then .outOfRange
  else if s.recState n ≠ 0 || s.recShadow n || s.cnvQuiet then .busy
  else .ok

/-- The announcement of session `n` is queued. -/
def announce (s : State) (n : Nat) : State := s.queueControl (s.sesChan n) n (s.announceFrame n)

/-- Session `n` starts (R455, R456). -/
def sesStart (s : State) (n : Nat) : State :=
  let size := s.recBits n 3 19 0
  let da := s.recDa n
  let proto := if size ≤ 8 then 0 else if 1785 < size then 3 else if da = 0xFF then 2 else 1
  let s := ((((s.setRec n 5 15 8 da).setRec n 5 7 6 0).setRec n 5 5 4 proto).setNext n 1).setEnd n 0
  let s := ((s.setRec n 8 19 0 size).setRec n 11 31 0 s.now.toNat).setRec n 10 23 0 0
  let s := s.modSes n fun _ => { Session.reset with pgn := s.recPgn n, limit := 0 }
  if proto = 0 then ((s.setState n 2).startTimer n 5).sesReady n
  else (s.setState n (if proto = 2 then 2 else 1)).announce n

/-- A window from `next` to `last` opens (R457); extended transport announces it by a DPO (R456). -/
def openWindow (s : State) (n next last : Nat) : State :=
  let s := (((s.setNext n next).setEnd n last).setState n 2).startTimer n 0
  let s := s.modSes n fun x => { x with first := next }
  if s.recEtp n then
    let s := s.setRec n 10 23 0 (next - 1)
    s.sesControl n (0x16 :: leBytes 1 (last + 1 - next) ++ leBytes 3 (next - 1))
  else s.sesReady n

/-- The last frame of session `n` is sent again: the RTS, or the last frame of the window (R461). -/
def lastAgain (n : Nat) (s : State) : State :=
  if s.recEnd n = 0 then (s.setState n 1).announce n
  else (((s.setNext n (s.recEnd n)).setState n 2).startTimer n 0).sesReady n

/-- The transmit session that a frame from `peer` on channel `c` belongs to, if one is in progress. -/
def txSession (s : State) (c : Fin 8) (peer : Nat) (etp : Bool) (pgn : Nat) : Option Nat :=
  firstN 256 fun n =>
    s.recKind n == 1 && s.inProgress n && !s.recShadow n && s.recCh n == c.val && s.recPeer n == peer
      && s.recProto n == (if etp then 3 else 1) && (s.ses n).pgn == pgn

/-- The receive session in progress of these; `pgn` none: any group. -/
def rxSession (s : State) (c : Fin 8) (peer proto : Nat) (pgn : Option Nat) : Option Nat :=
  firstN 256 fun n =>
    s.recKind n == 2 && s.inProgress n && s.recCh n == c.val && s.recPeer n == peer && s.recProto n == proto
      && (match pgn with | some g => (s.ses n).pgn == g | none => true)

/-- A frame for no session in progress (R462). -/
def cnvBad (s : State) : State := s.countUp R.CNV_CNT2 F.CNV_CNT2_BAD

/-- A CTS (R457); a retransmission asked for beyond the last packet ends with it. -/
def cts (s : State) (c : Fin 8) (peer : Nat) (etp : Bool) (count next pgn : Nat) : State :=
  match s.txSession c peer etp pgn with
  | none => s.cnvBad
  | some n =>
    let total := s.recTotal n
    let out (s : State) : State := s.sesFail n id (sesLast 4 n)
    if s.recState n = 2 then out s
    else if count = 0 then ((s.setState n 3).startTimer n 6).modSes n fun x => { x with cts := some (0, next) }
    else if (s.ses n).cts = some (count, next) then s
    else
      let last := next + count - 1
      let take (s : State) : State :=
        (s.modSes n fun x => { x with cts := some (count, next) }).openWindow n next (min last total)
      if next = s.recNext n && last ≤ total then take s
      else if 1 ≤ next && next < s.recNext n then s.sesFail n take (sesLast 5 n)
      else out s

/-- An EOMA (R457). -/
def eoma (s : State) (c : Fin 8) (peer : Nat) (etp : Bool) (size pkts pgn : Nat) : State :=
  match s.txSession c peer etp pgn with
  | none => s.cnvBad
  | some n =>
    if size = s.recSize n && (etp || pkts = s.recTotal n) then s.sesComplete n
    else s.sesFail n id (sesLast 4 n)

/-! ### Receive sessions (R458, R459) -/

/-- The context that an announcement is matched to (R458). -/
def rxMatch (s : State) (c : Fin 8) (peer proto pgn : Nat) : Option Nat :=
  firstN 256 fun n =>
    s.recKind n == 2 && s.recState n == 0 && s.recCh n == c.val
      && s.recBits n 0 (match proto with | 3 => 12 | 2 => 11 | _ => 10) (match proto with | 3 => 12 | 2 => 11 | _ => 10) == 1
      && ((BitVec.ofNat 18 (s.recPgn n) ^^^ BitVec.ofNat 18 pgn) &&& BitVec.ofNat 18 (s.recBits n 2 17 0)) == 0
      && (s.recBits n 1 23 23 == 1 || s.recDa n == peer)

/-- The next window of receive session `n` opens by a CTS (R459). -/
def nextWindow (s : State) (n : Nat) : State :=
  let next := s.recNext n
  let count := min (min (s.recWin n) (s.ses n).limit) (s.recTotal n + 1 - next)
  let s := ((s.setState n 5).setEnd n (next + count - 1)).modSes n fun x => { x with ignoring := false, first := next }
  s.sendCts n count next

/-- Receive session `n` begins (R458, R459). -/
def rxBegin (s : State) (n peer proto size limit pgn : Nat) : State :=
  let s := (((s.setRec n 5 15 8 peer).setRec n 5 7 6 0).setRec n 5 5 4 proto).setNext n 1
  let s := ((s.setRec n 8 19 0 size).setRec n 11 31 0 s.now.toNat).setRec n 10 23 0 0
  let s := (s.modSes n fun _ => { Session.reset with pgn := pgn, limit := limit }).startTimer n 0
  if proto = 2 then (s.setState n 5).setEnd n (s.recTotal n) else s.nextWindow n

/-- An announcement is refused: no context, or too small a range (R458). -/
def rxRefuse (s : State) (c : Fin 8) (peer proto pgn : Nat) (oversize : Bool) : State :=
  let s := if oversize then s.countUp R.CNV_CNT2 F.CNV_CNT2_OVSZ
    else (s.countUp R.CNV_CNT2 F.CNV_CNT2_NOCTX).raise R.CNV_STAT F.CNV_STAT_NOCTX
  let s := s.fire 230
  if proto = 2 then s else s.sendAbort c 7 peer (proto == 3) (if oversize then 2 else 1) pgn

/-- An announcement meets the contexts (R458). -/
def rxAnnounce (s : State) (c : Fin 8) (peer proto size limit pgn : Nat) : State :=
  match s.rxMatch c peer proto pgn with
  | none => s.rxRefuse c peer proto pgn false
  | some n =>
    if s.recRoom n < size then s.rxRefuse c peer proto pgn true else s.rxBegin n peer proto size limit pgn

/-- The receive session in progress that an RTS from `peer` restarts: of any protocol, one of the RTS's own first (R462). -/
def rxEarlier (s : State) (c : Fin 8) (peer proto pgn : Nat) : Option Nat :=
  match [proto, 1, 2, 3].filterMap fun p => s.rxSession c peer p (some pgn) with
  | n :: _ => some n
  | [] => none

/-- An RTS or ETP RTS (R458, R462). -/
def rts (s : State) (c : Fin 8) (peer : Nat) (etp : Bool) (size limit pgn : Nat) : State :=
  let proto := if etp then 3 else 1
  match s.rxEarlier c peer proto pgn with
  | some n =>
    let s := s.withdraw n
    if s.recRoom n < size then ((s.startTimer n 0).setState n 0).rxRefuse c peer proto pgn true
    else s.rxBegin n peer proto size limit pgn
  | none => s.rxAnnounce c peer proto size limit pgn

/-- A BAM (R458, R462). -/
def bam (s : State) (c : Fin 8) (peer size pgn : Nat) : State :=
  let s := match s.rxSession c peer 2 none with
    | some n => s.sesEnd n 1 .outOfRange 0
    | none => s
  s.rxAnnounce c peer 2 size 255 pgn

/-- The last packet of the message has been stored (R459). -/
def rxFull (s : State) (n : Nat) : State :=
  if s.recProto n = 2 then s.sesComplete n
  else
    let s := s.startTimer n 0
    if s.recEtp n then s.sesControl n (0x17 :: leBytes 4 (s.recSize n))
    else s.sesControl n (0x13 :: leBytes 2 (s.recSize n) ++ leBytes 1 (s.recTotal n) ++ [0xFF])

/-- The receive session holds after a window: CTS(0), Th (R459). -/
def rxHold (s : State) (n : Nat) : State :=
  ((s.setState n 3).sendCts n 0 (s.recNext n)).fire 231

/-- Packet `k` is stored (R459). -/
def rxStore (s : State) (n k : Nat) (data : List Byte) : State :=
  let room := s.recSize n - 7 * (k - 1)
  (s.setBytes (s.msgAddr n (7 * (k - 1))) (data.take room)).modSes n fun x => { x with begun := true }

/-- A receive shadow stores a packet of the message that it hears (R468). -/
def shadowStore (s : State) (n k : Nat) (data : List Byte) : State :=
  if 1 ≤ k && k ≤ s.recTotal n then
    (s.rxStore n k data).modSes n fun x => { x with heard := if x.heard.contains k then x.heard else k :: x.heard }
  else s

/-- A data frame of receive session `n`, numbered `k` in the message (R459, R461, R462, R468). -/
def rxData (s : State) (n k : Nat) (data : List Byte) : State :=
  let next := s.recNext n
  if s.recShadow n then s.shadowStore n k data
  else if k < next then s.countUp R.CNV_CNT F.CNV_CNT_DUP
  else if s.recState n ≠ 5 then s
  else
    let bam := s.recProto n == 2
    let gap (s : State) : State :=
      let s := (s.modSes n fun x => { x with ignoring := true }).startTimer n 3
      if s.recEnd n ≤ k then s.nextWindow n else s
    if (s.ses n).ignoring then gap s
    else if k = next then
      let s := ((s.rxStore n k data).setNext n (k + 1)).startTimer n 3
      if k = s.recTotal n then s.rxFull n
      else if !bam && k = s.recEnd n then
        if s.recBits n 0 9 9 = 1 then s.rxHold n else s.nextWindow n
      else s
    else if bam then s.sesEnd n 1 .outOfRange 7
    else s.sesFail n gap (sesLast 5 n)

/-- A data frame from `peer` (R452, R459, R462). -/
def dataFrame (s : State) (c : Fin 8) (peer : Nat) (global etp : Bool) (seq : Nat) (data : List Byte) : State :=
  match s.rxSession c peer (if global then 2 else if etp then 3 else 1) none with
  | none => s.cnvBad
  | some n => s.rxData n (if etp then s.recBits n 10 23 0 + seq else seq) data

/-- A received data frame joins the input queue of the bulk path, or is dropped where that is full (R467). -/
def bulkQueue (s : State) (f : BulkIn) : State :=
  if 64 ≤ s.cnv.input.length then s else { s with cnv := { s.cnv with input := s.cnv.input ++ [f] } }

/-- CORE clocks the bulk path spends on a frame: 2 µs, doubled by each throttle level (R389, R467). -/
def bulkClocks (s : State) : Nat := 500 * 2 ^ s.fld R.SYS_THTHR F.SYS_THTHR_LEVEL

/-- A CORE clock of the bulk path: where it is free it takes the oldest received data frame (R467). -/
def bulkTick (s : State) : State :=
  match s.cnv.bulk with
  | n + 1 => { s with cnv := { s.cnv with bulk := n } }
  | 0 =>
    match s.cnv.input with
    | [] => s
    | f :: rest =>
      { s with cnv := { s.cnv with input := rest, bulk := s.bulkClocks - 1 } }.dataFrame f.ch f.peer f.all f.etp f.seq f.data

/-- A DPO (R460). -/
def dpo (s : State) (c : Fin 8) (peer offset pgn : Nat) : State :=
  match s.rxSession c peer 3 (some pgn) with
  | none => s.cnvBad
  | some n =>
    let s := s.setRec n 10 23 0 offset
    if s.recTimer n = 4 then s.startTimer n 0 else s

/-- An Abort from the peer (R462, R463). -/
def tpAbort (s : State) (c : Fin 8) (peer : Nat) (etp : Bool) (reason pgn : Nat) : State :=
  let found := match s.txSession c peer etp pgn with
    | some n => some n
    | none => s.rxSession c peer (if etp then 3 else 1) (some pgn)
  match found with
  | none => s.cnvBad
  | some n =>
    (s.countUp R.CNV_CNT F.CNV_CNT_ABRX).sesEnd n 2 (if reason = 1 && !(s.ses n).begun then .busy else .outOfRange) reason

/-! ### Timers -/

/-- The reason of an ending for which none is stated: free (R463; log entry 62). -/
def freeReason (s : State) : Nat := (Config.freeWord 463 s.freeCount).bits 7 0

/-- The running timer of session `n` expires (R456, R460, R461). Th has no failure. -/
def timerExpiry (s : State) (n : Nat) : State :=
  if !s.inProgress n || s.recShadow n then s
  else
    match s.recTimer n with
    | 1 =>
      let again (s : State) : State :=
        let c := s.sesChan n
        let held := match (s.chan c).buf[1] with
          | some x => if !x.active && x.src = .control n then [x.frame] else []
          | none => []
        let l := held ++ ((s.chan c).control.filter fun p => p.1 == n).map (·.2)
        match l with
        | f :: _ => (s.withdraw n).queueControl c n f
        | [] => s.startTimer n 0
      s.sesFail n again fun s => s.sesEnd n 1 .failedTwice 3
    | 3 | 4 =>
      if s.recProto n = 2 then (s.sesEnd n 1 .timeout s.freeReason).takeFree
      else if (s.ses n).ignoring then s.nextWindow n
      else s.sesFail n (fun s => s.nextWindow n) (sesLast 3 n)
    | 5 | 6 =>
      if s.recProto n = 0 then (s.sesEnd n 1 .timeout s.freeReason).takeFree
      else s.sesFail n (lastAgain n) (sesLast 3 n)
    | _ => s

/-- A session in HOLD as receiver repeats CTS(0) (R459). -/
def cts0Repeat (s : State) (n : Nat) : State :=
  if s.recKind n = 2 && s.recState n = 3 && !s.recShadow n then s.sendCts n 0 (s.recNext n) else s

/-- BAMGAP has passed since the previous frame (R456). -/
def bamGap (s : State) (n : Nat) : State :=
  if s.recKind n = 1 && s.recProto n = 2 && s.recState n = 2 && !s.recShadow n then s.sesReady n else s

/-! ### Frames that start and are sent -/

/-- The SOF of a control frame of session `n` stops Tr; in HOLD as receiver Th runs (R459, R460). -/
def controlSof (s : State) (n : Nat) : State :=
  if n < 256 && s.recTimer n = 1 then s.startTimer n (if s.recKind n = 2 && s.recState n = 3 then 2 else 0) else s

/-- A control frame of session `n` has been sent: timers, the data behind a DPO, and the end of a reception (R456,
R459, R460). -/
def controlSent (s : State) (n : Nat) (f : CanFrame) : State :=
  if 256 ≤ n || !s.inProgress n then s
  else
    match (f.data.headD 0).toNat with
    | 0x10 | 0x14 => s.startTimer n 5
    | 0x16 => s.sesReady n
    | 0x11 | 0x15 => if s.recState n = 5 then s.startTimer n 4 else s
    | 0x13 | 0x17 => s.sesComplete n
    | _ => s

/-- A data or single frame of session `n` has been sent (R456, R457). -/
def bulkSent (s : State) (n : Nat) : State :=
  if !s.inProgress n then s
  else if s.recProto n = 0 then s.sesComplete n
  else
    let k := s.recNext n
    let s := (s.setNext n (k + 1)).modSes n fun x => { x with begun := true }
    if s.recProto n = 2 then if k = s.recTotal n then s.sesComplete n else s
    else if k < s.recEnd n then s.sesReady n
    else (s.setState n (if k = s.recTotal n then 4 else 1)).startTimer n 5

/-! ### Commands -/

/-- The status of a session command (R455, R473). -/
def cmdStatus (s : State) (n : Nat) (st : Status) : State :=
  (s.setReg R.CNV_CMDST (Word.field 15 8 n ||| Word.field 7 0 st.code)).fire 232

/-- START (R455). -/
def cnvStart (s : State) (n : Nat) : State :=
  let st := s.startStatus n false
  (if st = .ok then s.sesStart n else s).cmdStatus n st

/-- ABORT (R463, R470, R472). -/
def cnvAbort (s : State) (n : Nat) : State :=
  (if !s.inProgress n || s.recShadow n then s
   else if s.recProto n = 1 || s.recProto n = 3 then s.sesAbort n 3 .ok 2
   else s.sesEnd n 3 .ok 0).cmdStatus n .ok

/-- RELEASE (R459, R470). -/
def cnvRelease (s : State) (n : Nat) : State :=
  (if s.recState n = 6 then s.setState n 0
   else if s.recKind n = 2 && s.recState n = 3 && !s.recShadow n then (s.withdraw n).nextWindow n
   else s).cmdStatus n .ok

/-- A channel's address changes (R466). -/
def addressChange (s : State) (c : Fin 8) (addr : Nat) : State :=
  let r := if c.val < 4 then R.CNV_SA0 else R.CNV_SA1
  let lo := c.val % 4 * 8
  if s.ownSa c.val = addr then s
  else
    let s := s.setReg r ((s.reg r).setBits (lo + 7) lo addr)
    forN 256 (fun n s => if s.inProgress n && s.recCh n = c.val then s.sesEnd n 3 .ok 0 else s) s

/-- EN commits to 1: every record is IDLE, words 5 to 11 cleared, and nothing of a session waits to be sent (R470). -/
def cnvEnable (s : State) : State :=
  let s := forN 256 (fun n s => forN 7 (fun k s => s.setWord (recAddr n (5 + k)) 0) s) s
  let s := forN 256 (fun n s => s.modSes n fun x => { x with ready := false }) s
  let s := forFin 8 (fun c s => s.modCan c fun h => { h with control := [] }) s
  (s.setFld R.CNV_CFG F.CNV_CFG_EN 1).netLoadAll

/-- EN = 0: every session ends without a frame and without a completion (R470); no data frame waits any more. -/
def cnvDisable (s : State) : State :=
  let s := { s with cnv := { s.cnv with input := [] } }.setFld R.CNV_CFG F.CNV_CFG_EN 0
  let s := forN 256 (fun n s =>
    if s.inProgress n then (((s.withdraw n).startTimer n 0).setRec n 5 7 7 0).setState n 0 else s) s
  forFin 8 (fun c s =>
    let s := s.modCan c fun h => { h with control := [] }
    match (s.chan c).buf[1] with
    | some x => if !x.active && (match x.src with | .control _ | .bulk _ => true | _ => false)
        then (s.setBuf c 1 none).netLoad c else s
    | none => s) s

/-! ### Takeover (R469) -/

/-- The first of `n` packets from `k` on that is not in the list. -/
def firstMissing (l : List Nat) : Nat → Nat → Nat
  | 0, k => k
  | n + 1, k => if l.contains k then firstMissing l n (k + 1) else k

/-- A receive session taken over goes on from the first packet missing from the buffer (R469); one that misses none has all its
message. -/
def rxGoOn (s : State) (n : Nat) : State :=
  let s := s.setNext n (firstMissing (s.ses n).heard (s.recTotal n) 1)
  if s.recTotal n < s.recNext n then s.rxFull n
  else if s.recProto n = 2 then s.startTimer n 3
  else s.nextWindow n

/-- A shadow session goes on from the snapshot (R469): a window is sent again from its first packet. -/
def shadowGoOn (s : State) (n : Nat) : State :=
  let s := (s.setRec n 5 7 7 0).modSes n fun x => { x with ready := false, cts := none, ignoring := false }
  if s.recKind n = 1 then
    match s.recProto n with
    | 0 => (s.startTimer n 5).sesReady n
    | 2 => ((s.setNext n 1).setState n 2).announce n
    | _ => if s.recState n = 2 then s.openWindow n (max 1 (s.ses n).first) (s.recEnd n) else lastAgain n s
  else s.rxGoOn n

/-- QUIET clears on a takeover (R469). -/
def cnvTakeover (s : State) : State :=
  let s := s.setFld R.CNV_CFG F.CNV_CFG_QUIET 0
  let any := (List.range 256).any s.recShadow
  let s := forN 256 (fun n s => if s.recShadow n && s.inProgress n then s.shadowGoOn n else s) s
  (s.when any fun s => (s.raise R.CNV_STAT F.CNV_STAT_TAKEOVER).fire 234).netLoadAll

/-! ### What the registers read as -/

/-- A read of the completion queue (R9, R12). -/
def cplPop (s : State) : Word × State :=
  match s.cnv.queue.pop with
  | some (w, q) => (w, { s with cnv := { s.cnv with queue := q } })
  | none => (0, s)

/-- What the state registers of the engine read as (R451, R472); with EN = 0 no session runs, and none shows (R470, log entry
175). -/
def cnvView (s : State) (r : Nat) : Option Word :=
  if r = R.CNV_CPLST then some (Word.field 24 16 s.cnv.queue.words ||| Word.field 7 0 s.cnv.queue.count)
  else if R.CNV_ACT 0 ≤ r && r < R.CNV_ACT 8 then
    let k := (r - R.CNV_ACT 0) / 4
    some (BitVec.ofNat 32 (((List.range 32).filter fun j => s.cnvOn && s.inProgress (32 * k + j)).map (2 ^ ·)).sum)
  else none

/-- `f` is applied while the engine runs: enabled, not a listener (R468, R470). -/
def whenCnv (s : State) (f : State → State) : State :=
  if s.mode != .off && s.cnvOn && !s.cnvQuiet then f s else s

/-- The engine takes a transport frame of channel `c`: the channel is enabled, and a frame to its own address needs one (R422, R452,
R466). -/
def cnvHears (s : State) (c : Fin 8) (global : Bool) : Bool :=
  s.cnvOn && s.canOn c && (global || s.ownSa c.val != 0xFE)

/-- `f` is applied where a transport frame is taken, but by a listener (R468). -/
def whenHeard (s : State) (c : Fin 8) (global : Bool) (f : State → State) : State :=
  if s.cnvHears c global && !s.cnvQuiet then f s else s

end State

/-- CNV_START (R455). -/
def execCnvStart (ses : BitVec 8) (s : State) : Host.Outcome State Fault Refusal := .next (s.cnvStart ses.toNat)

/-- CNV_ABORT (R472). -/
def execCnvAbort (ses : BitVec 8) (s : State) : Host.Outcome State Fault Refusal := .next (s.cnvAbort ses.toNat)

/-- CNV_RELEASE (R459). -/
def execCnvRelease (ses : BitVec 8) (s : State) : Host.Outcome State Fault Refusal := .next (s.cnvRelease ses.toNat)

/-- RTS (R458). -/
def execRts (c : Fin 8) (peer : BitVec 8) (etp : Bool) (size : Word) (maxPkts : BitVec 8) (pgn : BitVec 18)
    (s : State) : Host.Outcome State Fault Refusal :=
  .next (s.whenHeard c false fun s => s.rts c peer.toNat etp size.toNat (if maxPkts = 0 then 255 else maxPkts.toNat) pgn.toNat)

/-- CTS (R457). -/
def execCts (c : Fin 8) (peer : BitVec 8) (etp : Bool) (count : BitVec 8) (next : BitVec 24) (pgn : BitVec 18)
    (s : State) : Host.Outcome State Fault Refusal :=
  .next (s.whenHeard c false fun s => s.cts c peer.toNat etp count.toNat next.toNat pgn.toNat)

/-- EOMA (R457). -/
def execEoma (c : Fin 8) (peer : BitVec 8) (etp : Bool) (size : Word) (pkts : BitVec 8) (pgn : BitVec 18) (s : State) :
    Host.Outcome State Fault Refusal :=
  .next (s.whenHeard c false fun s => s.eoma c peer.toNat etp size.toNat pkts.toNat pgn.toNat)

/-- BAM (R458). -/
def execBam (c : Fin 8) (peer : BitVec 8) (size : BitVec 16) (pgn : BitVec 18) (s : State) :
    Host.Outcome State Fault Refusal :=
  .next (s.whenHeard c true fun s => s.bam c peer.toNat size.toNat pgn.toNat)

/-- TP_ABORT (R462). -/
def execTpAbort (c : Fin 8) (peer : BitVec 8) (etp : Bool) (reason : BitVec 8) (pgn : BitVec 18) (s : State) :
    Host.Outcome State Fault Refusal :=
  .next (s.whenHeard c false fun s => s.tpAbort c peer.toNat etp reason.toNat pgn.toNat)

/-- DATA_FRAME (R459); a receive shadow of a listener stores it too (R468). -/
def execDataFrame (c : Fin 8) (peer : BitVec 8) (global etp : Bool) (seq : BitVec 8) (data : Vector Byte 7) (s : State) :
    Host.Outcome State Fault Refusal :=
  .next (if s.cnvHears c global then s.dataFrame c peer.toNat global etp seq.toNat data.toList else s)

/-- DPO (R460). -/
def execDpo (c : Fin 8) (peer : BitVec 8) (_count : BitVec 8) (offset : BitVec 24) (pgn : BitVec 18) (s : State) :
    Host.Outcome State Fault Refusal :=
  .next (s.whenHeard c false fun s => s.dpo c peer.toNat offset.toNat pgn.toNat)

/-- TRANSPORT_TIMER_EXPIRY (R461). -/
def execTransportTimerExpiry (ses : Fin 256) (s : State) : Host.Outcome State Fault Refusal :=
  .next (s.whenCnv fun s => s.timerExpiry ses.val)

/-- CTS0_REPEAT (R459). -/
def execCts0Repeat (ses : Fin 256) (s : State) : Host.Outcome State Fault Refusal :=
  .next (s.whenCnv fun s => s.cts0Repeat ses.val)

/-- BAM_GAP_EXPIRY (R456). -/
def execBamGapExpiry (ses : Fin 256) (s : State) : Host.Outcome State Fault Refusal :=
  .next (s.whenCnv fun s => s.bamGap ses.val)

/-- ADDRESS_CHANGE (R466). -/
def execAddressChange (c : Fin 8) (addr : BitVec 8) (s : State) : Host.Outcome State Fault Refusal :=
  .next (s.addressChange c addr.toNat)

/-- CNV_ENABLE (R470). -/
def execCnvEnable (s : State) : Host.Outcome State Fault Refusal := .next s.cnvEnable

/-- CNV_DISABLE (R470). -/
def execCnvDisable (s : State) : Host.Outcome State Fault Refusal := .next s.cnvDisable

end Sys2Proof.Machine
end

