-- ==== Sys2Proof/Machine/Gates.lean ====
section
/-!
DEFINITION. The section gate unit (R396 to R421): courses, section travel and speed, the evaluation, the gate protocol
with its failures, holds and restores, and reports.
-/

namespace Sys2Proof.Machine

/-- Kinds of a report (R415). -/
inductive GateKind where
  | fired | late | skipped | retriedOk | failedTwice | restored
  deriving DecidableEq, Repr

/-- The code and the priority of a kind (R415). -/
def GateKind.code : GateKind → Nat × Nat
  | .fired => (0, 2) | .late => (1, 1) | .skipped => (2, 1) | .retriedOk => (3, 2) | .failedTwice => (4, 0)
  | .restored => (5, 2)

namespace State

/-! ### Sections and courses (R396 to R398) -/

/-- What the unit keeps of section `i`. -/
def sec (s : State) (i : Nat) : GateSec := s.gte.sec[fin 256 i]

/-- The unit changed by `f`. -/
def modGte (s : State) (f : GteState → GteState) : State := { s with gte := f s.gte }

/-- Section `i` changed by `f`. -/
def modSec (s : State) (i : Nat) (f : GateSec → GateSec) : State :=
  s.modGte fun g => { g with sec := vupd g.sec (fin 256 i) f }

/-- `GTE_SECi_CFG` fields: enable, test, target. -/
def secOn (s : State) (i : Nat) : Bool := s.bit (R.GTE_SEC_CFG i) F.GTE_SEC_CFG_EN
def secTest (s : State) (i : Nat) : Bool := s.bit (R.GTE_SEC_CFG i) F.GTE_SEC_CFG_TEST
def secTgt (s : State) (i : Nat) : Nat := s.fld (R.GTE_SEC_CFG i) F.GTE_SEC_CFG_TGT

/-- Gates in the course of section `i`. -/
def secCount (s : State) (i : Nat) : Nat := s.fld (R.GTE_SEC_PTR i) F.GTE_SEC_PTR_COUNT

/-- Where the `n`-th gate from the head of section `i` lies (R397). -/
def gateAddr (s : State) (i n : Nat) : Nat :=
  let crs := R.GTE_SEC_CRS i
  0x25000000 + 8 * (s.fld crs F.GTE_SEC_CRS_BASE
    + (s.fld (R.GTE_SEC_PTR i) F.GTE_SEC_PTR_HEAD + n) % s.fld crs F.GTE_SEC_CRS_LEN)

/-- The `n`-th gate from the head of section `i`: position and second word (R398). -/
def gateAt (s : State) (i n : Nat) : Option (Word × Word) :=
  if n < s.secCount i then some (s.word (s.gateAddr i n), s.word (s.gateAddr i n + 4)) else none

/-- Section `i` follows the test travel (R413). -/
def secTesting (s : State) (i : Nat) : Bool := s.mode == .service && s.secTest i

/-- The travel of section `i` at the latest evaluation. -/
def secTravel (s : State) (i : Nat) : Word :=
  if s.secTesting i then s.reg R.GTE_TESTTRV else s.reg (R.GTE_SEC_TRV i)

/-- The speed of section `i`, Q16.16 tu per ms (R401, R413). -/
def secSpeed (s : State) (i : Nat) : Int :=
  if s.secTesting i then s.fld R.GTE_TEST F.GTE_TEST_SPD * 65536
  else tdiv (s.gte.vl + s.gte.vr) 2 + fdiv (s.sreg (R.GTE_SEC_K i) * (s.gte.vr - s.gte.vl)) 65536

/-- The lead at speed `v` (R402). -/
def leadAt (s : State) (i : Nat) (v : Int) : Int := tdiv (v * s.fld (R.GTE_SEC_CFG i) F.GTE_SEC_CFG_DLY) 655360

/-- The lead L_i of section `i` at the latest evaluation, for a gate with NODLY = 0 (R402). -/
def leadNow (s : State) (i : Nat) : Int :=
  let v := s.secSpeed i
  if v < s.fld R.GTE_CFG F.GTE_CFG_VMIN * 4096 || v ≤ 0 then 0 else s.leadAt i v

/-- Distance to a gate, lead, and the time to its command point in µs if one exists, at travel `trv` and speed `v`
(R402). -/
def predict (s : State) (i : Nat) (p w trv : Word) (v : Int) : Int × Int × Option Int :=
  let r := modDiff p trv
  if v < s.fld R.GTE_CFG F.GTE_CFG_VMIN * 4096 || v ≤ 0 then (r, 0, none)
  else
    let lead := if w.bit 10 then 0 else s.leadAt i v
    (r, lead, some (tdiv ((r - lead) * 65536000) v))

/-- The same at the latest evaluation. -/
def predictNow (s : State) (i : Nat) (g : Word × Word) : Int × Int × Option Int :=
  s.predict i g.1 g.2 (s.secTravel i) (s.secSpeed i)

/-- The command point of a gate is reached. -/
def gateDue (s : State) (i : Nat) (g : Word × Word) : Bool :=
  let (r, lead, _) := s.predictNow i g
  decide (r ≤ lead)

/-- A gate served now is late (R404): r ≤ L_i held for it at the previous evaluation at which its section was eligible,
with the lead of that time, or the section became eligible past it. -/
def gateLate (s : State) (i : Nat) (g : Word × Word) : Bool :=
  match (s.sec i).prev with
  | some (trv, lead) => decide (modDiff g.1 trv ≤ if g.2.bit 10 then 0 else lead)
  | none => true

/-- A time `q` µs from now, in network time. -/
def timeAhead (s : State) (q : Int) : Word := ofInt (s.now.toNat + q)

/-- `GTE_SECi_NEXT` and NVALID follow the head gate (R402). -/
def showNext (s : State) (i : Nat) : State :=
  let q := match s.gateAt i 0 with
    | some g => (s.predictNow i g).2.2
    | none => none
  match q with
  | some q => (s.setReg (R.GTE_SEC_NEXT i) (s.timeAhead q)).setFld (R.GTE_SEC_ST i) F.GTE_SEC_ST_NVALID 1
  | none => s.setFld (R.GTE_SEC_ST i) F.GTE_SEC_ST_NVALID 0

/-! ### Reports and serving (R404, R405, R415) -/

/-- A report is queued, or dropped whole (R415). -/
def gteReport (s : State) (i : Nat) (k : GateKind) (state tag : Nat) : State :=
  let (code, prio) := k.code
  let seq := s.fld (R.GTE_SEC_ST i) F.GTE_SEC_ST_SEQ
  if 256 < s.gte.queue.words + 2 then (s.raise R.GTE_STAT F.GTE_STAT_QOVF).fire 182
  else
    let was := s.gte.queue.count
    let p : Packet := ⟨prio, tagPlain prio [code * 2 ^ 20 + state * 256 + i, seq * 65536 + tag]⟩
    (s.modGte fun g => { g with queue := g.queue.push p }).fireIf (was == 0) 181

/-- A gate of section `i` is late (R404, R418, R419). -/
def markLate (s : State) (i : Nat) : State :=
  ((s.raise (R.GTE_SEC_ST i) F.GTE_SEC_ST_LATE).raise R.GTE_STAT F.GTE_STAT_LATE).countUp R.GTE_CNT F.GTE_CNT_LATECNT

/-- The head gate of section `i` is served as `k` (R397, R404, R405, R415). -/
def gteServe (s : State) (i : Nat) (k : GateKind) : State :=
  match s.gateAt i 0 with
  | none => s
  | some (_, w) =>
    let ptr := R.GTE_SEC_PTR i
    let st := R.GTE_SEC_ST i
    let n := s.secCount i - 1
    let s := (s.setFld ptr F.GTE_SEC_PTR_HEAD
      ((s.fld ptr F.GTE_SEC_PTR_HEAD + 1) % s.fld (R.GTE_SEC_CRS i) F.GTE_SEC_CRS_LEN)).setFld ptr F.GTE_SEC_PTR_COUNT n
    let s := if k = .skipped then s else s.setFld st F.GTE_SEC_ST_CMD (w.bits 7 0)
    let late := k == .late || k == .skipped
    let s := s.when late fun s => (s.markLate i).fire 177
    let s := s.when (late || w.bit 9) fun s => s.gteReport i k (w.bits 7 0) (w.bits 31 16)
    (s.fireIf (w.bit 8) 176).fireIf (n == 0 && (s.sec i).on) 180

/-- Served in time or late, by the gate's own position. -/
def serveOwn (s : State) (i : Nat) : State :=
  match s.gateAt i 0 with
  | some g => s.gteServe i (if s.gateLate i g then .late else .fired)
  | none => s

/-- The direct outputs take the levels `w` (R404); after a clock fault they stay driven low (R34, R72). -/
def driveOuts (s : State) (w : Word) : State := if s.clk.fault then s else s.setReg R.GTE_OUT w

/-- Direct output `m` takes a level (R404). -/
def driveOut (s : State) (m : Nat) (level : Bool) : State :=
  s.driveOuts ((s.reg R.GTE_OUT).setBits m m (Word.ofBool level))

/-- The direct output of section `i` takes STATE, exclusive-ORed with its polarity (R404). -/
def driveSec (s : State) (i state : Nat) : State :=
  if s.secTgt i = 1 then
    let m := s.fld (R.GTE_SEC_CFG i) F.GTE_SEC_CFG_OUT
    s.driveOut m ((s.reg R.GTE_OUTPOL).bit m ^^ state % 2 == 1)
  else s

/-- The gates from the head on that are due together, at most `n` of them. -/
def dueCount (s : State) (i : Nat) : Nat → Nat → Nat
  | 0, _ => 0
  | fuel + 1, k =>
    match s.gateAt i k with
    | some g => if s.gateDue i g then 1 + s.dueCount i fuel (k + 1) else 0
    | none => 0

/-- All due gates but the last are skipped (R405). -/
def skipDue (s : State) (i due : Nat) : State := forN (due - 1) (fun _ s => s.gteServe i .skipped) s

/-- A section without a node serves what is due (R404, R405). -/
def evalDirect (s : State) (i : Nat) : State :=
  let due := s.dueCount i (s.secCount i) 0
  let s := if due = 0 then s
    else
      let s := (s.skipDue i due).serveOwn i
      s.driveSec i (s.fld (R.GTE_SEC_ST i) F.GTE_SEC_ST_CMD)
  s.showNext i

/-! ### The gate protocol (R406 to R410) -/

/-- A frame of the protocol (R406, R407). -/
def gateFrame (s : State) (type addr : Nat) (data : List Byte) : CanFrame :=
  let fd := s.bit R.GTE_NETCFG F.GTE_NETCFG_FD
  { classical (BitVec.ofNat 29 (s.fld R.GTE_NETCFG F.GTE_NETCFG_IDBASE * 65536 + type * 4096 + addr)) data with
    fdf := fd, brs := fd }

/-- A frame leaves, but from a quiet module (R488). -/
def gteSend (s : State) (c : Nat) (halt : Bool) (f : CanFrame) : State :=
  if s.quiet then s else s.gateSend (fin 8 c) halt f

/-- Channel, address and output of node section `i`. -/
def secNode (s : State) (i : Nat) : Nat × Nat × Nat :=
  let r := R.GTE_SEC_NODE i
  (s.fld r F.GTE_SEC_NODE_CH, s.fld r F.GTE_SEC_NODE_ADDR, s.fld r F.GTE_SEC_NODE_OUT)

/-- The conversation of section `i` set. -/
def setConv (s : State) (i : Nat) (c : Option GateConv) : State := s.modSec i fun x => { x with conv := c }

/-- The conversation of section `i` closes. -/
def convClose (s : State) (i : Nat) : State := (s.setConv i none).setFld (R.GTE_SEC_ST i) F.GTE_SEC_ST_ARM 0

/-- An ARM (with its fire time) or a FIRENOW is sent for a gate (R407, R408, R409); `was` is the conversation it
continues. -/
def convSend (s : State) (i : Nat) (fire : Option Word) (w : Word) (flags : Nat) (served : Bool)
    (was : Option GateConv) : State :=
  let (c, addr, out) := s.secNode i
  let st := R.GTE_SEC_ST i
  let seq := (s.fld st F.GTE_SEC_ST_SEQ + 1) % 256
  let s := (s.setFld st F.GTE_SEC_ST_SEQ seq).setFld st F.GTE_SEC_ST_ARM (if fire.isSome then 1 else 3)
  let head := leBytes 1 out ++ leBytes 1 (w.bits 7 0) ++ leBytes 1 seq ++ leBytes 1 flags
  let s := match fire with
    | some t => s.gteSend c false (s.gateFrame 2 addr (head ++ leBytes 4 t.toNat))
    | none => s.gteSend c false (s.gateFrame 1 addr head)
  s.setConv i (some
    { fire := fire.isNone, seq := BitVec.ofNat 8 seq, word := w
      ta := match fire, was with | some t, _ => t | none, some x => x.ta | none, none => 0
      tcmd := fire, served := served, confirmed := false
      retried := was.any (·.retried), late := fire.isNone
      armed := fire.isSome || was.any (·.armed)
      armOk := was.any fun x => x.armOk || (x.confirmed && !x.fire) })

/-- A CANCEL for the open conversation (R407). -/
def convCancel (s : State) (i : Nat) : State :=
  match (s.sec i).conv with
  | some x =>
    let (c, addr, out) := s.secNode i
    s.gteSend c false (s.gateFrame 3 addr (leBytes 1 out ++ [x.seq]))
  | none => s

/-- LEAD in µs. -/
def gteLead (s : State) : Int := s.fld R.GTE_NETTIM F.GTE_NETTIM_LEAD * 100

/-- A FIRENOW for the head gate, served late at once (R409). -/
def fireHead (s : State) (i : Nat) (w : Word) (flags : Nat) (was : Option GateConv) : State :=
  (s.convSend i none w flags true was).gteServe i .late

/-- A node section whose ARM stands (R409). -/
def evalArmed (s : State) (i : Nat) (x : GateConv) (g : Word × Word) : State :=
  if 0 ≤ modDiff s.now x.ta then (s.setConv i (some { x with served := true })).serveOwn i
  else
    match (s.predictNow i g).2.2 with
    | none => (s.convCancel i).convClose i
    | some q =>
      let t := s.timeAhead q
      if s.fld R.GTE_REARM F.GTE_REARM_REARM < (modDiff t x.ta).natAbs then
        if s.gteLead ≤ q then s.convSend i (some t) g.2 2 false (some x) else s.fireHead i g.2 0 (some x)
      else s.setConv i (some { x with tcmd := some t })

/-- A node section without an open conversation (R405, R409). -/
def evalFree (s : State) (i : Nat) : State :=
  let due := s.dueCount i (s.secCount i) 0
  let s := s.skipDue i due
  match s.gateAt i 0 with
  | none => s
  | some g =>
    let (r, lead, q) := s.predictNow i g
    let awin : Int := (max 1 (s.fld R.GTE_NETTIM F.GTE_NETTIM_AWIN) * 1000 : Nat)
    match q with
    | some q =>
      if s.gteLead ≤ q && q ≤ awin then s.convSend i (some (s.timeAhead q)) g.2 0 false none
      else if r ≤ lead || q < s.gteLead then s.fireHead i g.2 0 none
      else s
    | none => if r ≤ lead then s.fireHead i g.2 0 none else s

/-- A node section at an evaluation (R409). -/
def evalNode (s : State) (i : Nat) : State :=
  let s := match (s.sec i).conv with
    | some x =>
      if x.served || x.fire then s
      else match s.gateAt i 0 with
        | some g => s.evalArmed i x g
        | none => s
    | none => s.evalFree i
  s.showNext i

/-- The open conversation of section `i` fails (R409): the first time a frame is sent again, the second ends it. A gate
for which a FIRENOW is sent again is late; where it was served before, no event 177 or report follows (log entry 98). -/
def convFail (s : State) (i : Nat) : State :=
  match (s.sec i).conv with
  | none => s
  | some x =>
    let st := R.GTE_SEC_ST i
    if !x.retried then
      let x := { x with retried := true }
      let ahead := match x.tcmd with
        | some t => if !x.served && s.gteLead ≤ modDiff t s.now then some t else none
        | none => none
      match ahead with
      | some t => s.convSend i (some t) x.word 1 false (some x)
      | none =>
        if x.served then (s.convSend i none x.word 1 true (some x)).when (!x.late) fun s => s.markLate i
        else s.fireHead i x.word 1 (some x)
    else
      let s := (((s.raise st F.GTE_SEC_ST_NFAIL).raise R.GTE_STAT F.GTE_STAT_NFAIL).countUp R.GTE_CNT
        F.GTE_CNT_FAILCNT).fire 178
      let s := s.gteReport i .failedTwice (x.word.bits 7 0) (x.word.bits 31 16)
      (if x.served then s else s.serveOwn i).convClose i

/-- The open conversation of section `i` ends OK (R409, R410). -/
def convOk (s : State) (i : Nat) (x : GateConv) : State :=
  let st := R.GTE_SEC_ST i
  let s := s.setFld st F.GTE_SEC_ST_CONF (x.word.bits 7 0)
  let s := s.when x.retried fun s =>
    ((((s.raise st F.GTE_SEC_ST_RETRY).raise R.GTE_STAT F.GTE_STAT_RETRY).countUp R.GTE_CNT F.GTE_CNT_RETRYCNT).fire
      179).gteReport i .retriedOk (x.word.bits 7 0) (x.word.bits 31 16)
  (if x.served then s else s.serveOwn i).convClose i

/-- The enabled node section that a frame names (R410). -/
def nodeSection (s : State) (f : NodeMsg) : Option Nat :=
  firstN 256 fun i =>
    (s.sec i).on && s.secTgt i == 2 && s.secNode i == (f.ch.val, f.addr.toNat, f.out.toNat)

/-- A frame of no enabled node section, or a CONF of other content (R410). -/
def gteUnknown (s : State) : State := s.raise R.GTE_STAT F.GTE_STAT_UNK

/-- A frame ignored for its SEQ, as a duplicate, or without a conversation (R410). -/
def gteDup (s : State) : State := s.countUp R.GTE_CNT F.GTE_CNT_DUPCNT

/-- A CONF frame is taken (R410). -/
def gteConf (s : State) (f : NodeMsg) : State :=
  match s.nodeSection f with
  | none => s.gteUnknown
  | some i =>
    match (s.sec i).conv with
    | none => s.gteDup
    | some x =>
      if f.seq ≠ x.seq then s.gteDup
      else if f.state.toNat ≠ x.word.bits 7 0 || f.time ≠ (if x.fire then 0 else x.ta) then s.gteUnknown
      else if x.confirmed then s.gteDup
      else (s.setConv i (some { x with confirmed := true })).setFld (R.GTE_SEC_ST i) F.GTE_SEC_ST_ARM 2

/-- A DONE frame is taken (R409, R410). -/
def gteDone (s : State) (f : NodeMsg) : State :=
  match s.nodeSection f with
  | none => s.gteUnknown
  | some i =>
    match (s.sec i).conv with
    | none => s.gteDup
    | some x =>
      if f.seq ≠ x.seq then s.gteDup
      else if f.state.toNat ≠ x.word.bits 7 0 then s.convFail i
      else
        let skew := x.armed && (decide (s.fld R.GTE_REARM F.GTE_REARM_REARM < (modDiff f.time x.ta).natAbs)
          || (f.flags.getLsbD 3 && (x.armOk || (x.confirmed && !x.fire))))
        let s := s.when skew fun s => (s.raise (R.GTE_SEC_ST i) F.GTE_SEC_ST_SKEW).raise R.GTE_STAT F.GTE_STAT_SKEW
        s.convOk i x

/-! ### Holds, restores, enables and flushes (R412 to R414) -/

/-- HALT leaves on every channel of the protocol (R407, R412). -/
def gteHalt (s : State) : State :=
  forN 8 (fun c s =>
    if (s.fld R.GTE_NETCFG F.GTE_NETCFG_CHMASK).testBit c then s.gteSend c true (s.gateFrame 0 0xFF [0x01]) else s) s

/-- Section `i` is held: its direct output inactive, its conversation closed without an outcome, HELD set (R412). -/
def secHold (s : State) (i : Nat) : State :=
  let s := if s.secTgt i = 1 then
      let m := s.fld (R.GTE_SEC_CFG i) F.GTE_SEC_CFG_OUT
      s.driveOut m ((s.reg R.GTE_OUTPOL).bit m)
    else s
  ((s.convClose i).modSec i fun x => { x with prev := none, held := true }).raise (R.GTE_SEC_ST i) F.GTE_SEC_ST_HELD

/-- What is due in section `i` is served (R404, R405, R409). -/
def serveDue (s : State) (i : Nat) : State := if s.secTgt i = 2 then s.evalNode i else s.evalDirect i

/-- Section `i` is restored (R412): passed gates are served late, otherwise its target takes CMD again; then HELD
clears. -/
def secRestore (s : State) (i : Nat) : State :=
  let st := R.GTE_SEC_ST i
  let s := (s.modSec i fun x => { x with restore := false, held := false }).setFld st F.GTE_SEC_ST_HELD 0
  let passed := match s.gateAt i 0 with | some g => s.gateDue i g | none => false
  if passed then s.serveDue i
  else
    let cmd := s.fld st F.GTE_SEC_ST_CMD
    let s := if s.secTgt i = 2 then s.convSend i none (Word.field 7 0 cmd) 0 true none else s.driveSec i cmd
    s.gteReport i .restored cmd 0

/-- Serving is held for section `i` in this mode (R412, R413). -/
def secHeldBy (s : State) (i : Nat) : Bool := !s.gte.granted || (s.gte.service && !s.secTest i)

/-- EN of section `i` commits to 0, with the target it had (R414): the start of a hold for that section alone, with HELD
and event 183; a pending ARM is sent a CANCEL, and no crossing is formed any more (R402). -/
def secDisable (s : State) (i : Nat) : State :=
  let s := match (s.sec i).conv with
    | some x => if !x.fire && !x.served then s.convCancel i else s
    | none => s
  let s := (s.secHold i).modSec i fun x => { x with on := false, restore := false }
  (s.setFld (R.GTE_SEC_ST i) F.GTE_SEC_ST_NVALID 0).fire 183

/-- EN of section `i` has committed to 1 (R400, R414). -/
def secEnable (s : State) (i : Nat) : State :=
  if (s.sec i).on || !s.secOn i then s
  else
    let d := modDiff (s.travel 1) (s.travel 0)
    let s := s.setReg (R.GTE_SEC_TRV i) (ofInt ((s.travel 2).toInt + fdiv (s.sreg (R.GTE_SEC_K i) * d) 65536))
    let held := s.secHeldBy i
    (s.modSec i fun x => { x with rem := 0, prev := none, on := true, held := held, restore := !held, conv := none }).setFld
      (R.GTE_SEC_ST i) F.GTE_SEC_ST_HELD (Word.ofBool held)

/-- A flush of section `i` completes (R414). -/
def secFlush (s : State) (i : Nat) : State :=
  if !(s.sec i).flush then s
  else
    let had := s.secCount i
    let s := (s.setFld (R.GTE_SEC_PTR i) F.GTE_SEC_PTR_COUNT 0).modSec i fun x => { x with flush := false }
    let s := if (s.sec i).conv.isSome then (s.convCancel i).convClose i else s
    s.fireIf (had != 0 && (s.sec i).on) 180

/-- The unit at a sample boundary: speeds, the beginning and end of permission, and the restore of every enabled section
where it returns (R401, R412, R413). -/
def gteBoundary (s : State) : State :=
  let vl := s.wheelSpeed false
  let vr := s.wheelSpeed true
  let s := (s.setReg R.GTE_VC (ofInt (tdiv (vl + vr) 2))).setReg R.GTE_VD (ofInt (vr - vl))
  let granted := s.permits .sections
  let service := s.mode == .service
  let s := if service && !s.gte.service then s.setReg R.GTE_TESTTRV 0 else s
  let ended := s.gte.granted && !granted
  let fresh := service && !s.gte.service
  let s := s.modGte fun g =>
    { g with vl := vl, vr := vr, granted := granted, service := service
             testRem := if fresh then 0 else g.testRem
             halting := if granted then false else g.halting || ended }
  let began := (List.range 256).any fun i => (s.sec i).on && !(s.sec i).held && s.secHeldBy i
  let s := forN 256 (fun i s =>
    if !(s.sec i).on then s
    else if s.secHeldBy i && !(s.sec i).held then s.secHold i
    else if !s.secHeldBy i && (s.sec i).held then
      (s.secRestore i).modSec i fun x => { x with prev := some (s.secTravel i, s.leadNow i) }
    else s) s
  let s := s.when ended fun s => (s.driveOuts ((s.reg R.GTE_OUTPOL).setBits 31 16 0)).gteHalt
  s.fireIf (began || ended) 183

/-! ### The evaluation (R403) -/

/-- The registers of the unit. -/
def gteOwned (r : Nat) : Bool := r / 0x10000 == 9

/-- Travel of section `i` advances (R188, R400). -/
def secAdvance (s : State) (i : Nat) (dl dr dc : Int) : State :=
  let x := s.sreg (R.GTE_SEC_K i) * (dr - dl) + (s.sec i).rem
  (s.setReg (R.GTE_SEC_TRV i) (ofInt ((s.reg (R.GTE_SEC_TRV i)).toInt + dc + fdiv x 65536))).modSec i fun y =>
    { y with rem := fmod x 65536 }

/-- The travel of every enabled section, and the test travel, advance (R188, R413). -/
def gteAdvance (s : State) : State :=
  let now := (s.travel 0, s.travel 1, s.travel 2)
  let s := match s.gte.last with
    | some (l, r, c) =>
      forN 256 (fun i (s : State) =>
        if (s.sec i).on then s.secAdvance i (modDiff now.1 l) (modDiff now.2.1 r) (modDiff now.2.2 c) else s) s
    | none => s
  let s := s.modGte fun g => { g with last := some now }
  if s.mode == .service && s.bit R.GTE_TEST F.GTE_TEST_RUN then
    let n := s.fld R.GTE_TEST F.GTE_TEST_SPD + s.gte.testRem
    (s.setReg R.GTE_TESTTRV (s.reg R.GTE_TESTTRV + BitVec.ofNat 32 (n / 100))).modGte fun g => { g with testRem := n % 100 }
  else s

/-- Section `i` at an evaluation (R403 to R405, R409, R412). -/
def evalSec (s : State) (i : Nat) : State :=
  if !(s.sec i).on then s
  else if (s.sec i).held || s.secHeldBy i then s.showNext i
  else
    let s := if (s.sec i).restore then s.secRestore i else s
    let s := s.serveDue i
    let trv := s.secTravel i
    let s := if s.secTesting i then s.setReg (R.GTE_SEC_TRV i) trv else s
    s.modSec i fun x => { x with prev := some (trv, s.leadNow i) }

/-- The evaluation of every 10 µs (R403). -/
def gateEvaluation (s : State) : State :=
  let s := s.gteAdvance
  let next := s.commitPoint gteOwned State.setReg
  let s := forN 256 (fun i s => if (s.sec i).on && !next.secOn i then s.secDisable i else s) s
  let s := s.commitPoint gteOwned State.setReg
  let s := forN 256 (fun i s => (s.secEnable i).secFlush i) s
  let inbox := s.gte.inbox
  let s := s.modGte fun g => { g with inbox := [] }
  let s := inbox.foldl (fun s p => if p.1 then s.gteDone p.2 else s.gteConf p.2) s
  forN 256 (fun i s => s.evalSec i) s

/-! ### Appending (R145, R399) -/

/-- A gate's word has reserved bits set (R421). -/
def gateWordBad (w : Word) : Bool := w.bits 15 11 != 0

/-- A gate is appended to the course of section `i` (R145). -/
def gateAppend (s : State) (i : Nat) (pos w : Word) (rel : Bool) : Status × State :=
  if s.lockInForce then (.locked, s)
  else if !s.permits .sections || (s.mode == .service && !s.secTest i) then (.wrongMode, s)
  else
    let p := if rel then s.secTravel i + pos else pos
    let n := s.secCount i
    let behind := match s.gateAt i (n - 1) with
      | some (q, _) => decide (0 < n) && decide (modDiff p q ≤ 0)
      | none => false
    if behind then (.outOfRange, s)
    else if s.fld (R.GTE_SEC_CRS i) F.GTE_SEC_CRS_LEN ≤ n then (.busy, s)
    else
      let a := s.gateAddr i n
      let s := ((s.setWord a p).setWord (a + 4) w).setFld (R.GTE_SEC_PTR i) F.GTE_SEC_PTR_COUNT (n + 1)
      (if s.gateDue i (p, w) then .late else .ok, s)

/-- What a write of `GTE_ACMD` does: its status, shown in `GTE_ASTAT` (R399). -/
def gateCmd (s : State) (i : Nat) (rel : Bool) : Status × State :=
  let (st, s) := s.gateAppend i (s.reg R.GTE_APOS) (s.reg R.GTE_ASTATE) rel
  (st, s.setReg R.GTE_ASTAT (Word.field 15 8 i ||| Word.field 7 0 st.code))

/-- A master's write of `GTE_ACMD` (R62, R399). -/
def gateCommand (s : State) (m : Master) (i : Nat) (rel : Bool) : State :=
  let (st, s) := s.gateCmd i rel
  s.complete m R.GTE_ACMD st

/-! ### What the registers read as -/

/-- A read of the report queue (R9, R12). -/
def gtePop (s : State) : Word × State :=
  match s.gte.queue.pop with
  | some (w, q) => (w, s.modGte fun g => { g with queue := q })
  | none => (0, s)

/-- What the state registers of the unit read as (R417, R418, R488). -/
def gteView (s : State) (r : Nat) : Option Word :=
  if r = R.GTE_QSTAT then some (Word.field 24 16 s.gte.queue.words ||| Word.field 7 0 s.gte.queue.count)
  else if r = R.GTE_OUT then if s.quiet then some 0 else none
  else none

end State

/-- GATE_APPEND: a write of `GTE_ACMD` (R399); a gate word with reserved bits is a host mistake (R421). -/
def execGateAppend (m : Master) (sec : BitVec 8) (rel : Bool) (s : State) : Host.Outcome State Fault Refusal :=
  if State.gateWordBad (s.reg R.GTE_ASTATE) then .fault .hostMistake else .next (s.gateCommand m sec.toNat rel)

/-- COURSE_FLUSH: FLUSH is written to `GTE_CTL` (R414). -/
def execCourseFlush (sec : BitVec 8) (s : State) : Host.Outcome State Fault Refusal :=
  .next (s.whenUp fun s => s.modSec sec.toNat fun x => { x with flush := true })

/-- GATE_EVALUATION (R403). -/
def execGateEvaluation (s : State) : Host.Outcome State Fault Refusal := .next (s.whenUp State.gateEvaluation)

/-- HALT_REPEAT (R412). -/
def execHaltRepeat (s : State) : Host.Outcome State Fault Refusal :=
  .next (if s.up && s.gte.halting then s.gteHalt else s)

/-- CONF (R410). -/
def execConf (f : NodeMsg) (s : State) : Host.Outcome State Fault Refusal := .next (s.whenUp fun s => s.gteConf f)

/-- DONE (R410). -/
def execDone (f : NodeMsg) (s : State) : Host.Outcome State Fault Refusal := .next (s.whenUp fun s => s.gteDone f)

/-- CONF_TIMEOUT (R409). -/
def execConfTimeout (sec : Fin 256) (s : State) : Host.Outcome State Fault Refusal :=
  .next (s.whenUp fun s => match (s.sec sec.val).conv with
    | some x => if x.confirmed then s else s.convFail sec.val
    | none => s)

/-- DONE_TIMEOUT (R409): it counts from the fire time, or from the FIRENOW. -/
def execDoneTimeout (sec : Fin 256) (s : State) : Host.Outcome State Fault Refusal :=
  .next (s.whenUp fun s => match (s.sec sec.val).conv with
    | some x => if x.fire || 0 ≤ modDiff s.now x.ta then s.convFail sec.val else s
    | none => s)

end Sys2Proof.Machine
end

