-- ==== Sys2Proof/Machine/CanBus.lean ====
section
/-!
DEFINITION. Frames on the CAN channels: the paths of a received frame (R426, R427, R452), and what the start and the
end of a sent frame do to its buffer and its user (R430, R431, R433, R437, R453).
-/

namespace Sys2Proof.Machine
namespace State

/-! ### Received frames -/

/-- A transport frame handed to the conversation engine by a filter (R452), a data frame by way of its input queue (R467); the bytes
of ISO 11783-3 (log entry 60). -/
def cnvTake (s : State) (c : Fin 8) (f : CanFrame) : State :=
  if !s.cnvOn then s
  else
    let id := f.id.toNat
    let pf := id / 65536 % 256
    let ps := id / 256 % 256
    let peer := id % 256
    let own := ps == s.ownSa c.val && ps != 0xFE
    let glob := ps == 0xFF
    let tp := pf == 0xEC || pf == 0xEB
    let etp := pf == 0xC8 || pf == 0xC7
    if !(f.ext && decide (id / 2 ^ 24 % 4 = 0) && (((tp || etp) && own) || (tp && glob))) then s.cnvBad
    else
      let b (i : Nat) : Nat := (f.data.getD i 0).toNat
      let le (i n : Nat) : Nat := ofLe ((f.data.drop i).take n)
      if pf = 0xEB || pf = 0xC7 then
        s.bulkQueue ⟨c, peer, glob, etp, b 0, f.data.drop 1⟩
      else if s.cnvQuiet then s
      else
        let pgn := le 5 3 % 2 ^ 18
        match b 0 with
        | 0x10 => if own && tp then s.rts c peer false (le 1 2) (if b 4 = 0 then 255 else b 4) pgn else s
        | 0x14 => if etp then s.rts c peer true (le 1 4) 255 pgn else s
        | 0x11 => if own && tp then s.cts c peer false (b 1) (b 2) pgn else s
        | 0x15 => if etp then s.cts c peer true (b 1) (le 2 3) pgn else s
        | 0x13 => if own && tp then s.eoma c peer false (le 1 2) (b 3) pgn else s
        | 0x17 => if etp then s.eoma c peer true (le 1 4) 0 pgn else s
        | 0x20 => if glob then s.bam c peer (le 1 2) pgn else s
        | 0x16 => if etp then s.dpo c peer (le 2 3) pgn else s
        | 0xFF => s.tpAbort c peer etp (b 1) pgn
        | _ => s

/-- Filter `k` of channel `c` matches the frame (R427). -/
def filterHit (s : State) (c : Fin 8) (f : CanFrame) (k : Nat) : Bool :=
  let i := 16 * c.val + k
  s.fld (R.NET_FLT_MSK i) F.NET_FLT_MSK_TGT != 0
    && s.bit (R.NET_FLT_ID i) F.NET_FLT_ID_IDE == f.ext
    && ((BitVec.ofNat 29 (s.fld (R.NET_FLT_ID i) F.NET_FLT_ID_ID) ^^^ f.id)
        &&& BitVec.ofNat 29 (s.fld (R.NET_FLT_MSK i) F.NET_FLT_MSK_MASK)) == 0

/-- The filters decide the frame's path (R427). -/
def filters (s : State) (c : Fin 8) (f : CanFrame) (sof : Word) : State :=
  match firstN 16 (s.filterHit c f) with
  | some k =>
    let i := 16 * c.val + k
    match s.fld (R.NET_FLT_MSK i) F.NET_FLT_MSK_TGT with
    | 1 => s.rxQueue c f sof (some k) (s.fld (R.NET_FLT_ID i) F.NET_FLT_ID_PRI)
    | 2 => s.cnvTake c f
    | _ => s
  | none => if s.bit (R.NET_CH_CFG c.val) F.NET_CH_CFG_NOMATCH then s.rxQueue c f sof none 3 else s

/-- The receive error counter after a frame without error (ISO 11898-1; log entry 63): from above 127 it takes a value
of 119 to 127, which is free. -/
def recAfter (s : State) (rx : Nat) : Nat :=
  if 127 < rx then 119 + (Config.freeWord 425 s.freeCount).toNat % 9 else rx - 1

/-- A frame received without error takes the first path that applies (R426). -/
def canReceived (s : State) (c : Fin 8) (f : CanFrame) (sof : Word) : State :=
  if !s.canOn c || s.busOff c || (f.fdf && !s.bit (R.NET_CH_CFG c.val) F.NET_CH_CFG_FDE) then s
  else
    let st := R.NET_CH_ST c.val
    let rx := s.fld st F.NET_CH_ST_REC
    let s := (s.setErrors c (s.fld st F.NET_CH_ST_TEC) (s.recAfter rx)).when (127 < rx) takeFree
    let id := f.id.toNat
    let type := id / 4096 % 16
    if s.gateChan c && f.ext && id / 65536 == s.fld R.GTE_NETCFG F.GTE_NETCFG_IDBASE && (type == 8 || type == 9) then
      let b (i : Nat) : BitVec 8 := f.data.getD i 0
      let msg : NodeMsg :=
        { ch := c, addr := BitVec.ofNat 8 id, out := b 0, state := b 1, seq := b 2, flags := b 3
          time := BitVec.ofNat 32 (ofLe ((f.data.drop 4).take 4)) }
      if s.up then s.modGte fun g => { g with inbox := g.inbox ++ [(type == 9, msg)] } else s
    else
      let base := id / 2 ^ 18
      let s :=
        if !f.ext && !f.rtr && base / 8 == s.fld R.NET_TM F.NET_TM_ID then s.refReceived c (base % 8) sof else s
      s.filters c f sof

/-! ### Sent frames -/

/-- The start of frame of the pending frame that the channel offers (R431, R433, R437, R460); after a clock fault the pads stay recessive (R34). -/
def canSof (s : State) (c : Fin 8) (b : Fin 3) : State :=
  match (s.chan c).buf[b] with
  | none => s
  | some x =>
    if !s.offered c b || s.clk.fault || !s.canOn c || s.busOff c || s.bit (R.NET_CH_CFG c.val) F.NET_CH_CFG_LOM then s
    else
      let s := s.setBuf c b (some { x with active := true, sof := s.now })
      match x.src with
      | .control n => s.controlSof n
      | _ => s

/-- A frame has been sent: its buffer is EMPTY and its user learns of it (R431, R433, R437, R456); a channel that is off sends none
(R422, R443). A clock fault cuts the frame off (R34). -/
def canSent (s : State) (c : Fin 8) (b : Fin 3) : State :=
  match (s.chan c).buf[b] with
  | none => s
  | some x =>
    if !x.active || s.clk.fault || !s.canOn c then s
    else
      let st := R.NET_CH_ST c.val
      let s := (s.setBuf c b none).setErrors c (s.fld st F.NET_CH_ST_TEC - 1) (s.fld st F.NET_CH_ST_REC)
      let s := match x.src with
        | .queue => s.fire 214
        | .reference => s.refSent c x.sof
        | .gate => s
        | .control n => s.controlSent n x.frame
        | .bulk n => s.bulkSent n
      s.netLoad c

end State

/-- CAN_FRAME_RECEIVED (R426 to R429); another master's reference message with the own PRIO is a host mistake (R449). -/
def execCanFrameReceived (c : Fin 8) (f : CanFrame) (sof : Word) (s : State) : Host.Outcome State Fault Refusal :=
  if s.refClash c f then .fault .hostMistake else .next (s.canReceived c f sof)

/-- CAN_FRAME_SENT (R431). -/
def execCanFrameSent (c : Fin 8) (b : Fin 3) (s : State) : Host.Outcome State Fault Refusal := .next (s.canSent c b)

/-- CAN_START_OF_FRAME (R433). -/
def execCanStartOfFrame (c : Fin 8) (b : Fin 3) (s : State) : Host.Outcome State Fault Refusal := .next (s.canSof c b)

end Sys2Proof.Machine
end

