-- ==== Sys2Proof/Machine/SafBlk.lean ====
section
/-!
DEFINITION. The safety parameter block (R519, R520), its key (R521) and its check (R521, R522), and the delivery block.
-/

namespace Sys2Proof.Machine

/-! ### The key: CRC-32 of the IEEE 802.3 polynomial, least significant bit first -/

/-- One bit of the CRC. -/
def crcBit (c : Word) : Word := if c.getLsbD 0 then (c >>> 1) ^^^ 0xEDB88320 else c >>> 1

/-- One byte taken into the CRC. -/
def crcByte (c : Word) (b : Byte) : Word :=
  crcBit (crcBit (crcBit (crcBit (crcBit (crcBit (crcBit (crcBit (c ^^^ b.zeroExtend 32))))))))

/-- Bytes taken into the CRC one after another; each step is matched on, so that an evaluation goes on from a number. -/
def crcBytes : List Byte → Word → Word
  | [], c => c
  | b :: l, c =>
    match (crcByte c b).toNat with
    | 0 => crcBytes l 0
    | n + 1 => crcBytes l (BitVec.ofNat 32 (n + 1))

/-- The CRC-32 of a list of bytes. -/
def crc32 (l : List Byte) : Word := ~~~ crcBytes l 0xFFFFFFFF

/-! ### Fields -/

namespace SafBlock

/-- The byte at offset `o`. -/
def u8 (b : SafBlock) (o : Nat) : Nat := ((kvGet b o).getD 0).toNat

/-- The half-word at offset `o`, little-endian (R519). -/
def u16 (b : SafBlock) (o : Nat) : Nat := b.u8 o + 256 * b.u8 (o + 1)

/-- The word at offset `o`, little-endian (R519). -/
def u32 (b : SafBlock) (o : Nat) : Nat := b.u16 o + 65536 * b.u16 (o + 2)

/-- All 2,048 bytes. -/
def bytes (b : SafBlock) : List Byte := (List.range 2048).map fun o => (kvGet b o).getD 0

/-- The block's key (R521). -/
def key (b : SafBlock) : Word := crc32 b.bytes

/-- A block from its bytes. -/
def ofBytes (l : List Byte) : SafBlock := (l.zipIdx.filter fun p => p.1 != 0).map fun p => (p.2, p.1)

def role (b : SafBlock) : Nat := b.u8 0x003
def rstIn (b : SafBlock) : Nat := b.u8 0x00C
def rstHold (b : SafBlock) : Nat := b.u8 0x00D
def csMask (b : SafBlock) : Nat := b.u16 0x00E
def ax1 (b : SafBlock) : Nat := b.u8 0x010
def ax2 (b : SafBlock) : Nat := b.u8 0x011
def rel (b : SafBlock) : Nat := b.u8 0x012
def coef1 (b : SafBlock) : Nat := b.u32 0x014
def coef2 (b : SafBlock) : Nat := b.u32 0x018
def vAbs (b : SafBlock) : Nat := b.u16 0x01C
def tDisc (b : SafBlock) : Nat := b.u16 0x01E
def vField (b : SafBlock) : Nat := b.u16 0x020
def vLimp (b : SafBlock) : Nat := b.u16 0x022
def vRoad (b : SafBlock) : Nat := b.u16 0x024
def vPark (b : SafBlock) : Nat := b.u16 0x026
def vStill (b : SafBlock) : Nat := b.u16 0x028
def tTol (b : SafBlock) : Nat := b.u16 0x02A
def dcs (b : SafBlock) : Nat := b.u16 0x030
def adec (b : SafBlock) : Nat := b.u16 0x032
def vTol (b : SafBlock) : Nat := b.u16 0x034
def tcs (b : SafBlock) : Nat := b.u16 0x036

/-- TYPE of pair `k`. -/
def inType (b : SafBlock) (k : Nat) : Nat := b.u8 (0x040 + 16 * k)
/-- USE of output `j`. -/
def outUse (b : SafBlock) (j : Nat) : Bool := b.u8 (0x140 + 8 * j) == 1
/-- OFFP of output `j`. -/
def outOffp (b : SafBlock) (j : Nat) : Bool := b.u8 (0x141 + 8 * j) == 1
/-- KIND of function `f`. -/
def fnKind (b : SafBlock) (f : Nat) : Nat := b.u8 (0x180 + 32 * f)
/-- REACT of function `f`: 1 is a controlled stop. -/
def fnReact (b : SafBlock) (f : Nat) : Nat := b.u8 (0x181 + 32 * f)
/-- MANRST of function `f`. -/
def fnManrst (b : SafBlock) (f : Nat) : Bool := b.u8 (0x182 + 32 * f) == 1
/-- IN1 of function `f`. -/
def fnIn1 (b : SafBlock) (f : Nat) : Nat := b.u8 (0x183 + 32 * f)
/-- IN2 of function `f`. -/
def fnIn2 (b : SafBlock) (f : Nat) : Nat := b.u8 (0x184 + 32 * f)
/-- OUT of function `f`. -/
def fnOut (b : SafBlock) (f : Nat) : Nat := b.u8 (0x185 + 32 * f)
/-- ENMASK of function `f`. -/
def fnEnmask (b : SafBlock) (f : Nat) : Nat := b.u16 (0x186 + 32 * f)
/-- TDLY of function `f`. -/
def fnTdly (b : SafBlock) (f : Nat) : Nat := b.u16 (0x188 + 32 * f)

/-! ### The check of R521 and R522 -/

/-- Reserved bytes from offset `o` on are zero: one entry for each. -/
def zeros (b : SafBlock) (o n : Nat) : List (Nat × Bool) := (List.range n).map fun i => (o + i, b.u8 (o + i) == 0)

/-- `v` lies in `lo … hi`. -/
def within (lo hi v : Nat) : Bool := decide (lo ≤ v ∧ v ≤ hi)

/-- The fields of pair `k`, each with whether it is good (R520); those of an unused entry are not judged. -/
def checkInput (b : SafBlock) (k : Nat) : List (Nat × Bool) :=
  let o := 0x040 + 16 * k
  let used := b.u8 o != 0
  [(o, within 0 2 (b.u8 o)), (o + 1, !used || within 0 1 (b.u8 (o + 1))),
    (o + 2, !used || within 1 100 (b.u16 (o + 2))), (o + 4, !used || within 1 200 (b.u16 (o + 4)))]
    ++ b.zeros (o + 6) 10

/-- The fields of output `j` (R520). -/
def checkOutput (b : SafBlock) (j : Nat) : List (Nat × Bool) :=
  let o := 0x140 + 8 * j
  let used := b.u8 o != 0
  [(o, within 0 1 (b.u8 o)), (o + 1, !used || within 0 (if j < 2 then 1 else 0) (b.u8 (o + 1))),
    (o + 2, !used || within 1 20 (b.u16 (o + 2)))] ++ b.zeros (o + 4) 4

/-- The fields of function `f` (R520). -/
def checkFunction (b : SafBlock) (f : Nat) : List (Nat × Bool) :=
  let o := 0x180 + 32 * f
  let used := b.u8 o != 0
  let pair (i : Nat) := !used || within 0 15 (b.u8 i) || b.u8 i == 255
  [(o, within 0 6 (b.u8 o)), (o + 1, !used || within 0 1 (b.u8 (o + 1))), (o + 2, !used || within 0 1 (b.u8 (o + 2))),
    (o + 3, pair (o + 3)), (o + 4, pair (o + 4)), (o + 5, !used || within 0 7 (b.u8 (o + 5)) || b.u8 (o + 5) == 255),
    (o + 6, !used || within 0 511 (b.u16 (o + 6)))] ++ b.zeros (o + 10) 22

/-- Every field in the order of its offset, with whether it is good for a module of part code `part`. -/
def checks (b : SafBlock) (part : Nat) : List (Nat × Bool) :=
  [(0x000, b.u16 0 == 1), (0x002, b.u8 2 == part), (0x003, within 0 3 b.role),
    (0x004, b.role != 0 || (b.u32 4 == 0 && b.u32 8 == 0)), (0x00C, within 0 15 b.rstIn),
    (0x00D, within 1 20 b.rstHold), (0x010, within 0 10 b.ax1), (0x011, within 0 10 b.ax2),
    (0x012, within 1 100 b.rel), (0x013, b.u8 0x013 == 0)]
    ++ b.zeros 0x02C 4 ++ b.zeros 0x038 8
    ++ (List.range 16).flatMap b.checkInput ++ (List.range 8).flatMap b.checkOutput
    ++ (List.range 16).flatMap b.checkFunction ++ b.zeros 0x380 1152

/-- The offset of the first bad field. -/
def bad (b : SafBlock) (part : Nat) : Option Nat := ((b.checks part).find? fun p => !p.2).map (·.1)

/-- The block is a delivery block of R520: ROLE 3, RSTIN 15 with RSTHOLD 5, pair 15 equivalent with FILT 6 and TDISC 10, and no
other pair, output or function in use. -/
def isDelivery (b : SafBlock) : Bool :=
  b.role == 3 && b.rstIn == 15 && b.rstHold == 5 && b.inType 15 == 1 && b.u16 0x132 == 6 && b.u16 0x134 == 10
    && (List.range 15).all (fun k => b.inType k == 0) && (List.range 8).all (fun j => !b.outUse j)
    && (List.range 16).all fun f => b.fnKind f == 0

end SafBlock

/-- The code of `SYS_ID.PART` (R40). -/
def Part.code : Part → Nat
  | .ixl4800 => 0x00 | .ixl4810 => 0x10 | .ixl4820 => 0x20 | .ixl4830 => 0x30

end Sys2Proof.Machine
end

