-- ==== Sys2Proof/Machine/Modes.lean ====
section
/-!
DEFINITION. The mode manager (R52 to R87, R485, R579): driver enables, mode requests and their guards, transitions at
sample boundaries, forced LIMP, and the lock-out.
-/

namespace Sys2Proof.Machine

/-- The code of R78 for who made a request; 4 is the mode manager, also for a request the partner forwards. -/
def ReqSource.code : ReqSource → Nat
  | .core0 => 0 | .core1 => 1 | .host => 2 | .engine _ => 3 | .manager => 4

/-- The engine number of R78. -/
def ReqSource.eng : ReqSource → Nat
  | .engine e => e.val
  | .core0 | .core1 | .host | .manager => 0

/-- A master as a requester. -/
def masterSource : Master → ReqSource
  | .host => .host | .core0 => .core0 | .core1 => .core1

/-- The normal successors of R52 that a request can name. -/
def Mode.successors : Mode → List Mode
  | .off | .boot | .lockout => []
  | .idle => [.parked, .commission, .service, .charge, .off]
  | .commission => [.idle, .off]
  | .parked => [.drive, .field, .charge, .supply, .idle]
  | .drive => [.parked, .field, .limp]
  | .field => [.drive, .parked, .limp]
  | .charge => [.parked, .idle]
  | .supply => [.parked]
  | .service => [.idle]
  | .limp => [.parked, .drive]

/-- The stage enables of gate protection for a grant of nine bits, `XEN_TA` in bit 0, stage 5 in bit 4: stages 3 and 4
share `XEN_CH` (R289, R511). -/
def grantStages (g : Nat) : BitVec 10 :=
  BitVec.ofNat 10 (g % 16 + (if g.testBit 3 then 16 else 0) + g / 16 % 32 * 32)

namespace State

/-- The mode manager changed by `f`. -/
def modMod (s : State) (f : ModeMgr → ModeMgr) : State := { s with mod := f s.mod }

/-- The safety controller changed by `f`. -/
def modSaf (s : State) (f : SafState → SafState) : State := { s with saf := f s.saf }

/-- The pairs link changed by `f`. -/
def modTwn (s : State) (f : TwnState → TwnState) : State := { s with twn := f s.twn }

/-! ### Driver enables (R289, R503, R511) -/

/-- The enables become `g`: the lines of risen external enables are ignored for a while, the legs follow, the
converter, the drives and a charger whose enable fell take notice, and event 137 follows a change of `GDP_XEN.CMD`
(R289, R309, R320, R357, R374). -/
def setEnables (s : State) (g : Nat) : State :=
  let old := s.gdp.en
  let en := grantStages g
  let s := s.setReg R.SAF_EN (BitVec.ofNat 32 g)
  if en = old then s
  else
    let rising : BitVec 4 := (en &&& ~~~old).setWidth 4
    let s := { s with gdp := { s.gdp with en := en, blank := s.gdp.blank ||| rising } }
    let s := s.fireIf (en.setWidth 4 != old.setWidth 4) 137
    let s := s.auxEnable.when (old.getLsbD 3 && !en.getLsbD 3) enpForbid
    s.legsApply.actPauses

/-- Both cores take back the grants of `mask` (R503). -/
def takeGrants (s : State) (mask : Nat) : State :=
  s.modSaf fun x =>
    { x with grant0 := x.grant0 &&& ~~~(BitVec.ofNat 9 mask), grant1 := x.grant1 &&& ~~~(BitVec.ofNat 9 mask) }

/-- Both cores take back every grant, and all enables fall (R503, R511). -/
def dropEnables (s : State) : State := (s.takeGrants 511).setEnables 0

/-- Both switches of an output go off (R508). -/
def outputDrop (p : OutPhase) : OutPhase := if p = .off then .off else .falling

/-- The safety outputs are off, both switches together (R72, R73). -/
def outputsOff (s : State) : State :=
  (s.modSaf fun x => { x with out := x.out.map outputDrop }).setFld R.SAF_OUT F.SAF_OUT_CMD 0

/-! ### Records of `MOD_REQSTAT` (R78) -/

/-- `MOD_REQSTAT` is written; a completion raises event 17. -/
def reqStat (s : State) (done : Bool) (src : ReqSource) (tgt guard : Nat) (st : Status) : State :=
  (s.setReg R.MOD_REQSTAT (Word.field 31 31 (Word.ofBool done) ||| Word.field 22 20 src.eng
    ||| Word.field 18 16 src.code ||| Word.field 15 12 tgt ||| Word.field 11 8 guard ||| Word.field 7 0 st.code)).fireIf
    done 17

/-- A request completes: recorded, or for a core or the host flagged by UNREC; event 18 where it is out of range
(R78, R86). -/
def reqRecord (s : State) (recorded : Bool) (src : ReqSource) (tgt guard : Nat) (st : Status) : State :=
  let s := if recorded then s.reqStat true src tgt guard st
    else if src.code < 3 then s.raise R.MOD_STAT F.MOD_STAT_UNREC else s
  s.fireIf (st == .outOfRange) 18

/-- The outcome of a taken request reaches its source; WRONG_MODE takes the refused path (R59, R62, R485). -/
def reqSource (s : State) (t : Transition) (st : Status) : State :=
  match t.src with
  | .core0 => s.complete .core0 R.MOD_REQ st
  | .core1 => s.complete .core1 R.MOD_REQ st
  | .host => s.complete .host R.MOD_REQ st
  | .engine e => if st = .wrongMode then s.engineRefused e 0x1B t.addr else s
  | .manager => s.modTwn fun x => { x with reply := some st }

/-- The request in progress ends without its change: what a pending transition suspended resumes at the next boundary
(R57). -/
def reqAbandon (s : State) (t : Transition) (guard : Nat) (st : Status) : State :=
  let s := s.modMod fun m => { m with trans := none, suspended := if t.pend then some t.tgt else none }
  (s.reqRecord true t.src t.tgt.code guard st).reqSource t st

/-! ### The change of mode -/

/-- `MOD_MODE.CUR` takes `m` (R57, R86). -/
def setMode (s : State) (m : Mode) : State :=
  (s.modMod fun x => { x with cur := m, prev := x.cur, trans := none, suspended := none }).fire 16

/-- Pair `k` stands in run on both channels (R506). -/
def pairInRun (s : State) (k : Nat) : Bool :=
  let a := (s.reg R.SAF_INLVL).bit k
  let b := (s.reg R.SAF_INLVL).bit (16 + k)
  match s.saf.block.inType k with
  | 1 => a && b
  | 2 => a && !b
  | _ => false

/-- A scan reads the pairs: in run only with both channels at their run levels (R506). An unused pair is shown in
neither, and counts as out of run for a function that names it. -/
def readPairs (s : State) : State :=
  let bits (p : Nat → Bool) : Nat := (((List.range 16).filter p).map (2 ^ ·)).sum
  let used (k : Nat) : Bool := s.saf.block.inType k != 0
  let s := s.setReg R.SAF_INST
    (Word.field 31 16 (bits fun k => used k && !s.pairInRun k) ||| Word.field 15 0 (bits fun k => used k && s.pairInRun k))
  let d : BitVec 16 := BitVec.ofNat 16 (bits fun k => !s.pairInRun k)
  s.modSaf fun x => { x with demand := d }

/-- At the entry into IDLE a confirmed block that waits becomes active (R68, R521). Its functions start as after reset, and its
pairs are read at once (log entry 178). -/
def activateBlock (s : State) : State :=
  if s.bit R.SAF_STATE F.SAF_STATE_PENDING then
    let s := s.modSaf fun x =>
      { x with
        block := x.flash, confirmed := true, count := Vector.replicate 16 0, withheld := 0, fresh := 0
        tumble := Vector.replicate 16 [] }
    (((s.setFld R.SAF_STATE F.SAF_STATE_PENDING 0).setFld R.SAF_STATE F.SAF_STATE_BLOCK 1).setReg R.SAF_KEY
      s.saf.flashKey).setReg R.SAF_FUNC 0xFFFFFFFF |>.readPairs
  else s

/-- Every engine is STOPPED and every register of SEQ holds its reset value (R110). -/
def seqOff (s : State) : State :=
  { s with seq := Vector.replicate 8 Engine.reset, regs := s.regs.filter fun p => p.1 / 65536 != 2 }

/-- The entry into OFF: sleep entry begins, no boundary follows, the engines and the timebases stand, and the pads take the
states of R72 (R69, R72, R110, R249). -/
def sleepBegin (s : State) : State :=
  let s := s.dropEnables.outputsOff.seqOff.modMod fun m => { m with sleeping := true, keptWake := 0 }
  let s := s.setReg R.GTE_OUT 0
  { s with
    clk := { s.clk with started := false, aligned := false, due := false }
    wfu := { s.wfu with tb := s.wfu.tb.map fun t => { t with running := false, stopping := false } }
    pos := { s.pos with emu := State.reset.pos.emu } }

/-- The change to `m` with what its entry brings. -/
def enterMode (s : State) (m : Mode) : State :=
  let s := s.setMode m
  match m with
  | .idle => s.activateBlock
  | .off => s.sleepBegin
  | .boot | .commission | .parked | .drive | .field | .charge | .supply | .service | .limp | .lockout => s

/-! ### Lock-out (R59, R73, R517, R579) -/

/-- The lock-out is in force or pending. -/
def locking (s : State) : Bool := s.mod.lock != .none

/-- The cause and detail are recorded and latched (R73, R84). -/
def lockRecord (s : State) (cause detail : Nat) : State :=
  let w := s.reg R.MOD_LOCKCAUSE
  let w := if w.bit 31 then w else Word.field 31 31 1 ||| Word.field 15 8 detail ||| Word.field 7 0 cause
  s.setReg R.MOD_LOCKCAUSE (w ||| Word.field 31 0 (2 ^ (15 + cause)))

/-- A controlled stop may precede a lock-out for `cause` (R517). -/
def stopAllowed (s : State) (cause : Nat) : Bool :=
  [5, 6, 8, 9, 10].contains cause && s.saf.block.csMask.testBit cause && s.up

/-- The safe speed (R513). -/
def safeSpeed (s : State) : Nat := max s.saf.v1 s.saf.v2

/-- The lock-out of a safety fault: recorded; a request in progress is abandoned; the steps of the table of R73 begin
at once or after a controlled stop (R59, R73, R517). -/
def raiseLockout (s : State) (cause detail : Nat) : State :=
  if s.mode = .off then s
  else
    let s := s.lockRecord cause detail
    let now (s : State) : State :=
      (s.modMod fun m => { m with lock := .inForce }).modSaf fun x => { x with stop := none }
    match s.mod.lock with
    | .inForce => s
    | .pending => if s.stopAllowed cause then s else now s
    | .none =>
      let s := match s.mod.trans with
        | some t => s.reqAbandon t 0 .wrongMode
        | none => s
      let s := (s.modMod fun m => { m with suspended := none }).modTwn fun x => { x with announced := none }
      if s.stopAllowed cause then
        let s := s.modMod fun m => { m with lock := .pending }
        match s.saf.stop with
        | some c => s.modSaf fun x => { x with stop := some { c with enmask := c.enmask ||| 3, cause := some (cause, detail) } }
        | none =>
          let c : CStop := ⟨none, 3, some (cause, detail), s.saf.block.tcs, [((s.safeSpeed : Int), 0)]⟩
          (s.modSaf fun x => { x with stop := some c }).fire 25
      else now s

/-- Step 4 of the table of R73: LOCKOUT is entered and recorded (R78, R86). -/
def lockoutEnter (s : State) : State :=
  if s.clk.clocked then ((s.enterMode .lockout).fire 20).reqStat true .manager Mode.lockout.code 0 .ok
  else s.modMod fun m => { m with cur := .lockout, prev := m.cur, trans := none, suspended := none }

/-- Steps 1 to 3 of the table of R73, and step 4 where no boundary can follow (R73, R579). -/
def lockoutSteps (s : State) : State :=
  if s.mod.lock = .inForce && !s.mod.lockDone then
    let s := s.dropEnables.outputsOff.modMod fun m => { m with lockDone := true }
    if (!s.clk.started || s.clk.fault) && s.mode ≠ .lockout then s.lockoutEnter else s
  else s

/-! ### Guards and entry actions (R56, R512) -/

/-- State of function `f`: 0 run, 1 demand, 2 latched, 3 unused (R528). -/
def fnState (s : State) (f : Nat) : Nat := (s.reg R.SAF_FUNC).bits (2 * f + 1) (2 * f)

/-- Every function of the kinds `ks` is in run. -/
def fnsInRun (s : State) (ks : List Nat) : Bool :=
  (List.range 16).all fun f => !ks.contains (s.saf.block.fnKind f) || s.fnState f == 0

/-- No function withholds a traction enable (R511, R512). -/
def tractionFree (s : State) : Bool :=
  (List.range 16).all fun f => !s.saf.withheld.getLsbD f || s.saf.block.fnEnmask f % 4 == 0

/-- A bit of `MOD_DEG` stands, in a pair on either module (R485). -/
def degraded (s : State) : Bool :=
  s.reg R.MOD_DEG != 0 || (s.paired && (match s.twn.heard with | some h => h.deg != 0 | none => false))

/-- The `WAKE` pad reads low. No command tells its level: the value is free (log entry 56). -/
def wakeLow (s : State) : Bool := (Config.freeWord 56 s.freeCount).bit 0

/-- The code of the first failing guard of the transition, 0 where all hold; `MOD_DEG` = 0 of a start from PARKED is
judged apart (R56, R512). -/
def guardCode (s : State) (cur tgt : Mode) : Nat :=
  let first (l : List (Bool × Nat)) : Nat := ((l.find? fun p => !p.1).map (·.2)).getD 0
  let still := decide (s.safeSpeed < s.saf.block.vPark)
  match cur, tgt with
  | .idle, .parked | .idle, .charge | .idle, .service => first [(still, 1)]
  | .drive, .parked | .field, .parked | .limp, .parked => first [(still, 1)]
  | .idle, .off | .commission, .off => first [(s.wakeLow, 6)]
  | .parked, .drive | .parked, .field =>
    first [(!s.enpConn, 2), (s.fnsInRun [1, 2], 4), (s.tractionFree && !s.locking, 7)]
  | .drive, .field => first [(decide (s.safeSpeed ≤ s.saf.block.vField), 1), (s.fnsInRun [5], 10)]
  | .parked, .charge => first [(s.enpConn, 3)]
  | .parked, .supply => first [(s.enpConn || s.bit R.ENP_CFG F.ENP_CFG_EXTOOL, 3)]
  | .limp, .drive => first [(!s.degraded, 5)]
  | _, _ => 0

/-- The request is carried out as a transition to LIMP (R60). -/
def redirects (s : State) (cur tgt : Mode) : Bool :=
  cur == .parked && (tgt == .drive || tgt == .field) && s.degraded

/-- The entry action of the transition is confirmed, or it has none (R56). -/
def entryDone (s : State) (cur tgt : Mode) : Bool :=
  match cur, tgt with
  | .idle, .parked | .idle, .charge | .drive, .parked | .field, .parked | .limp, .parked =>
    s.bit R.ACT_PARKST F.ACT_PARKST_ENG
  | .parked, .drive | .parked, .field | .parked, .limp => s.bit R.ACT_PARKST F.ACT_PARKST_REL
  | .charge, .parked | .charge, .idle | .supply, .parked => s.enpSafe
  | _, _ => true

/-! ### Requests (R54 to R60) -/

/-- The target is the present mode or a normal successor; under the delivery block only some are (R55, R68). -/
def reqLegal (s : State) (code : Nat) : Bool :=
  s.up && (decide (code = s.mode.code)
    || s.mode.successors.any fun m =>
      decide (m.code = code) && (s.fld R.SAF_STATE F.SAF_STATE_BLOCK != 0 || [Mode.idle, .commission, .off].contains m))

/-- The request is taken: its guards are judged and, where they hold, it waits for the next boundary (R55, R57,
R60). -/
def reqTake (s : State) (src : ReqSource) (tgt : Mode) (addr : Nat) : Status × State :=
  let g := s.guardCode s.mode tgt
  let s := s.when (tgt == .off) takeFree
  if g ≠ 0 then (.outOfRange, s.reqRecord true src tgt.code g .outOfRange)
  else
    let red := s.redirects s.mode tgt
    let tgt := if red then Mode.limp else tgt
    let s := s.when red fun s => s.raise R.MOD_STAT F.MOD_STAT_REDIRECT
    (.ok, (s.modMod fun m => { m with trans := some ⟨src, tgt, red, false, addr⟩ }).reqStat false src tgt.code 0 .ok)

/-- A request of the quiet module is forwarded to the acting lead; the request completes OK as it is forwarded, and BUSY while another
is under way (R485, log entry 162). DESIGN CHOICE, unsafe. -/
def reqForward (s : State) (src : ReqSource) (code addr : Nat) : Status × State :=
  if s.twn.forwarded.isSome then (.busy, s.reqRecord false src code 0 .busy)
  else (.ok, (s.modTwn fun x => { x with forwarded := some (src, BitVec.ofNat 4 code, addr) }).reqStat false src code 0 .ok)

/-- A request for `code` reaches step 7 of R55 and is taken, though its guards may yet turn it away (R54). -/
def reqReaches (s : State) (code : Nat) : Bool :=
  let absent := (code = 7 || code = 8) && !s.hasCharger
  !absent && !s.locking && code != 11 && !s.quiet && s.reqLegal code && s.mod.trans.isNone && !s.mod.took && code != s.mode.code

/-- A mode request is judged (R54, R55, R58): its status, where it completes at once, or OK where it is taken. -/
def modeJudge (s : State) (src : ReqSource) (code addr : Nat) : Status × State :=
  let alone := s.mod.trans.isNone && s.twn.forwarded.isNone
  let finish (st : Status) : Status × State := (st, s.reqRecord alone src code 0 st)
  if (code = 7 || code = 8) && !s.hasCharger then finish .notPresent
  else if s.locking then finish .locked
  else if code = 11 then
    if s.up then (.ok, (s.raiseLockout 9 0).reqRecord true src code 0 .ok) else finish .wrongMode
  else if s.quiet then s.reqForward src code addr
  else if code ≤ 11 && !s.reqLegal code then finish .wrongMode
  else
    match Mode.ofCode code with
    | none => finish .outOfRange
    | some tgt =>
      if s.mod.trans.isSome || s.mod.took then finish .busy
      else if tgt = s.mode then finish .ok
      else s.reqTake src tgt addr

/-- A master's write of `MOD_REQ` (R55, R62, R77). -/
def modeRequest (s : State) (m : Master) (code : Nat) : State :=
  let (st, t) := s.modeJudge (masterSource m) code 0
  let taken := (s.mod.trans.isNone && t.mod.trans.isSome) || (s.twn.forwarded.isNone && t.twn.forwarded.isSome)
  if taken then t else t.complete m R.MOD_REQ st

/-! ### The sample boundary (R57, R59, R73, R485) -/

/-- LIMP by force (R59, R78, R86). -/
def forceLimp (s : State) : State :=
  ((s.enterMode .limp).fire 19).reqStat true .manager Mode.limp.code 0 .ok

/-- The transition is made (R57, R60, R86). -/
def reqComplete (s : State) (t : Transition) : State :=
  let s := (s.enterMode t.tgt).fireIf t.redirected 19
  (s.reqRecord true t.src t.tgt.code 0 .ok).reqSource t .ok

/-- A change is due at this boundary. In a pair the acting lead announces it and both modules make it at the next
(R485). -/
def changeDue (s : State) (m : Mode) (make : State → State) : State :=
  if s.paired then s.modTwn fun x => { x with announced := some m } else make s

/-- The transition in progress at a boundary (R56, R57, R60). -/
def transBoundary (s : State) (t : Transition) : State :=
  let asked := if t.redirected then Mode.drive else t.tgt
  let g := s.guardCode s.mode asked
  let s := s.when (asked == .off) takeFree
  if g ≠ 0 then s.reqAbandon t g .outOfRange
  else
    let red := s.redirects s.mode asked
    let new := red && !t.redirected
    let t : Transition := { t with tgt := if new then .limp else t.tgt, redirected := t.redirected || red, pend := true }
    let s := s.modMod fun m => { m with trans := some t }
    let s := s.when new fun s =>
      (s.raise R.MOD_STAT F.MOD_STAT_REDIRECT).setFld R.MOD_REQSTAT F.MOD_REQSTAT_TGT Mode.limp.code
    if s.entryDone s.mode t.tgt then s.changeDue t.tgt fun s => s.reqComplete t else s

/-- An announced change is made (R485); LIMP by force abandons a request taken since it was announced (R59). -/
def announcedMake (s : State) (m : Mode) : State :=
  let s := s.modTwn fun x => { x with announced := none }
  if s.quiet then
    let forced := m == .limp && (s.mode == .parked || s.degraded)
    (s.enterMode m).fireIf forced 19
  else
    match s.mod.trans with
    | some t => if t.tgt = m && t.pend then s.reqComplete t else (s.reqAbandon t 0 .wrongMode).forceLimp
    | none => s.forceLimp

/-- What a sample boundary does to the mode: LOCKOUT after step 3 of R73, the end of BOOT, an announced change, LIMP by
force, or the transition in progress. -/
def modeBoundary (s : State) : State :=
  let rose := s.mod.degRose
  let s := s.modMod fun m => { m with suspended := none, degRose := false }
  if s.locking then
    if s.mod.lockDone && s.mode ≠ .lockout then s.lockoutEnter else s
  else if s.mode = .boot then
    if s.mod.boot = .ready then (s.modMod fun m => { m with boot := .done }).enterMode .idle else s
  else if s.mode = .off then s
  else
    match s.twn.announced with
    | some m => s.announcedMake m
    | none =>
      if s.quiet then s
      else if (s.mode = .drive || s.mode = .field) && (rose || s.degraded) then
        let s := match s.mod.trans with
          | some t => s.reqAbandon t 0 .wrongMode
          | none => s
        s.changeDue .limp forceLimp
      else
        match s.mod.trans with
        | some t => s.transBoundary t
        | none => s

/-- The entry action of the pending transition was not confirmed in time (R57); a change that has been announced is made (R485). -/
def transTimeout (s : State) : State :=
  match s.mod.trans with
  | some t =>
    if t.pend && s.twn.announced.isNone && !s.entryDone s.mode t.tgt then
      ((s.reqAbandon t 0 .timeout).raise R.MOD_STAT F.MOD_STAT_TRANS_TO).fire 22
    else s
  | none => s

/-- What `MOD_MODE` reads as (R76). -/
def modView (s : State) (r : Nat) : Option Word :=
  if r = R.MOD_MODE then
    let lock := s.locking && s.mode != .lockout
    let tgt := if lock then Mode.lockout else
      match s.mod.trans with
      | some t => if t.pend then t.tgt else s.mode
      | none => s.mode
    let pend := lock || (match s.mod.trans with | some t => t.pend | none => false)
    some (Word.field 16 16 (Word.ofBool pend) ||| Word.field 11 8 s.mod.prev.code ||| Word.field 7 4 tgt.code
      ||| Word.field 3 0 s.mode.code)
  else none

/-- `nFAULT` is released: past step 8 of R66, with no lock-out beyond step 3 and no clock fault (R34, R72, R73). -/
def nFaultHigh (s : State) : Bool := s.up && !s.mod.lockDone && !s.clk.fault

end State

/-- MODE_REQUEST (R55). -/
def execModeRequest (m : Master) (tgt : BitVec 4) (s : State) : Host.Outcome State Fault Refusal :=
  .next (s.modeRequest m tgt.toNat)

/-- LOCKOUT_REQUEST (R58). -/
def execLockoutRequest (m : Master) (s : State) : Host.Outcome State Fault Refusal := .next (s.modeRequest m 11)

/-- TRANSITION_TIMEOUT (R57). -/
def execTransitionTimeout (s : State) : Host.Outcome State Fault Refusal := .next s.transTimeout

/-- LOCKOUT_SEQUENCE (R73, R579). -/
def execLockoutSequence (s : State) : Host.Outcome State Fault Refusal := .next s.lockoutSteps

/-- OVER_VOLTAGE: a safety fault with cause 0x03 (R70). -/
def execOverVoltage (s : State) : Host.Outcome State Fault Refusal := .next (s.raiseLockout 3 0)

/-- RAIL_FAULT: event 5 and a safety fault with cause 0x02 (R70). -/
def execRailFault (rail : BitVec 8) (s : State) : Host.Outcome State Fault Refusal :=
  .next (if s.mode = .off then s else (s.fire 5).raiseLockout 2 rail.toNat)

/-- DRIVER_SUPPLY_DIP_EXPIRY: a dip of 10 µs is the rail fault (R302); the rails' numbers are free (log entry 57). -/
def execDriverSupplyDipExpiry (s : State) : Host.Outcome State Fault Refusal :=
  .next (if s.gdp.dip then
    ({ s with gdp := { s.gdp with dip := false } }.fire 5).takeFree.raiseLockout 2
      ((Config.freeWord 57 s.freeCount).bits 7 0)
  else s)

/-- VIN_LOW (R70). -/
def execVinLow (s : State) : Host.Outcome State Fault Refusal := .next (if s.mode = .off then s else s.fire 3)

/-- VIN_HIGH (R70). -/
def execVinHigh (s : State) : Host.Outcome State Fault Refusal := .next (if s.mode = .off then s else s.fire 4)

end Sys2Proof.Machine
end

