-- ==== Sys2Proof/Machine/Reset.lean ====
section
/-!
DEFINITION. Resets, wake and start-up (R65 to R72, R74, R578), clock faults (R33, R34) and the sample period (R21 to R30).
-/

namespace Sys2Proof.Machine

/-- `SYS_ID` (R40). -/
def sysId (v : Variant) : Word :=
  Word.field 31 16 0x1C0A ||| Word.field 15 8 v.part.code ||| Word.field 7 4 (Word.ofBool v.gradeK)
    ||| Word.field 3 0 v.step.toNat

/-- `SYS_CAPS` (R42). -/
def sysCaps : Part → Word
  | .ixl4800 => 0x008800FF | .ixl4810 => 0x008800FB | .ixl4820 => 0x008800F7 | .ixl4830 => 0x008800F1

/-- A wake source as a bit of `MOD_WAKESRC` (R82). -/
def wakeBit : WakeSource → Nat
  | .pad => 1 | .pilot => 2 | .can c => 2 ^ (8 + c.val)

/-- What code flash holds of a memory: it keeps its contents in every state (R578). -/
def flashCells (l : List Host.Cell) : List Host.Cell := l.filter fun c => decide (c.1 < 0x00400000)

namespace State

/-! ### Reset -/

/-- The module after a reset, before any step of R66, with the memory `mem`: every register of every unit at its reset
value, and what safety flash holds: the block and its key, the lock-out record, the fault bits of `SYS_CLKSTAT` and
`SAF_DISC` (R45, R74, R507, R530, R578). -/
def fresh (s : State) (mem : List Host.Cell) : State :=
  let saf : SafState :=
    { SafState.reset with block := s.saf.flash, flash := s.saf.flash, flashKey := s.saf.flashKey, confirmed := s.saf.confirmed }
  let t : State :=
    { State.reset with
      pending := s.pending, variant := s.variant, regs := [], mem := mem, saf := saf, freeCount := s.freeCount }
  let t := (((t.setReg R.SYS_ID (sysId s.variant)).setReg R.SYS_CAPS (sysCaps s.variant.part)).setReg R.SYS_UID0
    s.variant.uid0).setReg R.SYS_UID1 s.variant.uid1
  let t := t.setReg R.MOD_WAKECFG (if s.hasCharger then 0x103 else 0x101)
  ((t.setReg R.MOD_LOCKCAUSE (s.reg R.MOD_LOCKCAUSE)).setReg R.SAF_DISC (s.reg R.SAF_DISC)).setReg R.SYS_CLKSTAT
    (s.reg R.SYS_CLKSTAT &&& 0xC)

/-- The role of R475: that of the block, or the pad's. -/
def bootRole (s : State) (rolePad : Bool) : Nat :=
  if s.saf.block.role = 3 then (if rolePad then 1 else 2) else s.saf.block.role

/-- A fault found by a step of R66: recorded, and the lock-out stands when BOOT ends (R66, R73). -/
def bootFault (s : State) (cause detail : Nat) : State :=
  (s.lockRecord cause detail).modMod fun m => { m with lock := .inForce, lockDone := true }

/-- Step 5: the block, its fields and its key, where an unconfirmed block is good only as the delivery block (R68, R522),
and the lock-out latch (R74). -/
def bootCheck (s : State) : State :=
  let x := s.saf
  let good := (x.flash.bad s.variant.part.code).isNone && x.flashKey == x.flash.key
  let s := s.setReg R.SAF_KEY x.flashKey
  let s :=
    if good && x.confirmed then s.setFld R.SAF_STATE F.SAF_STATE_BLOCK 1
    else if good && x.flash.isDelivery then s.setFld R.SAF_STATE F.SAF_STATE_BLOCK 0
    else (s.setFld R.SAF_STATE F.SAF_STATE_BLOCK 2).bootFault 7 0
  if s.bit R.MOD_LOCKCAUSE F.MOD_LOCKCAUSE_LATCHED then
    s.modMod fun m => { m with lock := .inForce, lockDone := true }
  else s

/-- A core starts or is held as the straps select (R67, R535). -/
def coreStart (straps : Nat) (c : Core) : Core :=
  if straps = 1 then c else if straps = 2 then { c with released := true, halted := true } else { c with released := true }

/-- Steps 1 to 7 of R66 on a module just reset; step 8 falls on the next sample boundary. A VCP out of its window at step 7
is taken as the rail fault of R302, the rail's number free (log entries 57, 139). DEDUCED, safe. A member of a commissioned
pair starts without its partner (R476). -/
def boot (s : State) (b : BootIn) : State :=
  let s := { s with clk := { s.clk with started := true } }
  let s := s.setReg R.SYS_CLKSTAT (s.reg R.SYS_CLKSTAT ||| 3)
  let s := if b.selfTest then s.raise R.SAF_STATE F.SAF_STATE_SELFTEST else s.bootFault 4 0
  let role := s.bootRole b.rolePad
  let s := s.modSaf fun x => { x with role := role, puid1 := BitVec.ofNat 32 (x.block.u32 4), puid0 := BitVec.ofNat 32 (x.block.u32 8) }
  let s := if s.hasPairs then
      (s.setFld R.TWN_ST F.TWN_ST_ROLE role).setFld R.TWN_ST F.TWN_ST_ROLEPAD (Word.ofBool b.rolePad)
    else s
  let s := s.bootCheck
  let n := b.straps.toNat
  let s := s.when (n == 3) fun s => s.raise R.MOD_STAT F.MOD_STAT_BOOTSEL_RSV
  let s := (s.setFld R.HPT_BOOTCTL F.HPT_BOOTCTL_BOOTSEL n).setFld R.HPT_BOOTCTL F.HPT_BOOTCTL_RELEASE
    (if n = 0 || n = 3 then 3 else 0)
  let s := { s with evt := { s.evt with core0 := coreStart n s.evt.core0, core1 := coreStart n s.evt.core1 } }
  let s := { s with gdp := { s.gdp with vcpOk := b.vcp, vdrvOk := true } }
  let s := if b.vcp then s else s.takeFree.bootFault 2 ((Config.freeWord 57 s.freeCount).bits 7 0)
  let s := match b.comparatorFail with
    | some leg => s.bootFault 10 leg.val
    | none => s
  let s := s.when (s.hasPairs && role != 0 && s.fld R.SAF_STATE F.SAF_STATE_BLOCK == 1) fun s =>
    s.setDeg F.MOD_DEG_PARTNER true
  s.modMod fun m => { m with boot := .ready }

/-- A reset with cause bits `cause` of `MOD_RSTCAUSE`, and the start-up that follows (R71, R83). `MOD_WAKESRC` reads
POWERON after a power-on and 0 after any other reset, for which R82 states no value (log entry 138). DESIGN CHOICE, unsafe. -/
def resetWith (s : State) (cause wakesrc : Nat) (mem : List Host.Cell) (b : BootIn) : State :=
  (((s.fresh mem).setReg R.MOD_RSTCAUSE (BitVec.ofNat 32 cause)).setReg R.MOD_WAKESRC (BitVec.ofNat 32 wakesrc)).boot b

/-- The start from OFF by the sources `src`: as a reset, but what R578 names survives (R65, R66, R578). -/
def wakeWith (s : State) (src : Word) (b : BootIn) : State :=
  (((s.fresh (flashCells s.mem)).setReg R.MOD_RSTCAUSE (s.reg R.MOD_RSTCAUSE)).setReg R.MOD_WAKESRC src).setReg
    R.MOD_WAKECFG (s.reg R.MOD_WAKECFG) |>.boot b

/-- A wake (R65, R69). -/
def wake (s : State) (w : WakeSource) (b : BootIn) : State :=
  let bitv : Word := BitVec.ofNat 32 (wakeBit w)
  if s.mode = .off && s.reg R.MOD_WAKECFG &&& bitv != 0 then
    if s.mod.sleeping then s.modMod fun m => { m with keptWake := m.keptWake ||| bitv } else s.wakeWith bitv b
  else s

/-- Sleep entry ends (R69). -/
def sleepEnd (s : State) (b : BootIn) : State :=
  if s.mod.sleeping then
    let kept := s.mod.keptWake
    let s := s.modMod fun m => { m with sleeping := false, keptWake := 0 }
    if kept = 0 then s else s.wakeWith kept b
  else s

/-! ### Deliberate reset (R74) -/

/-- The condition that raised `cause` no longer holds (R74). -/
def causeGone (s : State) (railsOk vinOk : Bool) (cause : Nat) : Bool :=
  if cause = 1 then s.reg R.SYS_CLKSTAT &&& 3 == 3
  else if cause = 2 || cause = 3 then railsOk && vinOk
  else if cause = 5 then (List.range 16).all fun k => !(s.reg R.SAF_DISC).bit k || s.pairInRun k
  else if cause = 7 then s.bit R.SAF_STATE F.SAF_STATE_PENDING || s.fld R.SAF_STATE F.SAF_STATE_BLOCK == 1
  else true

/-- Every recorded cause is gone. -/
def causesGone (s : State) (railsOk vinOk : Bool) : Bool :=
  (List.range 10).all fun i => !(s.reg R.MOD_LOCKCAUSE).bit (16 + i) || s.causeGone railsOk vinOk (1 + i)

/-- The deliberate reset: the latch, the fault bits of `SYS_CLKSTAT` and `SAF_DISC` clear (R45, R74, R507). -/
def deliberateReset (s : State) (b : BootIn) : State :=
  let s := ((s.setReg R.MOD_LOCKCAUSE 0).setReg R.SAF_DISC 0).setReg R.SYS_CLKSTAT 0
  s.resetWith 8 0 s.mem b

/-! ### Clock faults (R33, R34) -/

/-- A clock fault: the pads take their reset states (Pads.lean has those that follow other state), the cause is recorded and
the module locks out. Event 2 is raised where the CORE clock surely runs, and freely otherwise (R34, log entry 58). -/
def clockFault (s : State) (k : ClockFaultKind) : State :=
  if s.mode = .off then s
  else
    let free := (Config.freeWord 58 s.freeCount)
    let s := s.takeFree
    let w := s.reg R.SYS_CLKSTAT
    let (w, clocked) : Word × Bool := match k with
      | .crystalOutOfTolerance => ((w ||| 4) &&& ~~~2, true)
      | .crystalStopped => (((w ||| 4) &&& ~~~2).setBits 0 0 (Word.ofBool (free.bit 1 && w.bit 0)), free.bit 0)
      | .lockLost => ((w ||| 8) &&& ~~~1, free.bit 0)
    let s := s.setReg R.SYS_CLKSTAT w
    let s := (s.dropEnables.outputsOff.setReg R.GTE_OUT 0).modEnp fun e => { e with s2 := false, pilot := 0, relay := false }
    let s := { s with clk := { s.clk with fault := true, clocked := clocked && s.clk.clocked } }
    (s.fireIf s.clk.clocked 2).raiseLockout 1 0

/-! ### The sample period (R21 to R30) -/

/-- A write of `SYS_SMPL`: accepted in IDLE and SERVICE, in effect from the next boundary (R30). -/
def smplWrite (s : State) (w : Word) : State :=
  if s.mode = .idle || s.mode = .service then (s.setReg R.SYS_SMPL w).setShadow R.SYS_SMPL w
  else s.raise R.SYS_STAT F.SYS_STAT_SMPL_IGN

/-- At a boundary an accepted `SYS_SMPL` takes effect; a timebase-0 sample outside 10 µs to 200 µs falls back to PERIOD
(R23, R30). -/
def smplBoundary (s : State) : State :=
  let s := match s.shadowOf R.SYS_SMPL with
    | some w =>
      { s with clk := { s.clk with smplEff := w, fallback := false }, shadow := kvErase s.shadow R.SYS_SMPL }
    | none => s
  if s.clk.smplEff.bit 12 && !s.clk.fallback && s.tbRunning 0 && (s.sampleNs < 10000 || 200000 < s.sampleNs) then
    ({ s with clk := { s.clk with fallback := true } }.raise R.SYS_STAT F.SYS_STAT_SMPL_RANGE).fire 1
  else s

end State

/-- WAKE (R65, R66, R69, R578). -/
def execWake (w : WakeSource) (b : BootIn) (s : State) : Host.Outcome State Fault Refusal := .next (s.wake w b)

/-- POWER_ON (R66, R71). -/
def execPowerOn (b : BootIn) (s : State) : Host.Outcome State Fault Refusal :=
  .next (s.resetWith 1 (2 ^ 31) (flashCells s.mem) b)

/-- SLEEP_ENTRY_END (R69). -/
def execSleepEntryEnd (b : BootIn) (s : State) : Host.Outcome State Fault Refusal := .next (s.sleepEnd b)

/-- BROWN_OUT (R70, R71). -/
def execBrownOut (b : BootIn) (s : State) : Host.Outcome State Fault Refusal :=
  .next (s.resetWith 2 0 (flashCells s.mem) b)

/-- NRESET (R71). -/
def execNreset (b : BootIn) (s : State) : Host.Outcome State Fault Refusal := .next (s.resetWith 4 0 s.mem b)

/-- CLOCK_FAULT (R33, R34). -/
def execClockFault (k : ClockFaultKind) (s : State) : Host.Outcome State Fault Refusal := .next (s.clockFault k)

/-- SYS_SMPL_WRITE (R30); reserved bits written as one are a host mistake (R49). -/
def execSysSmplWrite (m : Master) (value : Word) (s : State) : Host.Outcome State Fault Refusal :=
  if value.bits 31 13 ≠ 0 then .fault .hostMistake else .next ((s.smplWrite value).setStatus m .ok)

end Sys2Proof.Machine
end

