-- ==== Sys2Proof/Machine/SafetyCtl.lean ====
section
/-!
DEFINITION. The safety controller (R502 to R523): inputs and the tumbler check, safe speeds, functions, controlled
stops, enables and outputs, the scan, the reset input, and the commissioning commands.
-/

namespace Sys2Proof.Machine

/-- What a scan's function step leaves: the functions' states, the functions that withhold, those whose controlled stop
starts, and the events. -/
structure FnStep where
  states : Nat
  withheld : BitVec 16
  fresh : BitVec 16
  starts : List Nat
  count : Vector Nat 16
  demand : Bool
  speed : Bool
  deriving DecidableEq, Repr

namespace State

/-- The safety cores run (R502, R530). -/
def safOn (s : State) : Bool := s.mode != .off && s.mod.boot != .early && s.clk.clocked

/-- `f` is applied while the safety cores run. -/
def whenSaf (s : State) (f : State → State) : State := if s.safOn then f s else s

/-! ### Inputs (R506, R507) -/

/-- One channel has changed; `toRun` tells whether it came to its run level. It follows the oldest open change of the other
channel the same way, whose check ends; where there is none it opens a check of its own (R507). -/
def tumbled (chanA toRun : Bool) (l : List Tumble) : List Tumble :=
  if l.contains ⟨!chanA, toRun⟩ then l.erase ⟨!chanA, toRun⟩ else l ++ [⟨chanA, toRun⟩]

/-- A channel of pair `k` has changed (R507). -/
def tumblerChange (s : State) (k : Fin 16) (chanA toRun : Bool) : State :=
  s.modSaf fun x => { x with tumble := vupd x.tumble k (tumbled chanA toRun) }

/-- The filtered levels of pair `k` are `a` and `b` (R506, R507). -/
def safetyInput (s : State) (k : Fin 16) (a b : Bool) : State :=
  let was := s.reg R.SAF_INLVL
  let ty := s.saf.block.inType k.val
  let s := s.setReg R.SAF_INLVL ((was.setBits k.val k.val (Word.ofBool a)).setBits (16 + k.val) (16 + k.val) (Word.ofBool b))
  let s := s.when (ty != 0 && was.bit k.val != a) fun s => s.tumblerChange k true a
  s.when (ty != 0 && was.bit (16 + k.val) != b) fun s => s.tumblerChange k false (b == (ty == 1))

/-- The other channel has not followed the oldest open change within TDISC (R507). -/
def tumblerFail (s : State) (k : Fin 16) : State :=
  if s.saf.tumble[k] ≠ [] then
    let s := s.modSaf fun x => { x with tumble := vupd x.tumble k List.tail }
    (s.modReg R.SAF_DISC (· ||| BitVec.ofNat 32 (2 ^ k.val))).raiseLockout 5 k.val
  else s

/-! ### Safe speed (R513) -/

/-- The counter of a speed axis. -/
def safCounter (s : State) (ax : Nat) : Word := if ax ≤ 10 then s.axisPos ax else 0

/-- A speed of R513 in 1/16 tu per ms: the change over ten scans times the unsigned Q8.24 coefficient (R186), over 10 ms,
as a magnitude; the rounding is free (log entry 8). -/
def safSpeed (now old coef : Word) : Nat :=
  (freeDiv 58 ((modDiff now old).natAbs * coef.toNat * 16 : Nat) (2 ^ 24 * 10)).toNat

/-- A scan reads the speeds and judges their disagreement (R513). -/
def readSpeeds (s : State) : State :=
  let b := s.saf.block
  let now := (s.safCounter b.ax1, s.safCounter b.ax2)
  let old := (s.saf.track.take 10).getLast?.getD now
  let v1 := safSpeed now.1 old.1 (BitVec.ofNat 32 b.coef1)
  let v2 := safSpeed now.2 old.2 (BitVec.ofNat 32 b.coef2)
  let v := max v1 v2
  let inv := (b.ax1 ≤ 10 && s.axisInvalid b.ax1) || (b.ax2 ≤ 10 && s.axisInvalid b.ax2)
  let bad := inv || decide (((100 * min v1 v2 : Nat) : Int) < (v * (100 - b.rel) : Nat) - (100 * b.vAbs : Nat))
  let stood := s.saf.disagree
  let s := s.modSaf fun x =>
    { x with v1 := v1, v2 := v2, invalid := inv, track := now :: x.track.take 9, disagree := if bad then stood + 1 else 0 }
  let s := s.setReg R.SAF_SPD (Word.field 31 16 (min 65535 v2) ||| Word.field 15 0 (min 65535 v1))
  if bad && b.tDisc ≤ stood then s.raiseLockout 10 0x20 else s

/-! ### Functions (R514) -/

/-- The speed limit of an SLS function in the present mode (R514). -/
def slsLimit (s : State) : Option Nat :=
  match s.mode with
  | .drive => some s.saf.block.vRoad
  | .field => some s.saf.block.vField
  | .limp => some s.saf.block.vLimp
  | .off | .boot | .idle | .commission | .parked | .charge | .supply | .service | .lockout => none

/-- IN1 of function `f` is out of run, as the scan before read it (R505). -/
def fnIn1 (s : State) (f : Nat) : Bool :=
  let k := s.saf.block.fnIn1 f
  decide (k < 16) && s.saf.demand.getLsbD k

/-- What function `f` times is present: PRESENCE's input, SLS's excess (R514). -/
def fnTimed (s : State) (f : Nat) : Bool :=
  match s.saf.block.fnKind f with
  | 2 => s.fnIn1 f
  | 4 => (match s.slsLimit with | some l => decide (l < s.safeSpeed) | none => false)
  | _ => false

/-- Function `f` is in demand (R514). -/
def fnDemand (s : State) (f : Fin 16) : Bool :=
  let b := s.saf.block
  match b.fnKind f.val with
  | 2 => s.fnTimed f.val && decide (b.fnTdly f.val ≤ s.saf.count[f])
  | 3 => s.fnIn1 f.val || decide (b.vPark ≤ s.safeSpeed)
  | 4 => s.fnTimed f.val && decide (b.tTol ≤ s.saf.count[f])
  | _ => s.fnIn1 f.val

/-- Function `f` reacts by a controlled stop (R514, R515). -/
def fnStops (s : State) (f : Nat) : Bool :=
  [1, 2, 4].contains (s.saf.block.fnKind f) && s.saf.block.fnReact f == 1

/-- The state of function `f` at this scan's step 3, into what the step leaves (R505, R514). Entering demand raises event 24 and
starts a controlled stop, but where the function is latched and withholds its enables already. -/
def fnStep (s : State) (f : Fin 16) (r : FnStep) : FnStep :=
  let b := s.saf.block
  let kind := b.fnKind f.val
  let prev := s.fnState f.val
  let dem := s.fnDemand f
  let new := if kind = 0 then 3 else if dem then 1
    else if (prev = 1 || prev = 2) && b.fnManrst f.val && kind ≠ 3 then 2 else 0
  let held := s.saf.withheld.getLsbD f.val
  let withholds := if kind = 0 || new = 0 then false else if kind = 3 then s.fnIn1 f.val
    else if s.fnStops f.val then held else true
  let timed := s.fnTimed f.val
  let bitf (c : Bool) : BitVec 16 := if c then BitVec.ofNat 16 (2 ^ f.val) else 0
  let rises := decide (kind ≠ 0 ∧ prev ≠ 1 ∧ new = 1)
  let starts := r.starts ++ (if rises && s.fnStops f.val && !(prev = 2 && held) then [f.val] else [])
  { states := r.states + new * 4 ^ f.val
    withheld := r.withheld ||| bitf withholds
    fresh := r.fresh ||| bitf (decide (new ≠ prev ∧ (new = 1 ∨ new = 2)))
    starts := starts
    count := vupd r.count f fun n => if timed then min 65536 (n + 1) else 0
    demand := r.demand || rises
    speed := r.speed || (decide (kind = 4) && timed && decide (s.saf.count[f] = 0)) }

/-- All functions. -/
def fnSteps (s : State) : FnStep := forFin 16 (fun f r => s.fnStep f r) ⟨0, 0, 0, [], s.saf.count, false, false⟩

/-! ### Controlled stops (R515 to R517) -/

/-- The speed `v` lies above a monitor line (R515). -/
def lineCrossed (b : SafBlock) (v : Nat) (l : Int × Nat) : Bool :=
  decide (1000 * (l.1 + b.vTol) - (b.adec * (l.2 - b.dcs) : Nat) < 1000 * (v : Int))

/-- The enables that functions withhold (R511, R514). -/
def withheldEnables (s : State) : Nat :=
  let b := s.saf.block
  let park (f : Nat) : Bool := b.fnKind f == 3
  let own := (List.range 16).foldl (fun g f =>
    if s.saf.withheld.getLsbD f then g ||| (if park f then b.fnEnmask f % 4 else b.fnEnmask f) else g) 0
  if (List.range 16).any park && b.vPark ≤ s.safeSpeed then own ||| 32 else own

/-- Enables are removed by a function's reaction (R511, R529). -/
def removeEnables (s : State) (mask : Nat) : State :=
  let old := (s.reg R.SAF_EN).toNat
  let new := old &&& (511 ^^^ (mask &&& 511))
  let s := s.takeGrants mask
  if new = old then s else (s.setEnables new).fire 26

/-- The controlled stop ends in safe torque off; the steps of a lock-out that waited follow (R515, R517). -/
def stopEnd (s : State) : State :=
  match s.saf.stop with
  | none => s
  | some c =>
    let hold : BitVec 16 := BitVec.ofNat 16 ((((List.range 16).filter fun f =>
      s.fnStops f && (s.fnState f == 1 || s.fnState f == 2)).map (2 ^ ·)).sum)
    let s := s.modSaf fun x => { x with stop := none, withheld := x.withheld ||| hold }
    let s := if c.cause.isSome then s.modMod fun m => { m with lock := .inForce } else s
    s.removeEnables c.enmask

/-- The running stop is watched; the speed is that of the scan before (R505, R515). -/
def stopWatch (s : State) : State :=
  match s.saf.stop with
  | none => s
  | some c =>
    let b := s.saf.block
    let v := s.safeSpeed
    if v < b.vStill || c.lines.any (lineCrossed b v) then s.stopEnd
    else s.modSaf fun x =>
      { x with stop := some { c with left := c.left - 1, lines := c.lines.map fun l => (l.1, l.2 + 1) } }

/-- Function `f`'s controlled stop starts from the speed `v0`; during another the earlier deadline and the lower line
hold (R515, R516). -/
def stopStart (s : State) (v0 f : Nat) : State :=
  let b := s.saf.block
  let c : CStop := match s.saf.stop with
    | none => ⟨some f, b.fnEnmask f, none, b.tcs, [((v0 : Int), 0)]⟩
    | some c => { c with enmask := c.enmask ||| b.fnEnmask f, left := min c.left b.tcs, lines := c.lines ++ [((v0 : Int), 0)] }
  (s.modSaf fun x => { x with stop := some c }).fire 25

/-! ### Grants and outputs (R508, R511) -/

/-- Enable `i` of the nine is present, and its function permitted by `m` (R4, R511). -/
def enablePermitted (s : State) (m : Mode) (i : Nat) : Bool :=
  let p := m.permits s.limpSec
  match i with
  | 0 => p .traction
  | 1 => s.hasB && p .traction
  | 2 => p .aux
  | 3 => s.hasCharger && (p .charger || p .exportPort)
  | 4 => p .gearbox
  | 5 => p .parkLock
  | 6 => p .gearbox
  | _ => p .aux

/-- The grants of a scan (R511). -/
def grants (s : State) : Nat :=
  let held := s.withheldEnables
  let ok (i : Nat) : Bool :=
    !s.lockInForce && !held.testBit i
      && (s.enablePermitted s.mode i
        || (match s.mod.trans with | some t => t.pend && s.enablePermitted t.tgt i | none => false))
  (((List.range 9).filter ok).map (2 ^ ·)).sum

/-- What function `f` wants of its output; none for a kind that drives none (R514, R524). -/
def fnWants (s : State) (f : Nat) : Option Bool :=
  match s.saf.block.fnKind f with
  | 1 | 2 => some (s.fnState f == 0)
  | 5 => some (!s.fnIn1 f && s.permits .sections)
  | 6 => some (s.mode == .charge || s.mode == .supply)
  | _ => none

/-- Output `j` is to be on: used, driven by a function, and wanted by all that drive it (R514). -/
def outputWanted (s : State) (j : Nat) : Bool :=
  let ws := ((List.range 16).filter fun f => s.saf.block.fnOut f == j).filterMap s.fnWants
  s.saf.block.outUse j && s.up && !s.lockInForce && ws != [] && ws.all id

/-- The command of an output: the low switch on first, or both off (R508). -/
def outputNext (want : Bool) (p : OutPhase) : OutPhase :=
  if want then (if p = .off || p = .falling then .lowOn else p) else outputDrop p

/-- The high switch of an output, commanded by core 0, is on (R503, R508). -/
def highOn (p : OutPhase) : Bool := p == .rising || p == .unproved || p == .on

/-- The low switch of an output, commanded by core 1, is on (R503, R508). -/
def lowSwitchOn (p : OutPhase) : Bool := p == .lowOn || p == .lowHeld || highOn p

/-- The outputs follow: on in two steps, off at once (R508). -/
def driveOutputs (s : State) : State :=
  let s := s.setFld R.SAF_OUT F.SAF_OUT_CMD (((List.range 8).filter s.outputWanted).map (2 ^ ·)).sum
  forFin 8 (fun j (s : State) =>
    let want := s.outputWanted j.val
    s.modSaf fun x => { x with out := vupd x.out j (outputNext want) }) s

/-- What the two pads of an output must read in each step, as (`SOj_H`, `SOj_L`); off asks nothing of `SOj_L` (R508). -/
def readbackHolds (p : OutPhase) (h l : Bool) : Bool :=
  match p with
  | .lowOn | .lowHeld => !h && !l
  | .rising | .unproved | .on => h && !l
  | .off | .falling => !h

/-- A step's readback is seen to hold; a transition ends with that of its last step, unless step 1's was never seen (R508). -/
def outputSettled (p : OutPhase) (h l : Bool) : OutPhase :=
  match p with
  | .lowOn => if readbackHolds p h l then .lowHeld else p
  | .rising => if readbackHolds p h l then .on else p
  | .falling => if readbackHolds p h l then .off else p
  | .off | .lowHeld | .unproved | .on => p

/-- The high switch comes on 1 ms after the low one (R508). -/
def outputStep (p : OutPhase) : OutPhase :=
  match p with
  | .lowOn => .unproved
  | .lowHeld => .rising
  | .off | .rising | .unproved | .on | .falling => p

/-- The end of a step's TRB finds its readback not seen to hold (R508). -/
def outputUnheld (p : OutPhase) : Bool := p == .lowOn || p == .rising || p == .unproved || p == .falling

/-- A transition whose last readback holds ends; outside transitions a used output's readback that does not hold locks out
(R508). -/
def outputCheck (s : State) (j : Fin 8) (h l : Bool) : State :=
  let p := s.saf.out[j]
  let s := s.modSaf fun x => { x with out := vupd x.out j fun p => outputSettled p h l }
  s.when (s.saf.block.outUse j.val && (p == .on || p == .off) && !readbackHolds p h l) fun s => s.raiseLockout 6 j.val

/-- Enable pad `x` of the four is bonded out (R4). -/
def xenPresent (s : State) (x : Nat) : Bool := if x = 1 then s.hasB else x != 3 || s.hasCharger

/-! ### The scan (R505) -/

/-- The diagnostics of a scan: the output readbacks outside transitions, the enable readback and the scan's length
(R508, R510, R523). -/
def scanDiagnostics (s : State) (i : ScanIn) : State :=
  let s := ((s.setFld R.SAF_OUT F.SAF_OUT_RBH i.rbh.toNat).setFld R.SAF_OUT F.SAF_OUT_RBL i.rbl.toNat).setFld R.GDP_XEN
    F.GDP_XEN_PAD i.xenPad.toNat
  let s := forFin 8 (fun j (s : State) => s.outputCheck j (i.rbh.getLsbD j.val) (i.rbl.getLsbD j.val)) s
  let low := ~~~(s.reg R.SAF_EN)
  let s := forN 4 (fun x (s : State) =>
    s.when (s.xenPresent x && i.xenPad.getLsbD x && low.getLsbD x && i.stuck.getLsbD x) fun s => s.raiseLockout 6 (0x10 + x)) s
  s.when i.overrun fun s => s.raiseLockout 4 2

/-- The reset input as a scan finds it (R518). -/
def scanReset (s : State) : State :=
  let held := s.saf.demand.getLsbD s.saf.block.rstIn
  if !held then (s.setFld R.SAF_RSTIN F.SAF_RSTIN_HELD 0).setFld R.SAF_RSTIN F.SAF_RSTIN_HOLD 0
  else if !s.bit R.SAF_RSTIN F.SAF_RSTIN_HELD then s.raise R.SAF_RSTIN F.SAF_RSTIN_HELD
  else
    let s := s.countUp R.SAF_RSTIN F.SAF_RSTIN_HOLD
    s.when (10000 < s.fld R.SAF_RSTIN F.SAF_RSTIN_HOLD) fun s => s.raise R.SAF_RSTIN F.SAF_RSTIN_STUCK

/-- The functions' step and the commit of what they decide, from what the scan before read (R505, R511, R514, R515). The
stop that starts takes `v0`, this scan's safe speed. Each core grants what it does not withhold by itself (`hold0`, `hold1`),
and an enable is the AND of the two (R503). -/
def scanCommit (s : State) (v0 : Nat) (hold0 hold1 : BitVec 9) : State :=
  let r := s.fnSteps
  let s := s.setReg R.SAF_FUNC (BitVec.ofNat 32 r.states)
  let s := s.modSaf fun x => { x with withheld := r.withheld, fresh := r.fresh, count := r.count }
  let s := (s.fireIf r.demand 24).fireIf r.speed 31
  let before := s.saf.stop
  let s := s.stopWatch
  let ended := match before, s.saf.stop with
    | some c, none => c.enmask &&& 511
    | _, _ => 0
  let s := r.starts.foldl (fun s f => s.stopStart v0 f) s
  let old := (s.reg R.SAF_EN).toNat
  let both : BitVec 9 := BitVec.ofNat 9 (s.grants &&& (511 ^^^ ended))
  let s := s.modSaf fun x => { x with grant0 := both &&& ~~~hold0, grant1 := both &&& ~~~hold1 }
  let new := (s.saf.grant0 &&& s.saf.grant1).toNat
  let s := s.setEnables new
  let s := s.fireIf (old &&& (511 ^^^ new) &&& s.withheldEnables != 0) 26
  s.driveOutputs

/-- One scan of the two cores (R505). -/
def safetyScan (s : State) (i : ScanIn) : State :=
  let v0 := (s.readSpeeds).safeSpeed
  let s := s.scanCommit v0 i.hold0 i.hold1
  let s := (s.setFld R.SAF_STATE F.SAF_STATE_SCAN (s.fld R.SAF_STATE F.SAF_STATE_SCAN + 1)).modSaf fun x =>
    { x with sinceLoad := min 600001 (x.sinceLoad + 1), loadAge := min 600001 (x.loadAge + 1) }
  (s.readPairs.readSpeeds.scanReset).scanDiagnostics i

/-! ### The reset input (R518) -/

/-- The latches clear whose functions' inputs are in run, but not one of the same scan (R516, R518). -/
def clearLatches (s : State) : State :=
  forFin 16 (fun f (s : State) =>
    let in2 := s.saf.block.fnIn2 f.val
    if s.fnState f.val = 2 && !s.fnIn1 f.val && !(decide (in2 < 16) && s.saf.demand.getLsbD in2)
        && !s.saf.fresh.getLsbD f.val then
      (s.modReg R.SAF_FUNC (·.setBits (2 * f.val + 1) (2 * f.val) 0)).modSaf fun x =>
        { x with withheld := x.withheld &&& ~~~(BitVec.ofNat 16 (2 ^ f.val)) }
    else s) s

/-- The reset input is released after `hold` ms; after a clock fault `SYS_CLKSTAT` shows how the crystal and the PLL stand now
(R45, R74, R518). -/
def resetRelease (s : State) (hold : Nat) (clkNow : BitVec 2) (railsOk vinOk : Bool) (b : BootIn) : State :=
  let s := s.when s.clk.fault fun s => s.modReg R.SYS_CLKSTAT (·.setBits 1 0 clkNow.toNat)
  let s := (s.setFld R.SAF_RSTIN F.SAF_RSTIN_HELD 0).setFld R.SAF_RSTIN F.SAF_RSTIN_HOLD 0
  if s.saf.block.rstHold * 100 ≤ hold && hold ≤ 10000 then
    let latched := s.bit R.MOD_LOCKCAUSE F.MOD_LOCKCAUSE_LATCHED
    let s :=
      if latched && s.causesGone railsOk vinOk then s.deliberateReset b
      else s.when latched fun s => s.raise R.MOD_STAT F.MOD_STAT_RESET_IGN
    let s := ((s.raise R.SAF_RSTIN F.SAF_RSTIN_VALID).setFld R.SAF_RSTIN F.SAF_RSTIN_STUCK 0).fire 27
    s.clearLatches.modSaf fun x => { x with presence := true }
  else
    (s.setFld R.SAF_RSTIN F.SAF_RSTIN_VALID 0).setFld R.SAF_RSTIN F.SAF_RSTIN_STUCK (Word.ofBool (10000 < hold))

/-! ### Signatures (R504) -/

/-- The end of a signature window (R504, R529). -/
def signatureWindow (s : State) (sig0 sig1 rep0 rep1 : Word) : State :=
  let r := R.SAF_SIGST
  let s := s.setFld r F.SAF_SIGST_WIN (s.fld r F.SAF_SIGST_WIN + 1)
  if sig0 = sig1 then (s.setFld r F.SAF_SIGST_STATUS Status.ok.code).modSaf fun x => { x with sigBad := 0 }
  else
    let s := s.fire 28
    if rep0 = rep1 then
      ((s.setFld r F.SAF_SIGST_STATUS Status.retriedOk.code).countUp r F.SAF_SIGST_TRANS).modSaf fun x =>
        { x with sigBad := 0 }
    else
      let n := s.saf.sigBad + 1
      let s := (s.setFld r F.SAF_SIGST_STATUS Status.failedTwice.code).modSaf fun x => { x with sigBad := n }
      if 2 ≤ n then s.raiseLockout 4 1 else s

/-! ### The commissioning commands (R521) -/

/-- The outcome of a command of `SAF_CMD`; DONE raises event 30. -/
def safOutcome (s : State) (op detail : Nat) (st : Status) : State :=
  (s.setReg R.SAF_CMDST (Word.field 31 31 1 ||| Word.field 27 16 detail ||| Word.field 9 8 op ||| Word.field 7 0 st.code)).fire
    30

/-- The only cause recorded is 0x07. -/
def onlyBlockCause (s : State) : Bool := s.fld R.MOD_LOCKCAUSE F.MOD_LOCKCAUSE_ALL == 64

/-- Steps 1 and 2 of R521: the status with which a command is turned away. -/
def safJudge (s : State) : Option Status :=
  if s.lockInForce && !s.onlyBlockCause then some .locked
  else if s.mode = .commission || (s.mode = .lockout && s.onlyBlockCause) then none
  else some .wrongMode

/-- A command ends with `st`: shown in `SAF_CMDST`, and for the writer the refused path where it is for the mode (R62,
R521). -/
def safEnd (s : State) (m : Master) (op detail : Nat) (st : Status) : State :=
  (s.safOutcome op detail st).complete m R.SAF_CMD st

/-- LOAD starts (R521). -/
def safLoad (s : State) (m : Master) : State :=
  let arg := s.nreg R.SAF_CARG
  match s.safJudge with
  | some st => s.safEnd m 1 0 st
  | none =>
    if arg % 4 ≠ 0 then s.safEnd m 1 0 .outOfRange
    else if s.saf.loading.isSome then s.safEnd m 1 0 .busy
    else
      ((s.setReg R.SAF_CMDST (Word.field 9 8 1)).modSaf fun x => { x with loading := some arg, loadAge := 0 }).setStatus m .ok

/-- The LOAD's check ends (R521). -/
def safLoaded (s : State) : State :=
  match s.saf.loading with
  | none => s
  | some o =>
    let b := SafBlock.ofBytes (s.bytes (0x20000000 + o) 2048)
    let s := s.modSaf fun x => { x with loading := none }
    match b.bad s.variant.part.code with
    | some off => s.safOutcome 1 off .outOfRange
    | none =>
      (((s.modSaf fun x => { x with loaded := some b, sinceLoad := x.loadAge }).setReg R.SAF_PKEY b.key).raise R.SAF_STATE F.SAF_STATE_LOADED
        |>.fire 29).safOutcome 1 0 .ok

/-- CONFIRM (R521). While a LOAD runs, a key that does not match the block loaded before is out of range, and anything else is
BUSY. Its status while nothing is loaded is not stated, and free (log entry 59). -/
def safConfirm (s : State) (m : Master) : State :=
  match s.safJudge with
  | some st => s.safEnd m 2 0 st
  | none =>
    match s.saf.loaded with
    | none =>
      if s.saf.loading.isSome then s.safEnd m 2 0 .busy
      else
        let free := (Config.freeWord 59 s.freeCount).bit 0
        s.takeFree.safEnd m 2 0 (if free then .timeout else .outOfRange)
    | some b =>
      if s.saf.loading.isNone && (600000 < s.saf.sinceLoad || !s.saf.presence) then s.safEnd m 2 0 .timeout
      else if s.reg R.SAF_CARG ≠ b.key then
        ((s.modSaf fun x => { x with loaded := none }).setFld R.SAF_STATE F.SAF_STATE_LOADED 0).safEnd m 2 0 .outOfRange
      else if s.saf.loading.isSome then s.safEnd m 2 0 .busy
      else
        ((s.modSaf fun x => { x with flash := b, flashKey := b.key, confirmed := true }).raise R.SAF_STATE
          F.SAF_STATE_PENDING).safEnd m 2 0 .ok

/-- DISCARD (R521). -/
def safDiscard (s : State) (m : Master) : State :=
  match s.safJudge with
  | some st => s.safEnd m 3 0 st
  | none =>
    if s.saf.loading.isSome then s.safEnd m 3 0 .busy
    else
      (((s.modSaf fun x => { x with loaded := none }).setFld R.SAF_STATE F.SAF_STATE_LOADED 0).setFld R.SAF_STATE
        F.SAF_STATE_PENDING 0).safEnd m 3 0 .ok

/-- A LOAD or CONFIRM with an argument that another master wrote: the writes of two masters interleave (R530). -/
def cargClash (s : State) (m : Master) : Bool := s.saf.cargBy.any (· != m)

/-- A LOAD would extend beyond SRAM (R530). -/
def safLoadBad (s : State) : Bool :=
  s.safJudge == none && s.nreg R.SAF_CARG % 4 == 0 && decide (0x100000 < s.nreg R.SAF_CARG + 2048)

/-- What `SAF_CS` reads as (R528). -/
def safView (s : State) (r : Nat) : Option Word :=
  if r = R.SAF_CS then
    match s.saf.stop with
    | none => some 0
    | some c =>
      some (Word.field 31 31 1 ||| Word.field 27 24 (c.func.getD 0)
        ||| Word.field 23 16 ((c.cause.map (·.1)).getD 0) ||| Word.field 15 0 c.left)
  else none

end State

/-- SAFETY_SCAN (R505). -/
def execSafetyScan (i : ScanIn) (s : State) : Host.Outcome State Fault Refusal := .next (s.whenSaf fun s => s.safetyScan i)

/-- CONTROLLED_STOP_DEADLINE (R515). -/
def execControlledStopDeadline (s : State) : Host.Outcome State Fault Refusal := .next (s.whenSaf State.stopEnd)

/-- SAFETY_SIGNATURE_WINDOW (R504). -/
def execSafetySignatureWindow (sig0 sig1 rep0 rep1 : Word) (s : State) : Host.Outcome State Fault Refusal :=
  .next (s.whenSaf fun s => s.signatureWindow sig0 sig1 rep0 rep1)

/-- SAFETY_INPUT_CHANGE (R506, R507). -/
def execSafetyInputChange (k : Fin 16) (a b : Bool) (s : State) : Host.Outcome State Fault Refusal :=
  .next (s.whenSaf fun s => s.safetyInput k a b)

/-- TUMBLER_TIMEOUT (R507). -/
def execTumblerTimeout (k : Fin 16) (s : State) : Host.Outcome State Fault Refusal :=
  .next (s.whenSaf fun s => s.tumblerFail k)

/-- OUTPUT_ON_STEP (R508). -/
def execOutputOnStep (j : Fin 8) (s : State) : Host.Outcome State Fault Refusal :=
  .next (s.whenSaf fun s => s.modSaf fun x => { x with out := vupd x.out j State.outputStep })

/-- OUTPUT_READBACK_TIMEOUT: a step's readback has not held within TRB; outside transitions the scans judge it (R508). -/
def execOutputReadbackTimeout (j : Fin 8) (s : State) : Host.Outcome State Fault Refusal :=
  .next (s.whenSaf fun s =>
    s.when (s.saf.block.outUse j.val && State.outputUnheld s.saf.out[j]) fun s => s.raiseLockout 6 j.val)

/-- OFF_PULSE (R509). -/
def execOffPulse (j : Fin 2) (fell : Bool) (s : State) : Host.Outcome State Fault Refusal :=
  .next (s.whenSaf fun s => s.when (s.saf.block.outOffp j.val && s.saf.out[fin 8 j.val] == .on && !fell) fun s =>
    s.raiseLockout 6 j.val)

/-- RESET_RELEASE (R74, R518). -/
def execResetRelease (hold : Nat) (clkNow : BitVec 2) (railsOk vinOk : Bool) (b : BootIn) (s : State) :
    Host.Outcome State Fault Refusal :=
  .next (s.whenSaf fun s => s.resetRelease hold clkNow railsOk vinOk b)

/-- PRESENCE_WINDOW_EXPIRY (R518). -/
def execPresenceWindowExpiry (s : State) : Host.Outcome State Fault Refusal :=
  .next (s.modSaf fun x => { x with presence := false })

/-- SAFETY_LOAD (R521); a block that would extend beyond SRAM and another master's argument are host mistakes (R530). -/
def execSafetyLoad (m : Master) (s : State) : Host.Outcome State Fault Refusal :=
  if s.safOn && (s.safLoadBad || s.cargClash m) then .fault .hostMistake else .next (s.whenSaf fun s => s.safLoad m)

/-- SAFETY_LOAD_COMPLETE (R521). -/
def execSafetyLoadComplete (s : State) : Host.Outcome State Fault Refusal := .next (s.whenSaf State.safLoaded)

/-- SAFETY_CONFIRM (R521); another master's argument is a host mistake (R530). -/
def execSafetyConfirm (m : Master) (s : State) : Host.Outcome State Fault Refusal :=
  if s.safOn && s.cargClash m then .fault .hostMistake else .next (s.whenSaf fun s => s.safConfirm m)

/-- SAFETY_DISCARD (R521). -/
def execSafetyDiscard (m : Master) (s : State) : Host.Outcome State Fault Refusal :=
  .next (s.whenSaf fun s => s.safDiscard m)

end Sys2Proof.Machine
end

