-- ==== Sys2Proof/Machine/Twn.lean ====
section
/-!
DEFINITION. The pairs link (R475 to R501): lanes, the forming of a pair, clocks, heartbeats, input agreement,
snapshots, signatures, partner loss and takeover, and the join. The byte positions within a snapshot are the model's
(log entry 70).
-/

namespace Sys2Proof.Machine

/-- The status of a code (R13). -/
def Status.ofCode (n : Nat) : Status :=
  match n with
  | 1 => .busy | 2 => .notPresent | 3 => .wrongMode | 4 => .outOfRange | 5 => .timeout | 6 => .retriedOk
  | 7 => .failedTwice | 8 => .locked | 9 => .late | _ => .ok

/-- The bytes of words, each lowest first. -/
def wordBytes (l : List Word) : List Byte := l.flatMap fun w => leBytes 4 w.toNat

namespace State

/-! ### Lanes and the state of the link (R475, R478, R480) -/

/-- `TWN_ST.STATE`. -/
def twnPhase (s : State) : Nat := s.fld R.TWN_ST F.TWN_ST_STATE

/-- `TWN_ST.STATE` takes `n`. -/
def setTwn (s : State) (n : Nat) : State := s.setFld R.TWN_ST F.TWN_ST_STATE n

/-- This module is the acting lead (R477). -/
def actLead (s : State) : Bool := s.bit R.TWN_ST F.TWN_ST_ACTLEAD

/-- The link is in use: present, not of a single module, enabled, out of OFF and BOOT (R475, R497). -/
def twnOn (s : State) : Bool :=
  s.hasPairs && s.saf.role != 0 && s.bit R.TWN_CFG F.TWN_CFG_EN && s.up

/-- The link sends: not in LOCKOUT (R497). -/
def twnSends (s : State) : Bool := s.twnOn && s.mode != .lockout

/-- `PL_ALIVE` is released: by a module of the pairs link, past step 8 of R66 and not in LOCKOUT (R475, R477). -/
def aliveFree (s : State) : Bool := s.hasPairs && s.saf.role != 0 && s.up && s.mode != .lockout

/-- A read of `TWN_ST` while `PL_ALIVE` is released and the link brings no level: the line's level is the partner's too, and is
free (R477, R499, log entry 163). -/
def aliveFreeRead (s : State) : Word × State :=
  ((s.reg R.TWN_ST).setBits F.TWN_ST_ALIVE.hi F.TWN_ST_ALIVE.lo (Word.ofBool ((Config.freeWord 499 s.freeCount).bit 0)), s.takeFree)

/-- `f` is applied while the link is in use. -/
def whenTwn (s : State) (f : State → State) : State := if s.twnOn then f s else s

/-- Bit `k` of the field `f` of `TWN_LANE` takes `b`. -/
def setLane (s : State) (f : Fld) (k : Nat) (b : Bool) : State :=
  s.modReg R.TWN_LANE (·.setBits (f.lo + k) (f.lo + k) (Word.ofBool b))

/-- Lane `k` is trained in both directions (R478, R480). -/
def laneTrained (s : State) (k : Nat) : State :=
  if (s.fld R.TWN_CFG F.TWN_CFG_LANES).testBit k && !(s.fld R.TWN_LANE F.TWN_LANE_DOWN).testBit k then
    (s.setLane F.TWN_LANE_UP k true).fire 243
  else s

/-- A failure of lane `k` (R480). -/
def laneFailure (s : State) (k : Fin 4) : State :=
  if (s.fld R.TWN_LANE F.TWN_LANE_DOWN).testBit k.val then s
  else
    let s := s.setLane F.TWN_LANE_UP k.val false
    let second := (s.twn.failed[k]).any fun t => decide ((s.now - t).toNat ≤ 1000000)
    if second then
      ((s.setLane F.TWN_LANE_DOWN k.val true).raise R.TWN_STAT F.TWN_STAT_LANEFAIL).fire 242
    else
      (s.countUp R.TWN_LANE F.TWN_LANE_TRANS).modTwn fun x => { x with failed := x.failed.set k (some s.now) }

/-- A failure of a lane more than 1 s ago is no first failure any more (R480); judged at every sample boundary. -/
def lanesAge (s : State) : State :=
  s.modTwn fun x => { x with failed := x.failed.map fun o => o.filter fun t => decide ((s.now - t).toNat ≤ 1000000) }

/-- Downed lanes are returned to use, to train again (R480); a lane in use is left as it is. -/
def laneClear (s : State) (mask : BitVec 4) : State :=
  forFin 4 (fun k s =>
    if mask.getLsbD k.val && (s.fld R.TWN_LANE F.TWN_LANE_DOWN).testBit k.val then
      (s.setLane F.TWN_LANE_DOWN k.val false).modTwn fun x => { x with failed := x.failed.set k none }
    else s) s

/-- Working lanes. -/
def lanesUp (s : State) : Nat := ((List.range 4).filter (s.fld R.TWN_LANE F.TWN_LANE_UP).testBit).length

/-! ### Forming a pair (R476, R477, R495) -/

/-- The lead's sample count (R479, R492, R496). -/
def leadCount (s : State) : Word :=
  if s.actLead then s.reg R.SYS_SMPLCNT else s.reg R.SYS_SMPLCNT + s.twn.ofs

/-- The module runs quiet from here: a listener, a transport frame that waits in TB1 withdrawn, the requests of its bucket on their way to
the acting lead (R468, R488); it takes the survivor's mode at the next boundary, where a heartbeat has told it (R495). -/
def goQuiet (s : State) : State :=
  let s := forFin 8 (fun c s => s.withdrawTb1 c) (s.setFld R.CNV_CFG F.CNV_CFG_QUIET 1)
  let s := s.modBudget fun b => { b with queue := [], sent := b.sent ++ b.queue.map fun q => (q.port, q.cls) }
  match s.twn.heard with
  | some h =>
    if h.acting && h.mode.toNat ≠ s.mode.code && h.mode ≠ 11 && !s.locking then
      s.modTwn fun x => { x with announced := Mode.ofCode h.mode.toNat }
    else s
  | none => s

/-- The pair is formed: WARM (R488, R495). Two survivors are led by the commissioned lead (log entry 177). -/
def pairForm (s : State) (role : Nat) : State :=
  let heard : Bool := match s.twn.heard with | some h => h.acting | none => false
  let lead := if s.twnPhase = 5 then !heard || role == 2 else if heard then false else role == 2
  let s := (((s.setTwn 2).setFld R.TWN_ST F.TWN_ST_ACTLEAD (Word.ofBool lead)).setFld R.TWN_ST F.TWN_ST_WARMCNT
    0).setFld R.TWN_ST F.TWN_ST_SHARE 0
  let s := s.modTwn fun x =>
    { x with stepped := false, missed := 0, announced := none, agreed := [], sigWait := false, sigAgain := false
             sigBad := 0, ofs := 0, warmed := false, sigOn := false, broken := false, got := [], complete := false, stored := false }
  (if lead then s else s.goQuiet).fire 248

/-- An IDENT frame (R476); a survivor in LOCKOUT or COMMISSION lets the other wait in SEARCH (R495). -/
def identFrame (s : State) (uid0 uid1 : Word) (role : Nat) (accepts : Bool) : State :=
  if (s.twnPhase = 1 || s.twnPhase = 5) && s.lanesUp ≠ 0 then
    let s := (s.setReg (R.TWN_PUID 0) uid0).setReg (R.TWN_PUID 1) uid1
    let match? := accepts && uid0 == s.saf.puid0 && uid1 == s.saf.puid1
      && ((s.saf.role == 1 && role == 2) || (s.saf.role == 2 && role == 1))
    if !match? then (s.setTwn 6).raise R.TWN_STAT F.TWN_STAT_FOREIGN
    else
      let surv := match s.twn.heard with
        | some h => if h.acting && s.twnPhase ≠ 5 then h.mode.toNat else s.mode.code
        | none => s.mode.code
      if surv = 11 || surv = 3 then s else s.pairForm role
  else s

/-! ### One clock (R481) -/

/-- CORE clocks by which the network time of this module lies ahead of `time` and `sub` clocks (R435). -/
def timeAheadOf (s : State) (time : Word) (sub : Nat) : Int := modDiff s.now time * 250 + s.clk.coreSub - sub

/-- A microsecond of network time is lengthened or shortened by one CORE clock, against a drift of `d` clocks (R435, R481); at the first
clock of a microsecond the lengthening waits for the next symbol. -/
def timeHold (s : State) (d : Int) : State :=
  s.modClk fun c => { c with coreSub := if 0 < d then c.coreSub - 1 else if d < 0 then c.coreSub + 1 else c.coreSub }

/-- A timing symbol, sent at a reload of the lead's timebase 0: the alignment error is shown; at the start of a join the joining module's
timebase 0 is stepped to that reload and its network time to the lead's, and from then on that time is held to the lead's. The steps
of a tick by which timebase 0 is held are timing (log entry 1). -/
def timingSymbol (s : State) (err : BitVec 16) (leadTime : Word) (leadSub : Nat) : State :=
  if !s.quiet then s
  else
    let s := s.setFld R.TWN_ALIGN F.TWN_ALIGN_ERR err.toNat
    let s := s.setFld R.TWN_ALIGN F.TWN_ALIGN_MAX (max (s.fld R.TWN_ALIGN F.TWN_ALIGN_MAX) err.toInt.natAbs)
    if s.twnPhase = 2 && !s.twn.stepped then
      let s := (s.setReg R.NET_TIME leadTime).modTwn fun x => { x with stepped := true }
      (s.modClk fun c => { c with coreSub := leadSub }).modTb 0 fun t => { t with down := false }
    else s.timeHold (s.timeAheadOf leadTime leadSub)

/-! ### Outcomes of a signature window (R491, R492) -/

/-- A window completes with `st`: the outcome and the history (R491, R492). -/
def sigEnd (s : State) (partner : Word) (st : Status) : State :=
  let s := s.setFld R.TWN_SIGST F.TWN_SIGST_STATUS st.code
  let a := 0x24010000 + 16 * (s.twn.hist % 4096)
  let rec' : List Word := [BitVec.ofNat 32 (s.fld R.TWN_SIGST F.TWN_SIGST_WIN), s.reg R.TWN_SIG, partner,
    BitVec.ofNat 32 st.code]
  (s.setBytes a (wordBytes rec')).modTwn fun x => { x with hist := (x.hist + 1) % 4096, sigWait := false, sigAgain := false }

/-- The signatures of the window do not agree, or the partner's is missing (R492). -/
def sigMismatch (s : State) (partner : Word) : State :=
  if !s.twn.sigAgain then
    ((s.modTwn fun x => { x with sigWait := false, sigAgain := true }).raise R.TWN_STAT F.TWN_STAT_SIGMIS).fire 244
  else
    let n := s.twn.sigBad + 1
    let s := (s.sigEnd partner .failedTwice).modTwn fun x => { x with sigBad := n }
    if 2 ≤ n then (s.fire 245).raiseLockout 8 0 else s

/-- A signature that did not come by 3 µs is missing (R482, R492). -/
def sigJudge (s : State) : State := s.when s.twn.sigWait fun s => s.sigMismatch (s.reg R.TWN_PSIG)

/-! ### Partner loss (R493, R494) -/

/-- Step 1 of R494 on the survivor; its time master acts as of the loss (R436). -/
def twnSurvive (s : State) : State :=
  let s := ((s.setTwn 5).raise R.TWN_ST F.TWN_ST_ACTLEAD).setDeg F.MOD_DEG_PARTNER true
  s.modTwn fun x => { x with takeover := true, hold := true, announced := none, heard := none }

/-- A heartbeat is missed; the third in a row declares the partner lost (R493), and a BACKUP acts as time master (R436). -/
def heartbeatMiss (s : State) (aliveHigh : Bool) : State :=
  let s := (s.setFld R.TWN_ST F.TWN_ST_ALIVE (Word.ofBool aliveHigh)).sigJudge
  if !s.paired then s
  else
    let n := s.twn.missed + 1
    let s := (s.countUp R.TWN_CNT F.TWN_CNT_HBMISS).modTwn fun x => { x with missed := n }
    if n < 3 then s
    else
      let s := ((s.raise R.TWN_STAT F.TWN_STAT_LOST).fire 246).when (s.fld R.NET_TM F.NET_TM_ROLE == 2) takeMaster
      if s.saf.role = 2 && aliveHigh then (s.setTwn 1).raiseLockout 8 1 else s.twnSurvive

/-! ### Heartbeats (R479, R485, R495) -/

/-- The status of a forwarded request returns to its source (R485). -/
def forwardEnd (s : State) (st : Status) : State :=
  match s.twn.forwarded with
  | none => s
  | some (src, code, addr) =>
    let s := s.modTwn fun x => { x with forwarded := none }
    (s.reqRecord true src code.toNat 0 st).reqSource ⟨src, .idle, false, false, addr⟩ st

/-- What the acting lead takes from a heartbeat: that the join goes on to its ramp (R495), and the partner's request, judged at once,
after its own (R485). -/
def leadHears (s : State) (h : HeartbeatIn) : State :=
  let s := s.when (s.twnPhase == 2 && (h.warmDone || h.linkState == 3)) fun s => s.modTwn fun x => { x with warmed := true }
  match h.request with
  | none => s
  | some code =>
    let was := s.mod.trans.isSome
    let (st, s) := s.modeJudge .manager code.toNat 0
    if !was && s.mod.trans.isSome then s else s.modTwn fun x => { x with reply := some st }

/-- What the quiet module takes: the status of its request, an announced change, and in WARM the survivor's mode (R485,
R495). -/
def quietHears (s : State) (h : HeartbeatIn) : State :=
  let s := match h.status with | some st => s.forwardEnd (Status.ofCode st.toNat) | none => s
  match h.announced with
  | some m => s.modTwn fun x => { x with announced := Mode.ofCode m.toNat }
  | none =>
    if s.twnPhase = 2 && h.mode.toNat ≠ s.mode.code && h.mode ≠ 11 && !s.locking then
      s.modTwn fun x => { x with announced := Mode.ofCode h.mode.toNat }
    else s

/-- A joining module that took itself for the acting lead gives way to the survivor, which acts and has lost no lead (R477). -/
def leadYields (s : State) (h : HeartbeatIn) : State :=
  if s.twnPhase == 2 && s.actLead && h.acting && !s.bit R.MOD_DEG F.MOD_DEG_PARTNER then
    (s.setFld R.TWN_ST F.TWN_ST_ACTLEAD 0).goQuiet
  else s

/-- A heartbeat; one received while `PL_ALIVE` reads low is missed (R493). -/
def heartbeat (s : State) (h : HeartbeatIn) : State :=
  if !h.aliveHigh then s.heartbeatMiss false
  else
    let s := (s.raise R.TWN_ST F.TWN_ST_ALIVE).modTwn fun x =>
      { x with missed := 0, heard := some h, ofs := h.smpl - s.reg R.SYS_SMPLCNT }
    let s := s.leadYields h
    if !s.paired then s else if s.quiet then s.quietHears h else s.leadHears h

/-! ### Input agreement (R484) -/

/-- The policy of input `n`. -/
def agreePolicy (s : State) (n : Nat) : Nat :=
  if n < 48 then (s.reg (R.TWN_APOL (n / 10))).bits (3 * (n % 10) + 2) (3 * (n % 10))
  else if n < 59 then
    let a := n - 48
    (s.reg (R.TWN_XPOL (a / 10))).bits (3 * (a % 10) + 2) (3 * (a % 10))
  else (s.reg R.TWN_CPOL).bits (3 * (n - 59) + 2) (3 * (n - 59))

/-- This module's input `n`, as it would be sent: a substitute, stale, invalid or timed-out value is flagged. -/
def agreeOwn (s : State) (n : Fin 63) : AgreeItem :=
  if n.val < 48 then
    let c := s.acq.chan[fin 48 n.val]
    ⟨n, BitVec.ofNat 32 c.latched, 0, c.stale || c.subst || s.chanInvalid n.val⟩
  else if n.val < 59 then
    ⟨n, s.reg (R.POS_AX_LAT (n.val - 48)), s.cle.spd[fin 11 (n.val - 48)],
      s.axisInvalid (n.val - 48) || s.bit (R.POS_AX_ST (n.val - 48)) F.POS_AX_ST_STOP⟩
  else
    let w := s.reg (R.CLE_CMD_VAL (n.val - 59))
    ⟨n, w, 0, w.bit 31 || w.bit 30⟩

/-- The agreed value of two items; `lead` is the acting lead's. An axis goes by its counter (log entry 71). -/
def agreeValue (policy : Nat) (own partner lead : AgreeItem) : AgreeItem :=
  if own.flagged && partner.flagged then lead
  else if own.flagged then partner
  else if partner.flagged then own
  else
    let d := modDiff partner.value own.value
    match policy with
    | 1 =>
      { own with value := own.value + ofInt (fdiv d 2)
                 speed := ofInt (fdiv (own.speed.toInt + partner.speed.toInt) 2) }
    | 2 => if d < 0 then partner else own
    | 3 => if d < 0 then own else partner
    | 4 => lead
    | _ => own

/-- What the drives form at a boundary (R322 to R327). -/
def actForm (s : State) : State := (forFin 5 (fun d s => s.actBoundary d) s).actPauses.actSync

/-- What the drives and the energy path form from the latched inputs of a boundary, in a pair once the sample's agreed values stand for
them (R484, log entry 176). -/
def agreedForm (s : State) : State :=
  if s.twn.owed then (s.modTwn fun x => { x with owed := false }).parkState.actForm.enpBoundary else s

/-- An AGREE frame: the agreed values for the sample. -/
def agree (s : State) (items : List AgreeItem) : State :=
  if !s.paired then s
  else
    let s := s.sigJudge
    let l := (items.filter fun i => s.agreePolicy i.input.val != 0).map fun i =>
      let own := s.agreeOwn i.input
      agreeValue (s.agreePolicy i.input.val) own i (if s.actLead then own else i)
    (s.modTwn fun x => { x with agreed := l }).agreedForm

/-- An AGREE frame did not arrive in time. -/
def agreeMiss (s : State) : State :=
  if !s.paired then s
  else ((s.sigJudge.countUp R.TWN_CNT F.TWN_CNT_AGMISS).modTwn fun x => { x with agreed := [] }).agreedForm

/-! ### Snapshots (R489 to R491) -/

/-- The mirror buffers: sending, last sent, receiving, last complete. -/
def snapBuf (k : Nat) : Nat := 0x24000000 + 0x4000 * k

/-- A snapshot of `n` sessions fits the window (R490). -/
def snapFits (s : State) (n : Nat) : Bool :=
  let size := 6336 + 64 * n
  let w := s.fld R.TWN_MWIN F.TWN_MWIN_CLOSE - s.fld R.TWN_MWIN F.TWN_MWIN_OPEN
  decide (10 * (size + 12 * ((size + 255) / 256)) ≤ 200 * w * (10 * s.lanesUp - 1))

/-- The greatest number of sessions up to `n` that fits. -/
def snapCut (s : State) : Nat → Option Nat
  | 0 => if s.snapFits 0 then some 0 else none
  | n + 1 => if s.snapFits (n + 1) then some (n + 1) else s.snapCut n

/-- Sessions that travel: in progress, with MIRROR (R489). -/
def snapSessions (s : State) : List Nat :=
  ((List.range 256).filter fun n => s.inProgress n && s.recBits n 0 8 8 == 1).take (min 157 (s.fld R.TWN_SNAP F.TWN_SNAP_NSES))

/-- The words of the snapshot at offsets 0x0000 and 0x0040. -/
def snapHead (s : State) (n : Nat) : List Word :=
  let head : List Word := [s.reg R.SYS_SMPLCNT, s.now, (s.modView R.MOD_MODE).getD 0, BitVec.ofNat 32 n]
  let t := s.budget.tokens
  let req (i : Nat) : Nat := match s.budget.queue[i]? with
    | some q => q.port % 16 + 16 * (q.cls % 16) + 256 * Word.ofBool q.partner + 512
    | none => 0
  head ++ List.replicate 12 0 ++ [s.travel 0, s.travel 1, s.travel 2, BitVec.ofNat 32 t, BitVec.ofNat 32 (t / 2 ^ 32),
    BitVec.ofNat 32 s.budget.queue.length] ++ (List.range 10).map fun i =>
      BitVec.ofNat 32 (req (3 * i) + 1024 * req (3 * i + 1) + 1048576 * req (3 * i + 2))

/-- The words of a table-drive channel. -/
def snapTd (s : State) (x : Fin 2) : List Word :=
  let c := s.tdu[x]
  let op := match c.op with | .off => 0 | .modulated => 1 | .table => 2
  [ofInt c.psa, ofInt c.psb, Word.field 1 0 (modBits 2 c.cT) ||| Word.field 2 2 (Word.ofBool c.cPsi)
    ||| Word.field 11 8 c.scale ||| Word.field 17 16 op ||| Word.field 23 20 c.table, BitVec.ofNat 32 c.dwell,
    ofInt c.elim, 0, 0, 0]

/-- The words of a slot: I, D, e1, v1, r1, ALT with the requests for the coefficient sets, OSCCNT, window position. -/
def snapSlot (s : State) (n : Nat) : List Word :=
  let x := s.cle.slot[fin 64 n]
  [s.reg (R.CLE_SL_INT n), ofInt x.d, ofInt x.e1, ofInt x.v1, ofInt x.r1,
    BitVec.ofNat 32 (s.fld (R.CLE_SL_ST n) F.CLE_SL_ST_ALT + 2 * Word.ofBool x.altA + 4 * Word.ofBool x.altB),
    BitVec.ofNat 32 (s.fld (R.CLE_SL_ST n) F.CLE_SL_ST_OSCCNT), BitVec.ofNat 32 x.win]

/-- The words of a section: HEAD and COUNT; ARM state, SEQ, CONF, CMD; t_a. -/
def snapSec (s : State) (i : Nat) : List Word :=
  let ta := match (s.sec i).conv with | some x => x.ta | none => 0
  [s.reg (R.GTE_SEC_PTR i), Word.field 25 0 (s.nreg (R.GTE_SEC_ST i)), ta, 0]

/-- The words of a session: words 0 to 11 of its record, its number, its window's first packet, its parameter group, and the packets
per window that its RTS allows with whether data have passed (log entry 70). -/
def snapSession (s : State) (n : Nat) : List Word :=
  let x := s.ses n
  (List.range 12).map (s.ctx n) ++ [BitVec.ofNat 32 n, BitVec.ofNat 32 x.first, BitVec.ofNat 32 x.pgn,
    BitVec.ofNat 32 (x.limit + 65536 * Word.ofBool x.begun)]

/-- The snapshot with the sessions `l` (R489). -/
def snapshot (s : State) (l : List Nat) : List Word :=
  s.snapHead l.length ++ s.snapTd 0 ++ s.snapTd 1 ++ (List.range 64).flatMap s.snapSlot
    ++ (List.range 256).flatMap s.snapSec ++ l.flatMap s.snapSession

/-- A snapshot is missed (R489). -/
def snapMiss (s : State) : State :=
  let s := ((s.raise R.TWN_STAT F.TWN_STAT_SNAPMISS).countUp R.TWN_CNT F.TWN_CNT_SNAPMISS).fire 241
  s.when (s.twnPhase == 2) fun s => s.setFld R.TWN_ST F.TWN_ST_WARMCNT 0

/-- OPEN: the acting lead captures, the other module holds its own s_c (R489 to R491). -/
def snapshotCapture (s : State) : State :=
  if !s.paired then s
  else if s.quiet then s.modTwn fun x => { x with sc := s.travel 2, got := [], broken := false }
  else if !s.twnSends then s
  else
    let l := s.snapSessions
    match s.snapCut l.length with
    | none =>
      (((s.setReg R.TWN_SNAPST 0).raise R.TWN_SNAPST F.TWN_SNAPST_NOFIT).modTwn fun x => { x with size := 0 }).snapMiss
    | some n =>
      let size := 6336 + 64 * n
      let s := (s.setBytes (snapBuf 0) (wordBytes (s.snapshot (l.take n)))).modTwn fun x => { x with size := size }
      s.setReg R.TWN_SNAPST (Word.field 31 31 (Word.ofBool (n < l.length)) ||| Word.field 23 16 n
        ||| Word.field 15 0 size)

/-- A snapshot segment (R489). -/
def snap (s : State) (segment : BitVec 6) (data : List Byte) (ok : Bool) : State :=
  if !s.quiet then s
  else if ok then
    (s.setBytes (snapBuf 2 + 256 * segment.toNat) (data.take 256)).modTwn fun x =>
      { x with got := segment.toNat :: x.got }
  else s.modTwn fun x => { x with broken := true }

/-- Every segment of the snapshot has arrived (R489). -/
def snapWhole (s : State) : Bool :=
  let n := (s.word (snapBuf 2 + 12)).toNat
  !s.twn.broken && decide (n ≤ 157)
    && (List.range ((6336 + 64 * n + 255) / 256)).all fun k => s.twn.got.contains k

/-- CLOSE (R482, R489). -/
def snapshotClose (s : State) : State :=
  if !s.paired then s
  else if s.quiet then
    if s.twn.got.contains 0 && s.snapWhole then
      let size := 6336 + 64 * (s.word (snapBuf 2 + 12)).toNat
      (s.setBytes (snapBuf 3) (s.bytes (snapBuf 2) size)).modTwn fun x =>
        { x with complete := true, stored := true, size := size, got := [] }
    else (s.modTwn fun x => { x with got := [] }).snapMiss
  else if s.twn.size = 0 || !s.twnSends then s
  else s.setBytes (snapBuf 1) (s.bytes (snapBuf 0) s.twn.size)

/-! ### Applying a snapshot (R488, R491, R495) -/

/-- A word of the last complete snapshot. -/
def snapWord (s : State) (ofs : Nat) : Word := s.word (snapBuf 3 + ofs)

/-- The ARM state that the snapshot shows of section `i`. -/
def snapArm (s : State) (i : Nat) : Nat := (s.snapWord (0x8C0 + 16 * i + 4)).bits 25 24

/-- The protocol state of section `i` follows the snapshot (R488). -/
def applySec (s : State) (i : Nat) : State :=
  let w := s.snapWord (0x8C0 + 16 * i + 4)
  let ta := s.snapWord (0x8C0 + 16 * i + 8)
  let s := s.setReg (R.GTE_SEC_ST i) ((s.reg (R.GTE_SEC_ST i)).setBits 25 0 w.toNat)
  let arm := w.bits 25 24
  if arm = 0 then s.setConv i none
  else
    let served := arm == 3 || decide (0 ≤ modDiff s.now ta)
    let word := match served, s.gateAt i 0 with
      | false, some g => g.2
      | _, _ => Word.field 7 0 (w.bits 7 0)
    s.setConv i (some
      { fire := arm == 3, seq := BitVec.ofNat 8 (w.bits 23 16), word := word, ta := ta
        tcmd := if arm = 3 then none else some ta, served := served, confirmed := arm == 2, retried := false
        late := arm == 3, armed := arm != 3 || ta != 0, armOk := false })

/-- The bucket takes the snapshot's tokens (R488). -/
def applyTokens (s : State) : State :=
  s.modBudget fun b => { b with tokens := (s.snapWord 0x4C).toNat + 2 ^ 32 * (s.snapWord 0x50).toNat }

/-- In a join the bucket takes the snapshot's queue too: the lead's own requests are the partner's here (R495). -/
def applyBudget (s : State) : State :=
  let req (i : Nat) : Nat := (s.snapWord (0x58 + 4 * (i / 3))).bits (10 * (i % 3) + 9) (10 * (i % 3))
  let l := ((List.range 30).map req).filter fun v => 512 ≤ v
  s.modBudget fun b =>
    { b with queue := l.map fun v =>
        let w := s.costWord (v / 16 % 16)
        ⟨v % 16, v / 16 % 16, w.bits 15 0, w.bits 19 16, w.bits 31 20, v / 256 % 2 == 0⟩ }

/-- Session numbers the snapshot shows. -/
def snapNumbers (s : State) : List Nat :=
  (List.range (s.snapWord 12).toNat).map fun i => (s.snapWord (0x18C0 + 64 * i + 48)).toNat % 256

/-- Shadow records follow the snapshot (R468), and what a shadow has heard stands while its session lasts; a shadow it no longer shows is idle (log entry 72). -/
def applyShadows (s : State) : State :=
  let shown := s.snapNumbers
  let s := forN 256 (fun n s =>
    if s.recShadow n && !shown.contains n then (s.setRec n 5 7 7 0).setState n 0 else s) s
  (List.range shown.length).foldl (fun s i =>
    let n := shown.getD i 0
    let w (k : Nat) : Word := s.snapWord (0x18C0 + 64 * i + 4 * k)
    let goesOn := s.recShadow n && s.ctx n 11 == w 11
    let t := (List.range 12).foldl (fun (t : State) k => t.setWord (recAddr n k) (w k)) s
    (t.setRec n 5 7 7 1).modSes n fun x =>
      { x with first := (w 13).toNat, pgn := (w 14).toNat, limit := (w 15).bits 15 0, begun := (w 15).bit 16
               heard := if goesOn then x.heard else [] }) s

/-- Travel is compared with the lead's, and the difference written to `POS_TRVADJ`, which adds it at the next boundary (R190); a divergence
is flagged (R491). -/
def applyTravel (s : State) : State :=
  let d := modDiff (s.snapWord 0x48) s.twn.sc
  let differs := (List.range 256).any fun i =>
    s.snapWord (0x8C0 + 16 * i) != s.reg (R.GTE_SEC_PTR i)
  let s := { s with pos := { s.pos with adjust := some (ofInt d) } }
  s.when (decide (s.nreg R.TWN_TRVTOL < d.natAbs) || differs) fun s =>
    (s.raise R.TWN_STAT F.TWN_STAT_DIVERGE).fire 251

/-- Slot `n` takes the snapshot's state (R495). -/
def applySlot (s : State) (n : Nat) : State :=
  let w (k : Nat) : Word := s.snapWord (0xC0 + 32 * n + 4 * k)
  let s := ((s.setReg (R.CLE_SL_INT n) (w 0)).setFld (R.CLE_SL_ST n) F.CLE_SL_ST_OSCCNT (w 6).toNat).setFld
    (R.CLE_SL_ST n) F.CLE_SL_ST_ALT (w 5).toNat
  s.modSlot (fin 64 n) fun x =>
    { x with d := (w 1).toInt, e1 := (w 2).toInt, v1 := (w 3).toInt, r1 := (w 4).toInt, fresh := false
             altA := (w 5).bit 1, altB := (w 5).bit 2, win := (w 7).toNat }

/-- A table-drive channel takes the snapshot's state (R495). -/
def applyTd (s : State) (x : Fin 2) : State :=
  let w (k : Nat) : Word := s.snapWord (0x80 + 32 * x.val + 4 * k)
  s.modTd x fun c =>
    { c with psa := (w 0).toInt, psb := (w 1).toInt, cT := signed 2 ((w 2).bits 1 0), cPsi := (w 2).bit 2
             scale := (w 2).bits 11 8, table := (w 2).bits 23 20, dwell := (w 3).toNat, elim := (w 4).toInt
             op := match (w 2).bits 17 16 with | 1 => .modulated | 2 => .table | _ => .off }

/-- HEAD and COUNT of every section follow the snapshot (R495). -/
def applyCourses (s : State) : State :=
  forN 256 (fun i (s : State) => s.setReg (R.GTE_SEC_PTR i) (s.snapWord (0x8C0 + 16 * i))) s

/-- A complete snapshot at the following boundary: travel, sections, tokens and shadow records; in WARM it is applied
whole (R488, R491, R495). -/
def snapshotApply (s : State) : State :=
  if !s.quiet || !s.twn.complete then s
  else
    let s := (s.modTwn fun x => { x with complete := false }).applyTravel
    let warm := s.twnPhase == 2
    let s := s.when warm fun s => ((forN 64 (fun n s => s.applySlot n) s).applyTd 0 |>.applyTd 1).applyCourses.applyBudget
    let s := (forN 256 (fun i s => s.applySec i) s).applyTokens.applyShadows
    s.when warm fun s =>
      s.setFld R.TWN_ST F.TWN_ST_WARMCNT (min 64 (s.fld R.TWN_ST F.TWN_ST_WARMCNT + 1))

/-! ### Signatures (R492) -/

/-- Samples of a window. -/
def sigWindow (s : State) : Nat := match s.fld R.TWN_CFG F.TWN_CFG_SIGWIN with | 0 => 256 | n => n

/-- A SIG frame (R492). -/
def sigFrame (s : State) (win : BitVec 16) (sig : Word) : State :=
  if !s.paired || !s.twn.sigWait || win.toNat ≠ s.fld R.TWN_SIGST F.TWN_SIGST_WIN then s
  else
    let s := s.setReg R.TWN_PSIG sig
    if sig = s.reg R.TWN_SIG then
      let again := s.twn.sigAgain
      let s := (s.sigEnd sig (if again then .retriedOk else .ok)).modTwn fun x => { x with sigBad := 0 }
      s.when again fun s => s.countUp R.TWN_SIGST F.TWN_SIGST_TRANS
    else s.sigMismatch sig

/-- The words that a sample adds to the signature, in the order of R492: the agreed values, the module's own where no AGREE frame came;
`MOD_MODE`; y and I of each slot of the mask; the entries that each channel applied, and its ELIM. -/
def sigWords (s : State) : List Word :=
  let value (n : Fin 63) : List Word :=
    if s.agreePolicy n.val = 0 then []
    else
      let i := (s.agreedOf n.val).getD (s.agreeOwn n)
      if 48 ≤ n.val && n.val < 59 then [i.value, i.speed] else [i.value]
  let slot (n : Nat) : List Word :=
    if (s.reg (R.TWN_SIGMSK (n / 32))).bit (n % 32) then [ofInt (s.cle.slot[fin 64 n]).y, s.reg (R.CLE_SL_INT n)] else []
  let td (x : Fin 2) : List Word := s.tdu[x].log.reverse.map (·.setWidth 32) ++ [ofInt s.tdu[x].elim]
  (List.finRange 63).flatMap value ++ [(s.modView R.MOD_MODE).getD 0] ++ (List.range 64).flatMap slot
    ++ (List.finRange 2).flatMap td

/-- The sample that ends is added to the running window's signature (R492), the bytes of each word lowest first (log entry 73). -/
def sigContinue (s : State) : State :=
  let s := if s.twnPhase = 4 && s.twn.sigOn then s.modTwn fun x => { x with crc := crcBytes (wordBytes s.sigWords) x.crc } else s
  forFin 2 (fun x s => s.modTd x fun c => { c with log := [] }) s

/-- The signatures at a boundary: one still missing is judged, a repeated exchange begins, and a window that ends by the lead's sample
count gives its signature and a new one starts; the first whole window after the join is the first to be signed (R492, R495). -/
def sigBoundary (s : State) : State :=
  let s := s.sigJudge
  let s := s.when s.twn.sigAgain fun s => s.modTwn fun x => { x with sigWait := true }
  if s.twnPhase ≠ 4 then s.modTwn fun x => { x with sigOn := false }
  else if s.leadCount.toNat % s.sigWindow = 0 then
    let t := s.modTwn fun x => { x with sigOn := true, crc := 0xFFFFFFFF }
    if s.twn.sigOn && s.twnSends then
      ((t.setReg R.TWN_SIG (~~~s.twn.crc)).setFld R.TWN_SIGST F.TWN_SIGST_WIN (s.leadCount.toNat / s.sigWindow)).modTwn fun x =>
        { x with sigWait := true, sigAgain := false }
    else t
  else s

/-! ### The sample boundary (R494, R495) -/

/-- A section whose stored snapshot shows an open conversation sends its last frame again (R494). -/
def resendSec (s : State) (i : Nat) : State :=
  match (s.sec i).conv with
  | none => s
  | some x =>
    if x.fire then s.convSend i none x.word 2 true none
    else if s.gteLead ≤ modDiff x.ta s.now then s.convSend i (some x.ta) x.word 2 x.served none
    else if x.served then s.convSend i none x.word 0 true none
    else s.fireHead i x.word 0 none

/-- Step 3 of R494: a module that ran quiet takes over what the acting lead did; a request that was on its way to the
lead is judged here (log entry 74). -/
def takeoverMake (s : State) : State :=
  let wasQuiet := s.cnvQuiet
  let s := s.modTwn fun x => { x with takeover := false, hold := false }
  let s := s.when wasQuiet cnvTakeover
  let s := s.when (wasQuiet && s.twn.stored) fun s =>
    forN 256 (fun i s => if s.snapArm i = 0 then s else (s.applySec i).resendSec i) s.applyTokens
  let sent := (List.range 16).flatMap fun p => s.budget.sent.filter fun q => q.1 == p
  let s := s.modBudget fun b => { b with sent := [], queue := if wasQuiet then [] else b.queue }
  let s := sent.foldl (fun s q =>
    match s.budgetJudge q.1 q.2 false with
    | (.granted, s) => s.budgetGranted q.1 q.2
    | (.refused, s) => s.budgetEnded q.1 q.2 .outOfRange
    | (.waits, s) => s) s
  let s := match s.twn.forwarded with
    | some (src, code, addr) =>
      let (st, t) := (s.modTwn fun x => { x with forwarded := none }).modeJudge src code.toNat addr
      if t.mod.trans.isSome then t else t.reqSource ⟨src, .idle, false, false, addr⟩ st
    | none => s
  s.fire 247

/-- The share of the ramp (R495), unsigned Q0.16; its rounding is free (log entry 8). -/
def rampShare (s : State) : Nat :=
  let ns := (s.leadCount - s.twn.rampStart).toNat * s.sampleNs
  let total := 1000000 * max 1 (s.nreg R.TWN_RAMP)
  if total ≤ ns then 0x8000 else (freeDiv 495 (ns * 32768 : Nat) total).toNat

/-- The state of the link at a boundary: search, the steps of the join, the share ramp (R495). -/
def twnBoundary (s : State) : State :=
  if !s.twnOn then
    if s.twnPhase = 0 then s
    else
      let s := (((s.setTwn 0).setFld R.TWN_ST F.TWN_ST_ACTLEAD 0).setFld R.TWN_LANE F.TWN_LANE_UP 0).setFld R.CNV_CFG
        F.CNV_CFG_QUIET 0
      s.modTwn fun x => { x with heard := none, announced := none, takeover := false, hold := false }
  else
    let s := s.lanesAge
    match s.twnPhase with
    | 0 => s.setTwn 1
    | 2 =>
      if s.twn.warmed then
        let s := (s.setTwn 3).modTwn fun x => { x with rampStart := s.leadCount }
        (forFin 2 (fun x s => s.modTd x fun c => { c with rampJ := 0 }) s).fire 249
      else if !s.actLead && s.fld R.TWN_ST F.TWN_ST_WARMCNT == 64 then s.modTwn fun x => { x with warmed := true }
      else s
    | 3 =>
      let sh := s.rampShare
      let s := s.setFld R.TWN_ST F.TWN_ST_SHARE sh
      if sh = 0x8000 then ((s.setTwn 4).setDeg F.MOD_DEG_PARTNER false).fire 250 else s
    | _ => s

/-- A DEC frame for channel `x` (R276, R479, R486). -/
def decFrame (s : State) (x : Fin 2) (d : DecIn) : State :=
  if s.paired && s.tdPresent x then s.modTd x fun c => { c with frame := some d } else s

end State

/-- LANE_TRAINED (R478, R480). -/
def execLaneTrained (k : Fin 4) (s : State) : Host.Outcome State Fault Refusal :=
  .next (s.whenTwn fun s => s.laneTrained k.val)

/-- IDENT (R476). -/
def execIdent (uid0 uid1 : Word) (role : BitVec 2) (accepts : Bool) (s : State) : Host.Outcome State Fault Refusal :=
  .next (s.whenTwn fun s => s.identFrame uid0 uid1 role.toNat accepts)

/-- TIMING_SYMBOL (R481). -/
def execTimingSymbol (err : BitVec 16) (leadTime : Word) (leadSub : Fin 250) (s : State) : Host.Outcome State Fault Refusal :=
  .next (s.whenTwn fun s => s.timingSymbol err leadTime leadSub.val)

/-- HEARTBEAT (R485, R493, R495). -/
def execHeartbeat (h : HeartbeatIn) (s : State) : Host.Outcome State Fault Refusal :=
  .next (s.whenTwn fun s => s.heartbeat h)

/-- AGREE (R484). -/
def execAgree (items : List AgreeItem) (s : State) : Host.Outcome State Fault Refusal :=
  .next (s.whenTwn fun s => s.agree items)

/-- AGREE_MISS (R484). -/
def execAgreeMiss (s : State) : Host.Outcome State Fault Refusal := .next (s.whenTwn State.agreeMiss)

/-- DEC (R276, R486). -/
def execDec (x : Fin 2) (d : DecIn) (s : State) : Host.Outcome State Fault Refusal :=
  .next (s.whenTwn fun s => s.decFrame x d)

/-- SNAP (R489). -/
def execSnap (segment : BitVec 6) (data : List Byte) (ok : Bool) (s : State) : Host.Outcome State Fault Refusal :=
  .next (s.whenTwn fun s => s.snap segment data ok)

/-- SIG_FRAME (R492). -/
def execSigFrame (win : BitVec 16) (sig : Word) (s : State) : Host.Outcome State Fault Refusal :=
  .next (s.whenTwn fun s => s.sigFrame win sig)

/-- LANE_FAILURE (R480). -/
def execLaneFailure (k : Fin 4) (s : State) : Host.Outcome State Fault Refusal :=
  .next (s.whenTwn fun s => s.laneFailure k)

/-- LANE_CLEAR: a write of `TWN_LANECLR` (R480). -/
def execLaneClear (m : Master) (mask : BitVec 4) (s : State) : Host.Outcome State Fault Refusal :=
  .next (if s.hasPairs then (s.whenUp fun s => s.laneClear mask).setStatus m .ok else s.setStatus m .notPresent)

/-- HEARTBEAT_MISS (R493). -/
def execHeartbeatMiss (aliveHigh : Bool) (s : State) : Host.Outcome State Fault Refusal :=
  .next (s.whenTwn fun s => s.heartbeatMiss aliveHigh)

/-- SNAPSHOT_CAPTURE (R489 to R491). -/
def execSnapshotCapture (s : State) : Host.Outcome State Fault Refusal := .next (s.whenTwn State.snapshotCapture)

/-- SNAPSHOT_CLOSE (R482, R489). -/
def execSnapshotClose (s : State) : Host.Outcome State Fault Refusal := .next (s.whenTwn State.snapshotClose)

end Sys2Proof.Machine
end

