-- ==== Sys2Proof/Machine/Events.lean ====
section
/-!
DEFINITION. The event controller and what it does to the application cores (R535, R538 to R543, R551), code flash
(R536, R537), doorbells and `HP_IRQ` flags (R550).
-/

namespace Sys2Proof.Machine
namespace State

/-! ### Cores -/

/-- Application core `c`. -/
def core (s : State) (c : Fin 2) : Core := if c = 0 then s.evt.core0 else s.evt.core1

/-- The event controller changed by `f`. -/
def modEvt (s : State) (f : EventCtl → EventCtl) : State := { s with evt := f s.evt }

/-- Application core `c` changed by `f`. -/
def modCore (s : State) (c : Fin 2) (f : Core → Core) : State :=
  s.modEvt fun e => if c = 0 then { e with core0 := f e.core0 } else { e with core1 := f e.core1 }

/-- `f` is applied in the modes in which the cores, the event controller and the host port run (R553). -/
def whenOn (s : State) (f : State → State) : State := if s.mode = .off then s else f s

/-- Core `c` executes: it is released, no debugger halts it, and the mode is not OFF (R535, R551, R553). -/
def coreRuns (s : State) (c : Fin 2) : Bool := s.mode != .off && (s.core c).released && !(s.core c).halted

/-- A reservation on a word of the `n` bytes from `a` on is lost (R533). -/
def loseReservation (s : State) (a n : Nat) : State :=
  let drop (c : Core) : Core :=
    match c.reservation with
    | some w => if w < a + n && a < w + 4 then { c with reservation := none } else c
    | none => c
  s.modEvt fun e => { e with core0 := drop e.core0, core1 := drop e.core1 }

/-- A trap on core `c` to `pc`: `mepc` and `mcause` are saved, `mstatus` and the mode change, and a reservation is lost
(R533, R540). -/
def coreTrap (s : State) (c : Fin 2) (mepc mcause pc : Word) : State :=
  s.modCore c fun x =>
    { x with mepc := mepc, mcause := mcause, pc := pc, mpie := x.mie, mie := false, mppMachine := x.machine
             machine := true, reservation := none }

/-- A synchronous exception on core `c`: its cause and its addresses are the core's own and free here (log entry 80);
while a source is active the depth rises (R541). -/
def coreException (s : State) (c : Fin 2) : State :=
  let w (k : Nat) : Word := Config.freeWord (5410 + k) s.freeCount
  let s := (s.coreTrap c (w 0) (w 1) (w 2)).takeFree
  s.modCore c fun x => if x.active.isSome then { x with depth := x.depth + 1 } else x

/-- The application core that is master `m`. -/
def coreOf (m : Master) : Option (Fin 2) :=
  match m with | .host => none | .core0 => some 0 | .core1 => some 1

/-- What core `c` holds of its own. -/
def own (s : State) (c : Fin 2) : CoreOwn := if c = 0 then s.bus.own0 else s.bus.own1

/-- What core `c` holds of its own changed by `f`. -/
def modOwn (s : State) (c : Fin 2) (f : CoreOwn → CoreOwn) : State :=
  { s with bus := if c = 0 then { s.bus with own0 := f s.bus.own0 } else { s.bus with own1 := f s.bus.own1 } }

/-- An instruction of core `c` retires (R532). -/
def retire (s : State) (c : Fin 2) : State := s.modOwn c fun o => { o with minstret := o.minstret + 1 }

/-- The CSRs `time` and `timeh` (R532). -/
def coreTime (s : State) : BitVec 64 := s.clk.timeHigh ++ s.reg R.NET_TIME

/-- Cores are released: each starts at its boot address (R535). -/
def coreRelease (s : State) (mask : BitVec 2) : State :=
  if s.fld R.HPT_BOOTCTL F.HPT_BOOTCTL_BOOTSEL ≠ 1 then s
  else
    forFin 2 (fun c s =>
      if mask.getLsbD c.val && !(s.core c).released then
        let s := s.modCore c fun x => { x with released := true, pc := s.reg (R.HPT_BOOT c.val) }
        s.setFld R.HPT_BOOTCTL F.HPT_BOOTCTL_RELEASE (s.fld R.HPT_BOOTCTL F.HPT_BOOTCTL_RELEASE ||| 2 ^ c.val)
      else s) s

/-! ### Delivery (R538 to R543) -/

/-- Source `n` is a candidate for core `c` (R539). -/
def evtCandidate (s : State) (c : Fin 2) (n : Nat) : Bool :=
  let w := s.reg (R.EVT_SRC_CFG n)
  s.evt.pend.getLsbD n && w.bit 31 && (w.bit 30 == (c == 1)) && !s.evt.hold.getLsbD (n / 16)

/-- The winner of the arbitration: the lowest PRIO, then the lowest number (R539). -/
def evtWinner (s : State) (c : Fin 2) : Option Nat :=
  let prio (n : Nat) : Nat := s.fld (R.EVT_SRC_CFG n) F.EVT_SRC_CFG_PRIO
  ((List.range 256).filter (s.evtCandidate c)).foldl (fun b n =>
    match b with
    | none => some n
    | some m => if prio n < prio m then some n else b) none

/-- The CSR `mip` of core `c`: MEIP while a candidate waits, and MTIP and MSIP read 0 (R532). -/
def coreMip (s : State) (c : Fin 2) : Word := Word.field 11 11 (Word.ofBool (s.evtWinner c).isSome)

/-- The winner is delivered to core `c`, whose own enables are taken as set; the address it saves is the core's own and
free here (R539, R540, R543; log entry 80). -/
def evtDeliver (s : State) (c : Fin 2) : State :=
  if !s.coreRuns c || (s.core c).active.isSome then s
  else
    match s.evtWinner c with
    | none => s
    | some n =>
      let b : BitVec 256 := BitVec.ofNat 256 (2 ^ n)
      let g : BitVec 16 := BitVec.ofNat 16 (2 ^ (n / 16))
      let hold := s.fld (R.EVT_GRP_HOLD (n / 16)) F.EVT_GRP_HOLD_HOLD != 0
      let s := s.modEvt fun e =>
        { e with pend := e.pend &&& ~~~b, act := e.act ||| b, hold := if hold then e.hold ||| g else e.hold }
      let s := (s.coreTrap c (Config.freeWord 540 s.freeCount) (BitVec.ofNat 32 (0x80000010 + n))
        (s.reg (R.EVT_SRC_VEC n))).takeFree
      s.modCore c fun x => { x with active := some (BitVec.ofNat 8 n), depth := 0, mpie := true }

/-- An `MRET` on core `c`: it lowers the depth, or at depth 0 completes the delivery, and the core goes on where
`mepc` says (R541). -/
def coreMret (s : State) (c : Fin 2) : State :=
  let x := s.core c
  let s := s.modCore c fun x =>
    { x with pc := x.mepc, mie := x.mpie, mpie := true, machine := x.mppMachine, mppMachine := false }
  match x.active with
  | none => s
  | some n =>
    if 0 < x.depth then s.modCore c fun x => { x with depth := x.depth - 1 }
    else
      (s.modEvt fun e => { e with act := e.act &&& ~~~(BitVec.ofNat 256 (2 ^ n.toNat)) }).modCore c fun x =>
        { x with active := none }

/-- A write of `EVT_PENDk` clears the bits of sources that are not active (R538). -/
def pendClear (s : State) (k : Nat) (mask : Word) : State :=
  let m : BitVec 256 := (mask.setWidth 256) <<< (32 * k)
  s.modEvt fun e => { e with pend := e.pend &&& ~~~(m &&& ~~~e.act) }

/-- A word of a 256-bit vector. -/
def wideWord (b : BitVec 256) (k : Nat) : Word := (b >>> (32 * k)).setWidth 32

/-- What the registers of the event controller read as (R554, R555). -/
def evtView (s : State) (r : Nat) : Option Word :=
  let coreWord (c : Fin 2) : Word :=
    let x := s.core c
    let w := s.evtWinner c
    Word.field 31 31 (Word.ofBool x.active.isSome) ||| Word.field 30 30 (Word.ofBool w.isSome)
      ||| Word.field 23 20 (min 15 x.depth) ||| Word.field 15 8 (w.getD 0)
      ||| Word.field 7 0 (match x.active with | some n => n.toNat | none => 0)
  if r = R.EVT_CORE0 then some (coreWord 0)
  else if r = R.EVT_CORE1 then some (coreWord 1)
  else if R.EVT_PEND 0 ≤ r && r < R.EVT_PEND 8 then some (wideWord s.evt.pend ((r - R.EVT_PEND 0) / 4))
  else if R.EVT_ACT 0 ≤ r && r < R.EVT_ACT 8 then some (wideWord s.evt.act ((r - R.EVT_ACT 0) / 4))
  else if R.EVT_GRP_HOLD 0 ≤ r && r < R.EVT_GRP_HOLD 16 then
    some (s.reg r ||| Word.field 31 31 (Word.ofBool (s.evt.hold.getLsbD ((r - R.EVT_GRP_HOLD 0) / 4))))
  else none

/-! ### Code flash (R536, R537) -/

/-- The mode, and while a transition is pending its target too, is IDLE or SERVICE (R57, R105, R536). -/
def flashPermitted (s : State) : Bool :=
  let may (m : Mode) : Bool := m == .idle || m == .service
  may s.mode && (match s.pendTarget with | some t => may t | none => true)

/-- The judgement of a write to `HPT_FLCTL` (R536). -/
def flashJudge (s : State) (key : Byte) (op : Nat) : Status :=
  if s.lockInForce then .locked
  else if !s.flashPermitted then .wrongMode
  else if key ≠ 0x5A || op = 3 then .outOfRange
  else if s.flash.isSome then .busy
  else .ok

/-- A write to `HPT_FLCTL` with OP `op`: its status, and the operation started where it is OK (R536). -/
def flashCommand (s : State) (key : Byte) (op : Nat) : Status × State :=
  let st := s.flashJudge key op
  let s := s.setFld R.HPT_FLCTL F.HPT_FLCTL_STATUS st.code
  if st ≠ .ok then (st, s)
  else (.ok, { s.setFld R.HPT_FLCTL F.HPT_FLCTL_BUSY 1 with flash := some ⟨op == 2, s.nreg R.HPT_FLADDR, false⟩ })

/-- A master's write to `HPT_FLCTL` (R62, R536). -/
def flashWrite (s : State) (m : Master) (key : Byte) (op : Nat) : State :=
  let (st, s) := s.flashCommand key op
  s.complete m R.HPT_FLCTL st

/-- The words of `HPT_FLBUF0` to `HPT_FLBUF3`. -/
def flashBuf (s : State) : List Byte := (List.range 4).flatMap fun k => leBytes 4 (s.nreg (R.HPT_FLBUF k))

/-- What an attempt leaves in the granule or the sector: its aim, or after a failed attempt free bytes (log entry 8). -/
def flashResult (s : State) (op : FlashOp) (good : Bool) : State :=
  let n := if op.erase then 8192 else 16
  let a := if op.erase then op.addr / 8192 * 8192 else op.addr
  if good then s.setBytes a (if op.erase then List.replicate 8192 0xFF else s.flashBuf)
  else
    let s' := s.setBytes a ((List.range n).map fun i => (Config.freeWord 536 (s.freeCount + i)).setWidth 8)
    { s' with freeCount := s.freeCount + n }

/-- A flash attempt ends (R536, R537). -/
def flashDone (s : State) (verified : Bool) : State :=
  match s.flash with
  | none => s
  | some op =>
    let s := s.flashResult op verified
    if !verified && !op.retry then { s with flash := some { op with retry := true } }
    else
      let st : Status := if verified then (if op.retry then .retriedOk else .ok) else .failedTwice
      let s := { s with flash := none }
      ((s.setFld R.HPT_FLCTL F.HPT_FLCTL_BUSY 0).setFld R.HPT_FLCTL F.HPT_FLCTL_STATUS st.code).raise R.HPT_IRQST
        F.HPT_IRQST_FLDONE

/-! ### Doorbells and flags (R550) -/

/-- Doorbells ring. -/
def doorbell (s : State) (mask : BitVec 2) : State := (s.fireIf (mask.getLsbD 0) 252).fireIf (mask.getLsbD 1) 253

/-- Flags of `HPT_IRQST` are set. -/
def irqSet (s : State) (mask : BitVec 16) : State := s.modReg R.HPT_IRQST (· ||| mask.setWidth 32)

/-- `HP_IRQ` is pulled low; in OFF it is high-impedance (R72, R550). -/
def hpIrqLow (s : State) : Bool := s.mode != .off && s.reg R.HPT_IRQST &&& s.reg R.HPT_IRQEN != 0

end State

/-- EVENT_DELIVERY (R539, R540). -/
def execEventDelivery (c : Fin 2) (s : State) : Host.Outcome State Fault Refusal := .next (s.evtDeliver c)

/-- MRET (R541). -/
def execMret (c : Fin 2) (s : State) : Host.Outcome State Fault Refusal := .next (if s.coreRuns c then (s.coreMret c).retire c else s)

/-- EVENT_PENDING_CLEAR: a write of `EVT_PENDk` (R538). -/
def execEventPendingClear (k : Fin 8) (mask : Word) (s : State) : Host.Outcome State Fault Refusal :=
  .next (s.whenOn fun s => s.pendClear k.val mask)

/-- GROUP_HOLDOFF_EXPIRY (R543). -/
def execGroupHoldoffExpiry (g : Fin 16) (s : State) : Host.Outcome State Fault Refusal :=
  .next (s.whenOn fun s => s.modEvt fun e => { e with hold := e.hold &&& ~~~(BitVec.ofNat 16 (2 ^ g.val)) })

/-- CORE_RELEASE: a write of `HPT_BOOTCTL` (R535). -/
def execCoreRelease (mask : BitVec 2) (s : State) : Host.Outcome State Fault Refusal :=
  .next (s.whenOn fun s => s.coreRelease mask)

/-- FLASH_PROGRAM (R536). -/
def execFlashProgram (m : Master) (key : Byte) (s : State) : Host.Outcome State Fault Refusal :=
  .next (s.whenOn fun s => s.flashWrite m key 1)

/-- FLASH_ERASE (R536). -/
def execFlashErase (m : Master) (key : Byte) (s : State) : Host.Outcome State Fault Refusal :=
  .next (s.whenOn fun s => s.flashWrite m key 2)

/-- DOORBELL (R550). -/
def execDoorbell (mask : BitVec 2) (s : State) : Host.Outcome State Fault Refusal :=
  .next (s.whenOn fun s => s.doorbell mask)

/-- IRQ_SET (R550). -/
def execIrqSet (mask : BitVec 16) (s : State) : Host.Outcome State Fault Refusal :=
  .next (s.whenOn fun s => s.irqSet mask)

/-- SYNCHRONOUS_EXCEPTION (R541). -/
def execSynchronousException (c : Fin 2) (s : State) : Host.Outcome State Fault Refusal :=
  .next (if s.coreRuns c then s.coreException c else s)

end Sys2Proof.Machine
end

