-- ==== Sys2Proof/Machine/Seq.lean ====
section
/-!
DEFINITION. The schedule engines' running (R90 to R121): states, starts, stops and swaps, waits and their tests, the
boundary, the debug freeze, and what their registers read as.
-/

namespace Sys2Proof.Machine

/-- The last word address of schedule memory is 131,071 (R35, R109). -/
def seqWords : Nat := 131072

/-- An engine with no wait and no instruction under way: what it had begun ends without completion (R107, R108, R124). -/
def Engine.ended (x : Engine) : Engine :=
  { x with wait := .none, expires := none, busy := 0, ending := none, late := false }

namespace State

/-! ### Freeze (R111) -/

/-- A debugger halts a core while `SYS_DBG.FREEZE` = 1. -/
def freezing (s : State) : Bool :=
  s.bit R.SYS_DBG F.SYS_DBG_FREEZE && (s.evt.core0.halted || s.evt.core1.halted)

/-- The engine is RUNNING and issues: none of its instructions is under way. -/
def issuing (s : State) (e : Fin 8) : Bool :=
  (s.engine e).state == .running && !(s.engine e).frozen && (s.engine e).ending.isNone

/-- The engine waits and its wait is tested. -/
def testing (s : State) (e : Fin 8) : Bool := (s.engine e).state == .waiting && !(s.engine e).frozen

/-- Engine `e` is not STOPPED, HALTED or FAULTED. -/
def seqInUse (s : State) (e : Fin 8) : Bool := (s.engine e).state == .running || (s.engine e).state == .waiting

/-! ### Start, stop, fault (R106, R107, R109) -/

/-- Engine `e` starts. -/
def seqStart (s : State) (e : Fin 8) : State :=
  let x := s.engine e
  if s.up && (x.state == .stopped || x.state == .halted || x.state == .faulted) then
    let pc := s.fld (R.SEQ_ENTRY e.val) F.SEQ_ENTRY_ADDR
    (s.modEngine e fun _ => { Engine.reset with state := .running, frozen := s.freezing, pc := pc }).setReg
      (R.SEQ_CNT e.val) 0
  else s

/-- Engine `e` stops. -/
def seqStop (s : State) (e : Fin 8) : State :=
  s.modEngine e fun x => { x.ended with state := .stopped, frozen := false, staging := [] }

/-- Engines of the masks start and stop; a stop wins over a start (R107). -/
def seqGo (s : State) (start stop : Nat) : State :=
  forFin 8 (fun e s =>
    if stop.testBit e.val then s.seqStop e else if start.testBit e.val then s.seqStart e else s) s

/-- Engine `e` becomes FAULTED (R109). -/
def seqFault (s : State) (e : Fin 8) (cause : Nat) : State :=
  (s.modEngine e fun x => { x with state := .faulted, fault := cause, staging := [] }).fire (33 + 4 * e.val)

/-! ### Swaps (R108) -/

/-- A swap of engine `e` is asked for, or cancelled. -/
def swapAsk (s : State) (e : Fin 8) (swap atRest : Bool) : State :=
  let r := R.SEQ_CTL e.val
  (s.setFld r F.SEQ_CTL_SWAP (Word.ofBool swap)).setFld r F.SEQ_CTL_SWAPMODE (Word.ofBool atRest)

/-- Engine `e` is at rest: HALTED or in a sample wait. -/
def atRest (s : State) (e : Fin 8) : Bool :=
  let x := s.engine e
  x.state == .halted || (x.state == .waiting && (match x.wait with | .sample _ _ _ => true | _ => false))

/-- A pending swap of engine `e` at a boundary; one of a frozen engine is held, and a HALTED engine set RUNNING during a
freeze is FROZEN (R108, R111). -/
def swapBoundary (s : State) (e : Fin 8) : State :=
  let r := R.SEQ_CTL e.val
  if s.bit r F.SEQ_CTL_SWAP && !(s.engine e).frozen && (!s.bit r F.SEQ_CTL_SWAPMODE || s.atRest e) then
    let s := (s.setReg (R.SEQ_ENTRY e.val) (s.reg (R.SEQ_NEXT e.val))).setFld r F.SEQ_CTL_SWAP 0
    let pc := s.fld (R.SEQ_ENTRY e.val) F.SEQ_ENTRY_ADDR
    let freeze := s.freezing
    s.modEngine e fun x =>
      { x.ended with staging := [], calls := [], loops := [], pc := pc, frozen := x.state == .halted && freeze
                     state := match x.state with
                       | .stopped => .stopped | .faulted => .faulted
                       | .running | .waiting | .halted => .running }
  else s

/-! ### Waits (R98 to R103) -/

/-- The condition of engine `e`'s wait holds now. The offset of a sample wait is measured in steps of network time from its
value at the boundary (R98, R138; log entry 135). DESIGN CHOICE, unsafe. -/
def waitHolds (s : State) (e : Fin 8) : Bool :=
  match (s.engine e).wait with
  | .none => false
  | .time t => decide (0 ≤ modDiff s.now t)
  | .sample left ofs passed =>
    left == 0 && (match passed with | some t => decide ((ofs : Int) ≤ modDiff s.now t) | none => false)
  | .position rev t a =>
    let d := modDiff (s.axisPos a) t
    if rev then decide (d ≤ 0) else decide (0 ≤ d)
  | .travel rev t a =>
    let d := modDiff (s.travel a) t
    if rev then decide (d ≤ 0) else decide (0 ≤ d)
  | .event src => (s.engine e).evl.getLsbD src.toNat
  | .commit left _ => left.isEmpty

/-- Engine `e`'s wait ends with `st` and the engine goes on (R101, R104). -/
def waitEnd (s : State) (e : Fin 8) (st : Status) : State :=
  let x := s.engine e
  let s := s.modEngine e fun x => { x.ended with state := .running, pc := x.pc + x.waitLen }
  s.completeInstr e x.waitOp x.pc st

/-- The latch bit of source `n` of engine `e` is cleared. -/
def latchClear (s : State) (e : Fin 8) (n : Nat) : State :=
  s.modEngine e fun x => { x with evl := x.evl &&& ~~~(BitVec.ofNat 256 (2 ^ n)) }

/-- Engine `e`'s wait completes, its condition holding: an event wait clears its bit, a commit gives the status of R96. -/
def waitOk (s : State) (e : Fin 8) : State :=
  match (s.engine e).wait with
  | .event src => (s.latchClear e src.toNat).waitEnd e .ok
  | .commit _ st => s.waitEnd e st
  | .none | .time _ | .sample _ _ _ | .position _ _ _ | .travel _ _ _ => s.waitEnd e .ok

/-- The wait's timeout has expired, now or during a freeze (R99, R111). -/
def waitExpired (s : State) (e : Fin 8) : Bool :=
  (s.engine e).late || match (s.engine e).expires with
    | some t => decide (0 ≤ modDiff s.now t)
    | none => false

/-- Engine `e`'s wait times out (R99, R136). -/
def waitLate (s : State) (e : Fin 8) : State :=
  match (s.engine e).wait with
  | .commit _ st => s.waitEnd e (if st = .ok then .timeout else st)
  | .none | .time _ | .sample _ _ _ | .position _ _ _ | .travel _ _ _ | .event _ => s.waitEnd e .timeout

/-- How engine `e`'s wait ends now: a condition that holds, now or noted before, completes it, otherwise an expired timeout
ends it (R99, R111). -/
def waitNow (s : State) (e : Fin 8) : Option Ending :=
  if !s.testing e then none
  else if (s.engine e).ending == some .waitOk || s.waitHolds e then some .waitOk
  else if s.waitExpired e then some .waitLate
  else none

/-- Engine `e`'s wait is tested and ends at once. -/
def waitTest (s : State) (e : Fin 8) : State :=
  match s.waitNow e with
  | some .waitOk => s.waitOk e
  | some .waitLate => s.waitLate e
  | some (.instr _) | none => s

/-- Engine `e`'s wait is tested in a CORE clock: it ends in the next (R101). -/
def waitNote (s : State) (e : Fin 8) : State :=
  match s.waitNow e with
  | some w => s.modEngine e fun x => { x with ending := some w }
  | none => s

/-- A clock of a FROZEN engine: its timeout goes on counting (R111). -/
def waitFrozen (s : State) (e : Fin 8) : State :=
  if s.waitExpired e then s.modEngine e fun x => { x with late := true } else s

/-- Engine `e`, where it runs, enters WAITING at the instruction of opcode `op` and `len` words, with a timeout in µs (R98, R99). -/
def waitBegin (s : State) (e : Fin 8) (op len : Nat) (w : Wait) (tmo : Timeout) : State :=
  let expires := match tmo with
    | some t => if t = 0 then none else some (s.now + t.setWidth 32 + 1)
    | none => none
  s.modEngine e fun x =>
    if x.state == .running then
      { x with state := .waiting, wait := w, waitOp := op, waitLen := len, expires := expires, late := false }
    else x

/-! ### Completion (R104, R124) -/

/-- Engine `e`'s instruction completes as `f` says: its v register is written, its status recorded, and the engine goes on. -/
def finish (s : State) (e : Fin 8) (f : Finish) : State :=
  let s := match f.vd with
    | some (k, w) => s.setV e k w
    | none => s
  (s.modEngine e fun x => { x with pc := f.next, ending := none, busy := 0 }).completeInstr e f.op f.was f.st

/-- The freeze begins or ends with its conditions; at its end every wait is tested (R111). -/
def freezeUpdate (s : State) : State :=
  let on := s.freezing
  forFin 8 (fun e s =>
    let x := s.engine e
    if x.state == .running || x.state == .waiting then
      if x.frozen && !on then (s.modEngine e fun x => { x with frozen := false }).waitTest e
      else s.modEngine e fun x => { x with frozen := on }
    else s) s

/-- The engines at a sample boundary: swaps, then the boundary counts for the sample waits (R98, R101, R108). -/
def seqBoundary (s : State) : State :=
  let s := forFin 8 (fun e s => s.swapBoundary e) s
  forFin 8 (fun e s =>
    match (s.engine e).wait with
    | .sample left ofs passed =>
      let now := s.now
      let w : Wait := if left = 0 then .sample 0 ofs passed
        else if left = 1 then .sample 0 ofs (some now) else .sample (left - 1) ofs passed
      (s.modEngine e fun x => { x with wait := w }).waitTest e
    | .none | .time _ | .position _ _ _ | .travel _ _ _ | .event _ | .commit _ _ => s) s

/-! ### Debugging -/

/-- A debugger halts core `c` (R111, R551). -/
def debugHalt (s : State) (c : Fin 2) : State := (s.modCore c fun x => { x with halted := true }).freezeUpdate

/-- The debugger releases core `c`, or starts one held for it, at the `dpc` it wrote if any, with the trace set to `trace` (R111,
R535, R552). -/
def debugResume (s : State) (c : Fin 2) (trace : Option (Fin 2)) (dpc : Option Word) : State :=
  let s := s.modCore c fun x => { x with halted := false, pc := dpc.getD x.pc }
  { s with evt := { s.evt with trace := trace } }.freezeUpdate

/-! ### What the registers read as (R113 to R116) -/

/-- The state as R90 codes it. -/
def seqCode (s : State) (e : Fin 8) : Nat :=
  let x := s.engine e
  if x.frozen then 5
  else match x.state with | .stopped => 0 | .running => 1 | .waiting => 2 | .halted => 3 | .faulted => 4

/-- What the state registers of the engines read as. -/
def seqView (s : State) (r : Nat) : Option Word :=
  let mask (p : Fin 8 → Bool) : Nat := (((List.finRange 8).filter p).map fun e => 2 ^ e.val).sum
  if r = R.SEQ_RUNSTAT then
    some (Word.field 23 16 (mask fun e => s.seqCode e == 4)
      ||| Word.field 15 8 (mask fun e => s.bit (R.SEQ_CTL e.val) F.SEQ_CTL_SWAP)
      ||| Word.field 7 0 (mask fun e => s.seqCode e == 1 || s.seqCode e == 2 || s.seqCode e == 5))
  else if R.SEQ_CTL 0 ≤ r && r < R.SEQ_CTL 8 then
    let e := fin 8 ((r - R.SEQ_CTL 0) / 0x100)
    let x := s.engine e
    let k := (r - R.SEQ_CTL 0) % 0x100
    if k = 0x04 then
      let kind := match x.wait with
        | .none => 0 | .time _ => 1 | .sample _ _ _ => 2 | .position _ _ _ => 3 | .travel _ _ _ => 4 | .event _ => 5
        | .commit _ _ => 6
      some (Word.field 23 20 x.fault ||| Word.field 19 16 kind ||| Word.field 13 8 x.staging.length
        ||| Word.field 6 4 x.calls.length ||| Word.field 2 0 (s.seqCode e))
    else if k = 0x10 then some (Word.field 18 2 x.pc)
    else if 0x80 ≤ k && k < 0xA0 then some (wideWord x.evl ((k - 0x80) / 4))
    else none
  else none

/-- A W1C write to word `k` of engine `e`'s latch (R103). -/
def evlClear (s : State) (e : Fin 8) (k : Nat) (mask : Word) : State :=
  s.modEngine e fun x => { x with evl := x.evl &&& ~~~((mask.setWidth 256) <<< (32 * k)) }

end State

/-- ENGINE_START (R106). -/
def execEngineStart (mask : BitVec 8) (s : State) : Host.Outcome State Fault Refusal := .next (s.seqGo mask.toNat 0)

/-- ENGINE_STOP (R107). -/
def execEngineStop (mask : BitVec 8) (s : State) : Host.Outcome State Fault Refusal := .next (s.seqGo 0 mask.toNat)

/-- SWAP_REQUEST (R108). -/
def execSwapRequest (e : Fin 8) (atRest : Bool) (s : State) : Host.Outcome State Fault Refusal :=
  .next (s.whenUp fun s => s.swapAsk e true atRest)

/-- SWAP_CANCEL (R108). -/
def execSwapCancel (e : Fin 8) (s : State) : Host.Outcome State Fault Refusal :=
  .next (s.setFld (R.SEQ_CTL e.val) F.SEQ_CTL_SWAP 0)

/-- EVENT_LATCH_CLEAR (R103); a write to the latch of an engine in use is a host mistake (R121). -/
def execEventLatchClear (e k : Fin 8) (mask : Word) (s : State) : Host.Outcome State Fault Refusal :=
  if s.seqInUse e then .fault .hostMistake else .next (s.evlClear e k.val mask)

/-- DEBUG_HALT (R111, R551). -/
def execDebugHalt (c : Fin 2) (s : State) : Host.Outcome State Fault Refusal := .next (s.debugHalt c)

/-- DEBUG_RESUME (R111, R535, R552). -/
def execDebugResume (c : Fin 2) (trace : Option (Fin 2)) (dpc : Option Word) (s : State) : Host.Outcome State Fault Refusal :=
  .next (s.debugResume c trace dpc)

/-- WAIT_COMPLETE: the condition of engine `e`'s wait holds (R98 to R103). -/
def execWaitComplete (e : Fin 8) (s : State) : Host.Outcome State Fault Refusal :=
  .next (if s.testing e && s.waitHolds e then s.waitOk e else s)

/-- WAIT_TIMEOUT: engine `e`'s timeout expires before its condition holds (R99). -/
def execWaitTimeout (e : Fin 8) (s : State) : Host.Outcome State Fault Refusal :=
  .next (if s.testing e && s.waitExpired e then s.waitTest e else s)

/-- COMMIT_COMPLETE: the last commit point of engine `e`'s waiting commit has passed (R95). -/
def execCommitComplete (e : Fin 8) (s : State) : Host.Outcome State Fault Refusal :=
  .next (match (s.engine e).wait with
    | .commit left _ => if s.testing e && left.isEmpty then s.waitOk e else s
    | .none | .time _ | .sample _ _ _ | .position _ _ _ | .travel _ _ _ | .event _ => s)

end Sys2Proof.Machine
end

