-- ==== Sys2Proof/Machine/Thermal.lean ====
section
/-!
DEFINITION. The thermal model and throttling (R382 to R394): energies, networks, derating, cycle skipping, the core
throttle.
-/

namespace Sys2Proof.Machine
namespace State

/-! ### Nodes and their tables -/

/-- Node `q` changed by `f`. -/
def modNode (s : State) (q : Nat) (f : ThNode → ThNode) : State :=
  { s with th := { s.th with node := vupd s.th.node (fin 45 q) f } }

/-- Node `q`. -/
def node (s : State) (q : Nat) : ThNode := s.th.node[fin 45 q]

/-- Word `i` of node `q`'s description (R382). -/
def thWord (s : State) (q i : Nat) : Word := s.tableWord (s.fld R.SYS_THCFG F.SYS_THCFG_PBASE + 8 * q + i)

/-- Node `q` is present (R382, R387). -/
def nodePresent (s : State) (q : Nat) : Bool := if q < 42 then s.legPresent q else q != 43 || s.hasB

/-- Entry `i` of a table of 16-bit entries, two to a word, from word offset `ofs`. -/
def packed (s : State) (ofs i : Nat) : Nat :=
  let w := s.tableWord (ofs + i / 2)
  if i % 2 = 0 then w.bits 15 0 else w.bits 31 16

/-- The node's temperature as shown, 1/16 °C. -/
def thTemp (s : State) (q : Nat) : Int := signed 16 ((s.reg (R.SYS_THN q)).bits 15 0)

/-- EN is set. -/
def thOn (s : State) : Bool := s.bit R.SYS_THCFG F.SYS_THCFG_EN

/-- WARN and TRIP of node `q` (R382). -/
def thWarn (s : State) (q : Nat) : Int := signed 16 ((s.thWord q 6).bits 31 16)
def thTrip (s : State) (q : Nat) : Int := signed 16 ((s.thWord q 6).bits 15 0)

/-! ### Losses -/

/-- The resistance of node `q` at its temperature, in 1/256 µΩ, interpolated and clamped (R382, R384). -/
def thRes (s : State) (q : Nat) : Nat :=
  let x := (sat 0 3840 (s.thTemp q + 640)).toNat
  let base := (s.thWord q 7).bits 15 0
  let a := s.packed base (x / 256)
  let b := s.packed base (min 15 (x / 256 + 1))
  a * (256 - x % 256) + b * (x % 256)

/-- The latched current of leg `q`, 1/16 A (R382, R384). -/
def thCurrent (s : State) (q : Nat) : Int :=
  let w := s.thWord q 1
  let v := (s.acq.chan[fin 48 ((s.thWord q 0).bits 13 8)]).latched
  fdiv (((v : Int) - w.bits 11 0) * signed 16 (w.bits 31 16)) 256

/-- The energy of a turn-on of leg `q` in account units, interpolated in current and voltage and clamped (R382, R384);
free where a step is 0. -/
def thSwitch (s : State) (q : Nat) : Int :=
  let i := (s.thCurrent q).natAbs
  let w0 := s.thWord q 0
  let v := (s.acq.chan[fin 48 (w0.bits 21 16)]).latched * (s.thWord q 2).bits 31 16
  let istep := (s.thWord q 2).bits 15 0
  let vstep := 256 * w0.bits 31 24
  let base := (s.thWord q 7).bits 31 16
  if istep = 0 || vstep = 0 then Config.realFn 382 [i, v, base]
  else
    let i := min i (7 * istep)
    let v := min v (3 * vstep)
    let c := i / istep
    let r := v / vstep
    let fi := i % istep
    let fv := v % vstep
    let e (r c : Nat) : Nat := s.packed base (8 * min 3 r + min 7 c)
    let lo := e r c * (istep - fi) + e r (c + 1) * fi
    let hi := e (r + 1) c * (istep - fi) + e (r + 1) (c + 1) * fi
    freeDiv 384 ((lo * (vstep - fv) + hi * fv) * (65536 * 10 ^ 9) : Nat) (istep * vstep : Nat)

/-- The energies of the ending sample, of `ns` ns, join the accounts (R384), from the update on that took EN (R391). -/
def thEnergy (s : State) (ns : Nat) : State :=
  if !s.thOn || !s.th.on then s
  else
    let s := forN 42 (fun q s =>
      if s.legPresent q then
        let i := s.thCurrent q
        let swc := s.reg (R.WFU_LEG_SWC q)
        let e := i * i * (s.thRes q * ns : Nat) + s.thSwitch q * (swc.bits 31 16 + swc.bits 15 0 : Nat)
        s.modNode q fun n => { n with energy := n.energy + e }
      else s) s
    forN 2 (fun x s =>
      if s.nodePresent (42 + x) then
        let sq := ((List.range 6).map fun j => s.thCurrent (6 * x + j) * s.thCurrent (6 * x + j)).sum
        let e := sq * (s.thRes (42 + x) * ns : Nat)
        s.modNode (42 + x) fun n => { n with energy := n.energy + e }
      else s) s

/-! ### Networks -/

/-- The reference temperature of node `q`, with the flag of an invalid channel (R383). -/
def thRef (s : State) (q : Nat) (substrate : BitVec 16) : Int × State :=
  let w := s.thWord q 0
  let ch := w.bits 5 0
  if ch = 63 then (substrate.toInt, s)
  else if s.chanInvalid ch then
    (signed 16 (s.fld R.SYS_THHYS F.SYS_THHYS_TSUB), (s.raise R.SYS_THSTAT F.SYS_THSTAT_REFINV).fire 12)
  else
    let base := if w.bit 6 then s.fld R.SYS_THNTC F.SYS_THNTC_NTB1 else s.fld R.SYS_THNTC F.SYS_THNTC_NTB0
    let code := (s.acq.chan[fin 48 ch]).latched % 4096
    let a := signed 16 (s.packed base (code / 128))
    let b := signed 16 (s.packed base (code / 128 + 1))
    (a + freeDiv 383 ((b - a) * (code % 128 : Nat)) 128, s)

/-- A stage rise moves (R386). -/
def thStage (rho p r a : Int) : Int := sat32 (rho + sat32 (fdiv (sat32 (sat32 (fdiv (p * r) 4096) - rho) * a) 65536))

/-- Node `q` moves by an update with power `p` (R386); the update that takes EN starts its rises from 0 (R391). -/
def thNode (s : State) (q p : Nat) (substrate : BitVec 16) : State :=
  let (tref, s) := s.thRef q substrate
  let w3 := s.thWord q 3
  let w4 := s.thWord q 4
  let w5 := s.thWord q 5
  let s := s.modNode q fun n => if !s.th.on then { n with r1 := 0, r2 := 0, r3 := 0, energy := 0 } else
    { n with r1 := thStage n.r1 p (w3.bits 31 16) (w4.bits 15 0)
             r2 := thStage n.r2 p (w3.bits 15 0) (w5.bits 31 16)
             r3 := thStage n.r3 p (w4.bits 31 16) (w5.bits 15 0), energy := 0 }
  let n := s.node q
  s.setReg (R.SYS_THN q) (Word.field 31 16 p ||| Word.field 15 0 (modBits 16 (sat16 (tref + n.r1 + n.r2 + n.r3))))

/-- A threshold event of node `q`: raised when the temperature passes upward, armed again below the threshold less HYS
(R390). -/
def thEvent (s : State) (q : Nat) (trip : Bool) (flag : Fld) (ev : Nat) : State :=
  let t := s.thTemp q
  let thr := if trip then s.thTrip q else s.thWarn q
  let armed := if trip then (s.node q).trip else (s.node q).warn
  let set (s : State) (b : Bool) : State :=
    s.modNode q fun n => if trip then { n with trip := b } else { n with warn := b }
  if armed && decide (thr ≤ t) then ((set s false).raise R.SYS_THSTAT flag).fire ev
  else if !armed && decide (t < thr - s.fld R.SYS_THHYS F.SYS_THHYS_HYS) then set s true
  else s

/-- The threshold events of node `q` (R390, R394). -/
def thEvents (s : State) (q : Nat) : State :=
  if q < 42 then (s.thEvent q false F.SYS_THSTAT_LEGW 6).thEvent q true F.SYS_THSTAT_LEGT 7
  else if q < 44 then (s.thEvent q false F.SYS_THSTAT_WINDW 8).thEvent q true F.SYS_THSTAT_WINDT 9
  else (s.thEvent q false F.SYS_THSTAT_MODW 10).thEvent q true F.SYS_THSTAT_MODT 11

/-! ### Throttling -/

/-- The derating factor of node `q`, rounded down (R387 and the example of its section). -/
def thFactor (s : State) (q : Nat) : Nat :=
  let t := s.thTemp q
  let den := s.thTrip q - s.thWarn q
  if den ≤ 0 then if t < s.thTrip q then 0xFFFF else 0
  else (sat 0 0xFFFF (fdiv (65536 * (s.thTrip q - t)) den)).toNat

/-- The least factor over present nodes. -/
def thLeast (s : State) (l : List Nat) : Nat :=
  (l.filter s.nodePresent).foldl (fun m q => min m (s.thFactor q)) 0xFFFF

/-- The hottest of present nodes, the first among equals. -/
def thHottest (s : State) (l : List Nat) : Option Nat :=
  (l.filter s.nodePresent).foldl (fun m q =>
    match m with
    | none => some q
    | some k => if s.thTemp k < s.thTemp q then some q else some k) none

/-- The skip divisor of the consumer with these legs (R388). -/
def thDivisor (s : State) (l : List Nat) : Nat :=
  match s.thHottest l with
  | none => 0
  | some q =>
    let t := s.thTemp q
    if t < s.thWarn q then 0
    else if s.thTrip q ≤ t then 1
    else 2 + (fdiv (14 * (s.thTrip q - t)) (s.thTrip q - s.thWarn q)).toNat

/-- The throttle level takes a value; event 13 on a change (R389). -/
def thLevel (s : State) (n : Nat) : State :=
  let was := s.fld R.SYS_THTHR F.SYS_THTHR_LEVEL
  (s.setFld R.SYS_THTHR F.SYS_THTHR_LEVEL n).fireIf (n != was) 13

/-- The skip divisors take values; the counts of reloads start anew where one changes (R388). -/
def thSkips (s : State) (aux ch : Nat) : State :=
  let r := R.SYS_THDER2
  let s := if aux = s.fld r F.SYS_THDER2_NAUX then s else
    { s.setFld r F.SYS_THDER2_NAUX aux with th := { s.th with kAux := Vector.replicate 10 0 } }
  if ch = s.fld r F.SYS_THDER2_NCH then s
  else { s.setFld r F.SYS_THDER2_NCH ch with th := { s.th with kCh := Vector.replicate 10 0 } }

/-- The factors, divisors and the level after an update (R387 to R389). -/
def thDerate (s : State) : State :=
  let motor (x : Nat) : Nat := s.thLeast ((List.range 6).map (6 * x + ·) ++ [42 + x])
  let drives : Vector Nat 5 := Vector.ofFn fun d => s.thLeast (actLegs d.val)
  let drv (d : Nat) : Nat := drives[fin 5 d] / 256
  let lvl := s.fld R.SYS_THTHR F.SYS_THTHR_LEVEL
  let t := s.thTemp 44
  let hys : Int := s.fld R.SYS_THHYS F.SYS_THHYS_HYS
  let level :=
    if s.thTrip 44 ≤ t || (lvl = 2 && s.thTrip 44 - hys ≤ t) then 2
    else if s.thWarn 44 ≤ t || (lvl ≠ 0 && s.thWarn 44 - hys ≤ t) then 1
    else 0
  let aux := s.thDivisor ((List.range 8).map (12 + ·))
  let ch := s.thDivisor ((List.range 7).map (20 + ·))
  let s := s.setReg R.SYS_THDER0 (Word.field 31 16 (if s.hasB then motor 1 else 0xFFFF) ||| Word.field 15 0 (motor 0))
  let s := s.setReg R.SYS_THDER1 (Word.field 31 24 (drv 3) ||| Word.field 23 16 (drv 2) ||| Word.field 15 8 (drv 1)
    ||| Word.field 7 0 (drv 0))
  let s := { s with th := { s.th with drive := drives } }
  let s := (s.setFld R.SYS_THDER2 F.SYS_THDER2_D4 (drv 4)).thSkips aux ch
  let s := s.thLevel level
  match s.thHottest (List.range 42) with
  | some q => s.setReg R.SYS_THHOT (Word.field 31 16 (modBits 16 (s.thTemp q)) ||| Word.field 5 0 q)
  | none => s

/-- One update (R385 to R391, R394). -/
def thUpdate (s : State) (pmod substrate : BitVec 16) : State :=
  if !s.thOn then s
  else
    let s := forN 45 (fun q s =>
      if s.nodePresent q then
        let p := if q = 44 then pmod.toNat else (sat 0 0xFFFF (fdiv (s.node q).energy 409600000000000)).toNat
        s.thNode q p substrate
      else s) s
    let s := forN 45 (fun q s => if s.nodePresent q then s.thEvents q else s) s
    ({ s with th := { s.th with on := true } }.thDerate).fire 14

/-- `SYS_THCFG` takes `w`; with EN = 0 every factor, divisor, level and node reads as if the model never ran (R391), and every
threshold is armed again. -/
def thConfig (s : State) (w : Word) : State :=
  let s := s.setReg R.SYS_THCFG w
  if w.bit 31 then s
  else
    let s := forN 45 (fun q s =>
      (s.setReg (R.SYS_THN q) 0).modNode q fun n => { n with r1 := 0, r2 := 0, r3 := 0, energy := 0, warn := true, trip := true }) s
    let s := ((s.setReg R.SYS_THDER0 0xFFFFFFFF).setReg R.SYS_THDER1 0xFFFFFFFF).setFld R.SYS_THDER2 F.SYS_THDER2_D4 255
    let s := { s with th := { s.th with drive := Vector.replicate 5 0xFFFF, on := false } }
    ((s.thSkips 0 0).thLevel 0).setReg R.SYS_THHOT 0

end State

/-- THERMAL_UPDATE (R385). -/
def execThermalUpdate (pmod substrate : BitVec 16) (s : State) : Host.Outcome State Fault Refusal :=
  .next (if s.mode = .off then s else s.thUpdate pmod substrate)

end Sys2Proof.Machine
end

