-- ==== Sys2Proof/Machine/Mistakes.lean ====
section
/-!
DEFINITION. Host mistakes that take more than one word to see (R49): writes to memory that a unit reads, and settings of
several registers that contradict each other (R169, R228, R255, R285, R310, R334, R381, R395, R421, R449,
R501). The hardware is unpredictable
after one (R50), so the command that shows it faults (log entry 10).
-/

namespace Sys2Proof.Machine

/-- Byte address `a` lies in the `n` words from word `w` of the region at `base`. -/
def inWords (base a w n : Nat) : Bool := decide (base + 4 * w ≤ a) && decide (a < base + 4 * (w + n))

namespace State

/-! ### Writes to memory in use -/

/-- Table memory that a unit reads as it is set: switching tables of an enabled channel (R285), pages of slots with table
feed-forward (R228), blocks of drives that are not STOPPED (R334), source and cost tables (R368), the auxiliary converter's table
(R381), the thermal model's (R395). -/
def tableHeld (s : State) (a : Nat) : Bool :=
  let at' := inWords 0x22000000 a
  ([0, 1].any fun x => s.bit (R.TDU_CFG x) F.TDU_CFG_EN && at' (s.fld (R.TDU_TBASE x) F.TDU_TBASE_TBASE) 252)
    || ((List.range 64).any fun n =>
      s.fld (R.CLE_SL_CFG n) F.CLE_SL_CFG_LAW != 0 && s.bit (R.CLE_SL_CFG n) F.CLE_SL_CFG_TFF
        && at' (256 * s.fld (R.CLE_SL_FFT n) F.CLE_SL_FFT_PAGE) 256)
    || ((List.finRange 5).any fun d => s.actState d != 0 && at' (s.fld (R.ACT_D_CFG d.val) F.ACT_D_CFG_PAR) 22)
    || (s.hasCharger && s.enpPhase != .idle && at' (s.fld R.ENP_SRCTAB F.ENP_SRCTAB_TBASE) 128)
    || (s.bit R.ENP_SBCFG F.ENP_SBCFG_EN && at' (s.fld R.ENP_SBCFG F.ENP_SBCFG_CBASE) 16)
    || (s.aux.run != .stopped && at' (s.fld R.AUX_PHC F.AUX_PHC_TBASE) 9)
    || (s.thOn
      && (at' (s.fld R.SYS_THCFG F.SYS_THCFG_PBASE) 360 || at' (s.fld R.SYS_THNTC F.SYS_THNTC_NTB0) 17
        || at' (s.fld R.SYS_THNTC F.SYS_THNTC_NTB1) 17
        || ((List.range 42).any fun q =>
          s.nodePresent q && (at' ((s.thWord q 7).bits 31 16) 16 || at' ((s.thWord q 7).bits 15 0) 8))
        || [42, 43].any fun q => s.nodePresent q && at' ((s.thWord q 7).bits 15 0) 8))

/-- Session store that the conversation engine owns: words 5 to 15 of every record, words 0 to 4 of one in progress, CLOSED or
SHADOW, and the buffers of a session in progress (R149, R474). -/
def sessionHeld (s : State) (a : Nat) : Bool :=
  s.cnvOn &&
    if 0x23080000 ≤ a then
      let n := (a - 0x23080000) / 64
      decide (20 ≤ (a - 0x23080000) % 64) || s.inProgress n || s.recState n == 6 || s.recShadow n
    else
      (List.range 256).any fun n =>
        s.inProgress n &&
          inWords 0x23000000 a (512 * s.recBits n 4 7 0) (512 * (if s.recBits n 4 15 8 = 0 then 256 else s.recBits n 4 15 8))

/-- Gate memory between HEAD and HEAD + COUNT of an enabled section (R421). -/
def gateHeld (s : State) (a : Nat) : Bool :=
  (List.range 256).any fun i =>
    let base := s.fld (R.GTE_SEC_CRS i) F.GTE_SEC_CRS_BASE
    let len := s.fld (R.GTE_SEC_CRS i) F.GTE_SEC_CRS_LEN
    let g := (a - 0x25000000) / 8
    s.bit (R.GTE_SEC_CFG i) F.GTE_SEC_CFG_EN && decide (base ≤ g) && decide (g < base + len)
      && decide ((g - base + len - s.fld (R.GTE_SEC_PTR i) F.GTE_SEC_PTR_HEAD) % len
        < s.fld (R.GTE_SEC_PTR i) F.GTE_SEC_PTR_COUNT)

/-- A descriptor that its Ethernet port owns (R441, R449). -/
def descriptorHeld (s : State) (a : Nat) : Bool :=
  (List.range 2).any fun p => [R.NET_ETH_RXR p, R.NET_ETH_TXR p].any fun r =>
    let base := 0x20000000 + 8 * (s.reg r).bits 19 3
    s.bit (R.NET_ETH_CFG p) F.NET_ETH_CFG_EN && decide (base ≤ a) && decide (a < base + 8 * (s.reg r).bits 31 20)
      && (s.word (base + 8 * ((a - base) / 8) + 4)).bit 31

/-- The word addresses from which engine `e` may fetch on, of those of `todo` not among `seen`, over at most `fuel` instructions:
each instruction's own words, and on from wherever it may lead (R121). -/
def mayFetch (s : State) (e : Fin 8) : Nat → List Nat → List Nat → List Nat
  | 0, _, seen => seen
  | _, [], seen => seen
  | n + 1, pc :: todo, seen =>
    if seqWords ≤ pc || seen.contains pc then s.mayFetch e n todo seen
    else
      match decodeSched e (s.word (0x21000000 + 4 * pc)) (s.word (0x21000000 + 4 * pc + 4)) with
      | some i => s.mayFetch e n (schedNext i pc ++ todo) (pc :: seen)
      | none => s.mayFetch e n todo (pc :: seen)

/-- Word `w` of schedule memory is one that engine `e`, in use, may fetch: reached from its program counter, its return addresses
and loop starts, or the program it is to swap to, within 4,096 instructions (R108, R121, log entry 171). -/
def schedHeld (s : State) (e : Fin 8) (w : Nat) : Bool :=
  let x := s.engine e
  let swap := if s.bit (R.SEQ_CTL e.val) F.SEQ_CTL_SWAP then [s.nreg (R.SEQ_NEXT e.val)] else []
  s.seqInUse e && (s.mayFetch e 4096 (x.pc :: x.calls ++ x.loops.map (·.2) ++ swap) []).any fun pc =>
    w == pc || (w == pc + 1
      && match decodeSched e (s.word (0x21000000 + 4 * pc)) (s.word (0x21000000 + 4 * pc + 4)) with
        | some i => schedLen i == 2
        | none => false)

/-- A master's write to byte address `a` is a host mistake: a unit executes or reads from it (R49, R121, R149, R228, R285, R334,
R368, R381, R395, R421, R449, R474, R501, R530). -/
def heldByte (s : State) (a : Nat) : Bool :=
  match region? a with
  | some .table => s.tableHeld a
  | some .session => s.sessionHeld a
  | some .mirror => s.hasPairs
  | some .gate => s.gateHeld a
  | some .sram =>
    s.descriptorHeld a
      || match s.saf.loading with
        | some ofs => decide (0x20000000 + ofs ≤ a) && decide (a < 0x20000000 + ofs + 2048)
        | none => false
  | some .sched => (List.finRange 8).any fun e => s.schedHeld e ((a - 0x21000000) / 4)
  | some .flash => false
  | none => false

/-- A master's write of `n` bytes at address `a` is such a mistake. -/
def heldBytes (s : State) (a n : Nat) : Bool := (List.range n).any fun k => s.heldByte (a + k)

/-- A write of the low `n` bytes of `w` at address `a` sets reserved bits of a gate word: bits 7:3 of its second byte (R397, R421). -/
def gateBytesBad (a n : Nat) (w : Word) : Bool :=
  (List.range n).any fun k => region? (a + k) == some .gate && (a + k) % 8 == 5 && w.bits (8 * k + 7) (8 * k + 3) != 0

/-- A master's write of the low `n` bytes of `w` at address `a` is a host mistake (R49). -/
def putBad (s : State) (a n : Nat) (w : Word) : Bool := s.heldBytes a n || gateBytesBad a n w

/-! ### Settings that contradict each other -/

/-- Leg `n` breaks R255: TD outside the sets that its channel drives, or pulse widths and dead times that fill the period. -/
def legSetBad (s : State) (n : Nat) : Bool :=
  let dead := 2 * (s.fld (R.WFU_LEG_DT n) F.WFU_LEG_DT_DTH + s.fld (R.WFU_LEG_DT n) F.WFU_LEG_DT_DTL)
  let period := 2 * s.tbPeriod (s.legTb n) * s.tbTick (s.legTb n)
  let drv := s.fld (R.WFU_LEG_CFG n) F.WFU_LEG_CFG_DRV
  (decide (n < 12) && s.bit (R.WFU_LEG_CFG n) F.WFU_LEG_CFG_TD && !s.tdNamed (fin 2 (n / 6)) (n % 6))
    || decide (period ≤ dead + 2 * s.fld (R.WFU_LEG_PULSE n) F.WFU_LEG_PULSE_REFW)
    || ((drv == 0 || drv == 2) && decide (period ≤ dead + 4 * s.fld (R.WFU_LEG_PULSE n) F.WFU_LEG_PULSE_MINP))

/-- A converter scans analogue channel `n` at a trigger of table-drive channel `x`. -/
def tdScanned (s : State) (x n : Nat) : Bool :=
  (List.range 8).any fun k =>
    s.fld (R.ACQ_C_CFG k) F.ACQ_C_CFG_TRIG == 0x40 + x && (acqMaskChannels k (s.fld (R.ACQ_C_CFG k) F.ACQ_C_CFG_MASK)).contains n

/-- Table-drive channel `x` breaks R169 or R285: no set named, tables beyond table memory, the timebases and phases of a set that it
modulates, TD on a part of a named set; and enabled, RATED and the handover thresholds, and inputs that its trigger does not scan. -/
def tdSetBad (s : State) (x : Fin 2) : Bool :=
  let leg (j : Nat) : Nat := 6 * x.val + j
  let cfg (j : Nat) : Word := s.reg (R.WFU_LEG_CFG (leg j))
  let sets := [[0, 1, 2], [3, 4, 5]].filter fun g => g.all (s.tdNamed x)
  s.tdPresent x &&
    (s.fld (R.TDU_CFG x.val) F.TDU_CFG_SETS == 0 || decide (65536 < s.fld (R.TDU_TBASE x.val) F.TDU_TBASE_TBASE + 252)
      || (s.bit (R.TDU_CFG x.val) F.TDU_CFG_EN
        && (s.fld (R.TDU_RATED x.val) F.TDU_RATED_RATED == 0
          || decide (s.fld (R.TDU_HOV x.val) F.TDU_HOV_HHI ≤ s.fld (R.TDU_HOV x.val) F.TDU_HOV_HLO)
          || ((s.tdOwnInputs x).any fun j => !s.tdScanned x.val (s.tdSelect x j))))
      || (s.bit (R.TDU_CFG x.val) F.TDU_CFG_MODEN
        && sets.any fun g => g.any fun j => (cfg j ^^^ cfg (g.headD 0)) &&& 0xF000FFFF != 0)
      || sets.any fun g => (g.any fun j => (cfg j).bit 23) && !g.all fun j => (cfg j).bit 23)

/-- Slot `n`, evaluated, breaks R228: limits that cross, an axis without a table, a page under capture, a bus gain without its
voltage. -/
def slotSetBad (s : State) (n : Nat) : Bool :=
  let cfg := s.reg (R.CLE_SL_CFG n)
  let axis := s.fld (R.CLE_SL_FFT n) F.CLE_SL_FFT_AXIS
  cfg.bits 1 0 != 0 &&
    (decide (s.sreg (R.CLE_SL_OMAX n) < s.sreg (R.CLE_SL_OMIN n)) || decide (s.sreg (R.CLE_SL_IMAX n) < s.sreg (R.CLE_SL_IMIN n))
      || (cfg.bit 4 && (!(axis == 0 || axis == 1 || axis == 6 || axis == 7)
        || (s.bit R.CLE_CAP F.CLE_CAP_EN && s.fld R.CLE_CAP F.CLE_CAP_PAGE == s.fld (R.CLE_SL_FFT n) F.CLE_SL_FFT_PAGE)))
      || (cfg.bit 5 && s.fld (R.CLE_VB_NOM (cfg.bits 6 6)) F.CLE_VB_NOM_VNOM == 0))

/-- The analogue channels of drive `d`'s currents (R311). -/
def actChannels (s : State) (d : Fin 5) : List Nat :=
  let ich := R.ACT_D_ICH d.val
  if d.val < 3 then [s.fld ich F.ACT_D_ICH_ICH0]
  else [s.fld ich F.ACT_D_ICH_ICH0, s.fld ich F.ACT_D_ICH_ICH1, s.fld ich F.ACT_D_ICH_ICH2]

/-- The converter of a current channel of drive `d` departs from R312: its trigger, or a mask that holds other channels. -/
def actTrigBad (s : State) (d : Fin 5) : Bool :=
  let l := s.actChannels d
  l.any fun n =>
    let w := s.reg (R.ACQ_C_CFG (n / 6))
    decide (48 ≤ n) || w.bits 7 0 != 0x30 + s.actTb d
      || !(acqMaskChannels (n / 6) (w.bits 21 16)).contains n
      || !(acqMaskChannels (n / 6) (w.bits 21 16)).all l.contains

/-- The parameter block of drive `d` has reserved bits or reserved kinds of target (R314). -/
def actBlockBad (s : State) (d : Fin 5) : Bool :=
  (s.actParam d 0).bits 15 12 != 0 || (s.actParam d 2).bits 31 20 != 0 || (s.actParam d 11).bits 15 0 != 0
    || (List.range 8).any fun k => (s.actParam d (14 + k)) &&& 0xF800F000 != 0 || decide (4 < s.targetKind d k)

/-- Drive `d`, not STOPPED, breaks R334: its legs on different timebases, delayed or not complementary; another single-shunt drive
on its timebase; its converters or its parameter block; a position channel whose average is not a mean; a Hall group that another
drive names. -/
def actSetBad (s : State) (n : Nat) : Bool :=
  let d := fin 5 n
  let cfg (j : Nat) : Word := s.reg (R.WFU_LEG_CFG (27 + 3 * d.val + j))
  let pch := s.fld (R.ACT_D_ICH d.val) F.ACT_D_ICH_PCH
  let ang (d : Fin 5) : Nat := s.fld (R.ACT_D_CFG d.val) F.ACT_D_CFG_ANG
  s.actState d != 0 &&
    (([0, 1, 2].any fun j => (cfg j ^^^ cfg 0).bits 31 28 != 0 || (cfg j).bits 15 0 != 0 || (cfg j).bits 27 26 != 0)
      || ((List.finRange 5).any fun e => e != d
        && ((d.val < 3 && e.val < 3 && s.actState e != 0 && s.actTb e == s.actTb d) || (ang d != 0 && ang e == ang d)))
      || s.actTrigBad d || s.actBlockBad d
      || (decide (pch < 48)
        && s.fld (R.ACQ_CH_CFG pch) F.ACQ_CH_CFG_AVGN != s.fld (R.ACQ_CH_CFG pch) F.ACQ_CH_CFG_SHIFT))

/-- The settling time of single-shunt sampling does not fit its window (R334). -/
def shuntSetBad (s : State) : Bool :=
  decide (2 * s.fld R.ACT_SS F.ACT_SS_TW < 2 * s.fld R.ACT_SS F.ACT_SS_TSET + 75)

/-- Two sections, enabled, share a direct output or an output of a node (R421). -/
def sectionsShare (s : State) (i j : Nat) : Bool :=
  let c (i : Nat) : Word := s.reg (R.GTE_SEC_CFG i)
  let n (i : Nat) : Word := s.reg (R.GTE_SEC_NODE i)
  (c i).bit 31 && (c j).bit 31 && (c i).bits 29 28 == (c j).bits 29 28
    && (((c i).bits 29 28 == 1 && (c i).bits 27 24 == (c j).bits 27 24)
      || ((c i).bits 29 28 == 2 && (n i).bits 26 16 == (n j).bits 26 16 && (n i).bits 7 0 == (n j).bits 7 0))

/-- The course of section `i` leaves gate memory, or overlaps that of section `j` (R421). -/
def coursesClash (s : State) (i j : Nat) : Bool :=
  let b (i : Nat) : Nat := s.fld (R.GTE_SEC_CRS i) F.GTE_SEC_CRS_BASE
  let l (i : Nat) : Nat := s.fld (R.GTE_SEC_CRS i) F.GTE_SEC_CRS_LEN
  decide (32768 < b i + l i) || (i != j && l i != 0 && l j != 0 && decide (b i < b j + l j) && decide (b j < b i + l i))

/-- The sections break R421: those with a course by their courses, and those enabled by what they drive. -/
def sectionsBad (s : State) : Bool :=
  let on := (List.range 256).filter fun i => s.bit (R.GTE_SEC_CFG i) F.GTE_SEC_CFG_EN
  let laid := (List.range 256).filter fun i => s.fld (R.GTE_SEC_CRS i) F.GTE_SEC_CRS_LEN != 0
  (laid.any fun i => laid.any fun j => s.coursesClash i j) || on.any fun i => on.any fun j => i != j && s.sectionsShare i j

/-- A unit's slot takes its set-point from another kind than the register's (R368, R381). -/
def slotNotOwn (s : State) (n : Nat) : Bool := s.fld (R.CLE_SL_SRC n) F.CLE_SL_SRC_SPKIND != 0

/-- The auxiliary converter, not STOPPED, breaks R381: its legs off their timebase, type or delay, or a table of thresholds and
order that is none. -/
def auxSetBad (s : State) : Bool :=
  let tb := s.fld R.AUX_CFG F.AUX_CFG_TB
  let base := s.fld R.AUX_PHC F.AUX_PHC_TBASE
  s.aux.run != .stopped &&
    (((List.range 8).any fun j =>
        let c := s.reg (R.WFU_LEG_CFG (12 + j))
        c.bits 31 28 != tb || c.bits 27 26 != 0 || c.bits 15 0 != j * s.tbPeriod tb / 4)
      || s.slotNotOwn (s.fld R.AUX_CFG F.AUX_CFG_SLOTV)
      || (s.reg (R.CLE_SL_DEST (s.fld R.AUX_CFG F.AUX_CFG_SLOTV))).bits 20 2 * 4 != R.AUX_DUTY
      || ((List.range 7).any fun n => decide ((s.tableWord (base + n)).bits 15 0 ≤ (s.tableWord (base + n + 1)).bits 31 16))
      || ((List.range 8).any fun k => !((List.range 8).map s.auxOrd).contains k))

/-- The energy path, not IDLE, breaks R368: other legs on its timebases, or slots whose set-points it cannot give. -/
def enpSetBad (s : State) : Bool :=
  s.hasCharger && s.enpPhase != .idle &&
    (((List.range 42).any fun n => !(decide (20 ≤ n) && decide (n < 27)) && s.bit (R.WFU_LEG_CFG n) F.WFU_LEG_CFG_EN
        && (s.legTb n == (s.enpTb false).val || s.legTb n == (s.enpTb true).val))
      || [(R.ENP_SLOT0, F.ENP_SLOT0_I), (R.ENP_SLOT0, F.ENP_SLOT0_B), (R.ENP_SLOT0, F.ENP_SLOT0_H),
          (R.ENP_SLOT0, F.ENP_SLOT0_K), (R.ENP_SLOT1, F.ENP_SLOT1_X)].any fun p =>
        match s.enpSlot p.1 p.2 with
        | some n => s.slotNotOwn n.val
        | none => false)

/-- Analogue channel `n` is not latched each sample: there is none, or no trigger but software's scans it (R152, R395). -/
def unlatched (s : State) (n : Nat) : Bool :=
  let w := s.reg (R.ACQ_C_CFG (n / 6))
  decide (48 ≤ n) || w.bits 7 0 == 0 || !(w.bits 21 16).testBit (n % 6)

/-- A present node of the running thermal model breaks R395: thresholds that cross, a resistance without its decay, a leg's channels
that are not latched each sample, or a reference that is no channel and not the substrate sensor. -/
def nodeSetBad (s : State) (q : Nat) : Bool :=
  let w (i : Nat) : Word := s.thWord q i
  s.thOn && s.nodePresent q &&
    (decide (s.thTrip q ≤ s.thWarn q) || (decide (48 ≤ (w 0).bits 5 0) && (w 0).bits 5 0 != 63)
      || (decide (q < 42) && (s.unlatched ((w 0).bits 13 8) || s.unlatched ((w 0).bits 21 16))) || ((w 3).bits 31 16 != 0 && (w 4).bits 15 0 == 0)
      || ((w 3).bits 15 0 != 0 && (w 5).bits 31 16 == 0) || ((w 4).bits 31 16 != 0 && (w 5).bits 15 0 == 0))

/-- Channel `c`, enabled, breaks R449: a bit rate outside R423, or a fast data phase without compensation. -/
def canSetBad (s : State) (c : Nat) : Bool :=
  let nbt := s.reg (R.NET_CH_NBT c)
  let dbt := s.reg (R.NET_CH_DBT c)
  let n := (3 + nbt.bits 23 16 + nbt.bits 14 8) * (1 + nbt.bits 4 0)
  let d := (3 + dbt.bits 12 8 + dbt.bits 19 16) * (1 + dbt.bits 4 0)
  s.bit (R.NET_CH_CFG c) F.NET_CH_CFG_EN
    && (decide (n < 40) || decide (320 < n)
      || (s.bit (R.NET_CH_CFG c) F.NET_CH_CFG_FDE && (decide (d < 5) || (!dbt.bit 31 && decide (d < 40)))))

/-- A ring of port `p`, enabled, or a buffer that a descriptor of the port names, leaves SRAM (R449). -/
def ringSetBad (s : State) (p : Nat) : Bool :=
  s.bit (R.NET_ETH_CFG p) F.NET_ETH_CFG_EN && [R.NET_ETH_RXR p, R.NET_ETH_TXR p].any fun r =>
    decide (0x100000 < 8 * ((s.reg r).bits 19 3 + (s.reg r).bits 31 20))
      || (List.range (s.ringLen r)).any fun i =>
        let w := s.word (s.ringAddr r i + 4)
        let a := (s.word (s.ringAddr r i)).toNat
        w.bit 31 && !(decide (0x20000000 ≤ a) && decide (a + w.bits 15 0 ≤ 0x20100000))

/-- This module is set up as one of a pair (R475). -/
def twnSetUp (s : State) : Bool := s.hasPairs && s.saf.role != 0 && s.bit R.TWN_CFG F.TWN_CFG_EN

/-- Input `n` is each module's own (R484). -/
def inputOwn (s : State) (n : Nat) : Bool :=
  (if n < 48 then (s.reg (R.TWN_APOL (n / 10))).bits (3 * (n % 10) + 2) (3 * (n % 10))
   else if n < 59 then (s.reg (R.TWN_XPOL ((n - 48) / 10))).bits (3 * ((n - 48) % 10) + 2) (3 * ((n - 48) % 10))
   else if n < 63 then (s.reg R.TWN_CPOL).bits (3 * (n - 59) + 2) (3 * (n - 59)) else 4) == 0

/-- A source of kind `kind` and index `i` is an OWN input, or a slot of `l` (R206, R484). -/
def sourceOwn (s : State) (l : List Nat) (kind i : Nat) : Bool :=
  match kind with
  | 1 => l.contains i
  | 2 => decide (i < 48) && s.inputOwn i
  | 3 => decide (i < 11) && s.inputOwn (48 + i)
  | 5 | 6 => decide (i < 4) && s.inputOwn (59 + i)
  | _ => false

/-- Slot `n` reads an OWN input, or a slot of `l`: its set-point, its measurement, and its feed-forwards. -/
def slotOwn (s : State) (l : List Nat) (n : Nat) : Bool :=
  let cfg := s.reg (R.CLE_SL_CFG n)
  let f (x : Fld) : Nat := s.fld (R.CLE_SL_SRC n) x
  cfg.bits 1 0 != 0
    && (s.sourceOwn l (f F.CLE_SL_SRC_SPKIND) (f F.CLE_SL_SRC_SPIDX) || s.sourceOwn l (f F.CLE_SL_SRC_MKIND) (f F.CLE_SL_SRC_MIDX)
      || (cfg.bit 4 && s.sourceOwn l 3 (s.fld (R.CLE_SL_FFT n) F.CLE_SL_FFT_AXIS))
      || (cfg.bit 5 && s.sourceOwn l 2 (s.fld (R.CLE_VB_CFG (cfg.bits 6 6)) F.CLE_VB_CFG_CH)))

/-- The slots whose outputs depend on an OWN input, through `n` slots at most. -/
def slotsOwn (s : State) : Nat → List Nat
  | 0 => []
  | n + 1 => let l := s.slotsOwn n; (List.range 64).filter (s.slotOwn l)

/-- A module of a pair breaks R483, or a slot of its signature depends on an OWN input (R501). -/
def windowSetBad (s : State) : Bool :=
  let op := s.fld R.TWN_MWIN F.TWN_MWIN_OPEN
  let close := s.fld R.TWN_MWIN F.TWN_MWIN_CLOSE
  s.twnSetUp
    && (decide (s.sampleNs < 1000 * (close + 5)) || decide (6 * s.sampleNs < 10000 * (close - op))
      || (s.slotsOwn 64).any fun n => (s.reg (R.TWN_SIGMSK (n / 32))).bit (n % 32))

/-- The registers in force contradict each other in a way the chapters call a host mistake. -/
def configBad (s : State) : Bool :=
  ((List.range 42).any fun n => s.legPresent n && s.legSetBad n) || s.tdSetBad 0 || s.tdSetBad 1
    || ((List.range 64).any s.slotSetBad) || ((List.range 5).any s.actSetBad) || s.shuntSetBad || s.sectionsBad || s.auxSetBad || s.enpSetBad
    || ((List.range 45).any s.nodeSetBad) || ((List.range 8).any s.canSetBad) || s.ringSetBad 0 || s.ringSetBad 1
    || s.windowSetBad

end State
end Sys2Proof.Machine
end

