-- ==== Sys2Proof/Machine/Bus.lean ====
section
/-!
DEFINITION. The interconnect: which registers are absent (R3, R4, R38), what gates a write (R105), which written words
are host mistakes by themselves (R49), what a write of a register does (R7, R92), what a read returns and consumes (R9,
R97), and the masters' accesses to registers and memory (R35 to R37).
-/

namespace Sys2Proof.Machine

/-- The index of `o` in an array of `n` registers, or of groups of registers, `step` bytes apart from `base` on. -/
def regAt? (o base step n : Nat) : Option Nat :=
  if base ≤ o && (o - base) / step < n then some ((o - base) / step) else none

/-- The field `f` of a word. -/
def getF (w : Word) (f : Fld) : Nat := w.bits f.hi f.lo

/-- The write masks of register `r`. -/
def regMasks (r : Nat) : Nat × Nat × Nat :=
  match regRow? r with
  | some row => (row.rw, row.w1c, row.wo)
  | none => (0, 0, 0)

/-- Some bit of register `r` is writable. -/
def regWritable (r : Nat) : Bool :=
  let (a, b, c) := regMasks r
  a != 0 || b != 0 || c != 0

/-- Read-only fields of registers that have writable bits too: first register, distance, number, fields. A write leaves
them as they are (R7); any other bit that no write mask names is reserved. -/
def roRows : List (Nat × Nat × Nat × Nat) := [
  (R.MOD_REFAPP, 4, 1, 0x1F1FFFFF), (R.SEQ_EXC 0, 0x100, 8, 0x7FFFFFFF), (R.SEQ_REF 0, 0x100, 8, 0x7FFFFFF0),
  (R.ACQ_CH_ST 0, 0x10, 48, 0x00FF0FFF), (R.POS_AX_ST 0, 0x20, 11, 0x30FF00FF), (R.CLE_CAPST, 4, 1, 0x1FF),
  (R.CLE_SL_ST 0, 0x80, 64, 0x38000F1F), (R.WFU_LEG_ST 0, 0x20, 42, 0x3C00FFFF), (R.GDP_LEG_ST 0, 0x10, 42, 0x1FFFFF0F),
  (R.ACT_CMD_P_AV 0, 8, 4, 0x00FFFFFF), (R.ACT_D_ST 0, 0x40, 5, 0x27FFFFFF), (R.ENP_SBST, 4, 1, 0xFF00),
  (R.GTE_SEC_ST 0, 0x20, 256, 0x0FFFFFFF), (R.CNV_CFG, 4, 1, 0x40000000), (R.EVT_GRP_HOLD 0, 4, 16, 0x80000000),
  (R.HPT_REF, 4, 1, 0x0F1FFFFF), (R.HPT_BOOTCTL, 4, 1, 0x300), (R.HPT_FLCTL, 4, 1, 0x1FF00),
  (R.HPT_ECC, 4, 1, 0x8000FFFF)]

/-- The read-only fields of register `r`. -/
def roMask (r : Nat) : Nat :=
  match roRows.find? fun p => decide (p.1 ≤ r) && (r - p.1) % p.2.1 == 0 && decide ((r - p.1) / p.2.1 < p.2.2.1) with
  | some p => p.2.2.2
  | none => 0

/-- A one is written to a reserved bit (R8). -/
def reservedHit (r : Nat) (w : Word) : Bool :=
  let (a, b, c) := regMasks r
  w &&& ~~~(BitVec.ofNat 32 (a ||| b ||| c ||| roMask r)) != 0

/-- An address in code flash or SRAM, where handlers and start addresses lie (R559). -/
def codeAddr (w : Word) : Bool :=
  match region? w.toNat with
  | some .flash => true
  | some .sram => true
  | _ => false

/-- A source kind with an index outside its range (R206). -/
def sourceBad (kind index : Nat) : Bool :=
  decide (7 < kind) || (kind == 2 && decide (47 < index)) || (kind == 3 && decide (10 < index))
    || ((kind == 5 || kind == 6) && decide (3 < index))

/-- A TRIG code that is not listed (R152). -/
def trigBad (t : Nat) : Bool :=
  !(t ≤ 1 || t == 0x40 || t == 0x41 || ((t / 16 == 1 || t / 16 == 2 || t / 16 == 3) && t % 16 ≤ 9))

/-- The register's shadow takes a write (R92 and each chapter). -/
def shadowed (r : Nat) : Bool :=
  let o := r % 0x10000
  match r / 0x10000 with
  | 3 => (regMasks r).1 != 0 || (regMasks r).2.1 != 0
  | 5 | 7 | 0xA | 0xB | 0xC | 0xF => (regMasks r).1 != 0
  | 4 => (regAt? o 0x100 0x10 10).isSome && o % 0x10 == 0 || (State.legOfReg r).isSome
  | 8 => (decide (0x010 ≤ o) && decide (o ≤ 0x01C)) || ((regAt? o 0x100 0x20 2).isSome && o % 0x20 == 0)
      || ((regAt? o 0x200 0x20 11).isSome && o % 0x20 == 0) || ((regAt? o 0x600 0x10 2).isSome && o % 0x10 == 0)
      || ((regAt? o 0x800 0x10 2).isSome && o % 0x10 == 0)
  | 9 => (regMasks r).1 != 0 && r != R.GTE_APOS && r != R.GTE_ASTATE
  | _ => false

namespace State

/-! ### Absence and gating -/

/-- Register `r` belongs to an absent unit (R3, R4, R38). An offset without a register in an absent unit's block or group counts
as the unit's (log entry 141). DESIGN CHOICE, unsafe. -/
def regAbsent (s : State) (r : Nat) : Bool :=
  let o := r % 0x10000
  match r / 0x10000 with
  | 0 => (regAt? o 0x140 4 45).any fun q => !s.nodePresent q
  | 4 => (regAt? o 0x400 0x20 42).any fun n => !s.legPresent n
  | 5 => !s.hasB && (regAt? o 0x200 0x100 1).isSome
  | 6 => (!s.hasB && o == 0x034) || (regAt? o 0x400 0x10 42).any fun n => !s.legPresent n
  | 8 => !s.hasB && ((regAt? o 0x120 0x20 1).isSome || (regAt? o 0x220 0x20 1).isSome || (regAt? o 0x410 0x10 1).isSome)
  | 0xA => !s.hasB && r == R.ACT_NUDGEB
  | 0xB => !s.hasCharger && decide (o < 0x100)
  | 0xF => !s.hasPairs
  | _ => false

/-- The bits of register `r` that serve an absent unit alone: they read zero and ignore writes (R3, R4). -/
def absentBits (s : State) (r : Nat) : Word :=
  let legs (lo n : Nat) : Word :=
    BitVec.ofNat 32 (((List.range n).filter fun i => !s.legPresent (lo + i)).map (2 ^ ·)).sum
  if r = R.MOD_WAKECFG then (if s.hasCharger then 0 else 2)
  else if r = R.ACT_SYNC then (if s.hasB then 0 else Word.mask 29 24)
  else if r = R.SYS_THDER0 then (if s.hasB then 0 else Word.mask 31 16)
  else if r = R.GDP_XEN then (if s.hasB then 0 else 0x202) ||| (if s.hasCharger then 0 else 0x808)
  else if r = R.WFU_TRIP_M0 0 || r = R.WFU_TRIP_M0 1 || r = R.WFU_TRIP_M0 2 || r = R.WFU_TRIP_M0 3 then legs 0 32
  else 0

/-- For a mode-gated register, whether the mode permits its function (R105). -/
def gate? (s : State) (r : Nat) : Option Bool :=
  let o := r % 0x10000
  match r / 0x10000 with
  | 3 => if r = R.CLE_CAP then some (s.modePermits .stageTest) else none
  | 4 =>
    match legOfReg r with
    | some n => if r = R.WFU_LEG_CMPA n || r = R.WFU_LEG_CMPB n then some (s.legModePermits n) else none
    | none => none
  | 5 =>
    if (regAt? o 0x100 0x100 2).isSome && (o % 0x100 == 0x44 || o % 0x100 == 0x80 || o % 0x100 == 0x84) then
      some (s.modePermits .traction)
    else none
  | 0xA =>
    if r = R.ACT_NUDGEA || r = R.ACT_NUDGEB then some (s.modePermits .traction)
    else
      match regAt? o 0x100 0x40 5 with
      | some d => if r = R.ACT_D_CMD d then some (s.modePermits (actFunc d)) else none
      | none => none
  | 0xB =>
    if r = R.ENP_CMD then
      let may (m : Mode) : Bool := m == .charge || m == .supply
      some (may s.mode && (match s.pendTarget with | some t => may t | none => true))
    else none
  | 0xC =>
    if r = R.AUX_CTL then some (s.modePermits .aux && s.mode != .service)
    else if r = R.AUX_DUTY then some (s.modePermits .aux)
    else none
  | 0x11 => if r = R.HPT_FLCTL then some s.flashPermitted else none
  | _ => none

/-- The judgement of a write of register `r` before it reaches its unit (R14, R105). -/
def gateStatus (s : State) (r : Nat) : Status :=
  if s.regAbsent r then .notPresent
  else
    match s.gate? r with
    | none => .ok
    | some p => if s.lockInForce then .locked else if p then .ok else .wrongMode

/-- A write of `w` to register `r` is refused with `st`: a write to `HPT_FLCTL` with OP ≠ 0 leaves its status there (R536,
R576). -/
def refusedPut (s : State) (r : Nat) (w : Word) (st : Status) : State :=
  s.when (r == R.HPT_FLCTL && w.bits 1 0 != 0) fun s => s.setFld R.HPT_FLCTL F.HPT_FLCTL_STATUS st.code

/-! ### Host mistakes that one written word shows (R49) -/

/-- The word `w` written to register `r` is a host mistake of the chapters' lists: reserved codes and field values out
of their range, and changes of what must stand. Mistakes that lie in more than one register are judged at the sample boundaries
(`State.configBad`, log entry 10). -/
def valueBad (s : State) (r : Nat) (w : Word) : Bool :=
  let o := r % 0x10000
  let was := s.reg r
  match r / 0x10000 with
  | 0 => s.thOn && ((r == R.SYS_THCFG && getF was F.SYS_THCFG_PBASE != getF w F.SYS_THCFG_PBASE) || (r == R.SYS_THNTC && was != w))
  | 1 => decide (0x1000 ≤ o) && o % 8 == 4 && !codeAddr w
  | 2 =>
    match regAt? o 0x100 0x100 8 with
    | some e => (o % 0x100 == 8 || decide (0x40 ≤ o % 0x100)) && s.seqInUse (fin 8 e)
    | none => false
  | 3 =>
    ((regAt? o 0x080 0x10 4).isSome && o % 0x10 == 0 && decide (100 < getF w F.CLE_CMD_CFG_FILT))
      || match regAt? o 0x1000 0x80 64 with
        | some n =>
          if r = R.CLE_SL_SRC n then
            sourceBad (getF w F.CLE_SL_SRC_MKIND) (getF w F.CLE_SL_SRC_MIDX)
              || sourceBad (getF w F.CLE_SL_SRC_SPKIND) (getF w F.CLE_SL_SRC_SPIDX)
          else if r = R.CLE_SL_DEST n then
            let wid := if getF w F.CLE_SL_DEST_WID = 0 then 32 else getF w F.CLE_SL_DEST_WID
            let d := getF w F.CLE_SL_DEST_BLK * 0x10000 + getF w F.CLE_SL_DEST_OFS * 4
            w.bit 31 && (d / 0x10000 == 0x12 || decide (32 < getF w F.CLE_SL_DEST_LSB + wid)
              || ((regRow? d).isSome && !regWritable d))
          else false
        | none => false
  | 4 =>
    ((regAt? o 0x020 0x10 4).isSome && o % 0x10 == 0 && decide (250 < getF w F.WFU_TRIP_CFG_FILT))
      || (r == R.WFU_TBCTL && s.hasCharger && s.enpPhase != .idle
        && ([s.enpTb false, s.enpTb true].any fun t => w.bit t.val != s.tbRunning t.val))
      || match regAt? o 0x400 0x20 42 with
        | some n => r == R.WFU_LEG_CFG n
            && (decide (9 < getF w F.WFU_LEG_CFG_TB) || getF w F.WFU_LEG_CFG_DRV == 3 || getF w F.WFU_LEG_CFG_SAFE == 3
              || (getF was F.WFU_LEG_CFG_EN == 1 && s.legModePermits n && (was ^^^ w) &&& 0xFF00FFFF != 0))
        | none => false
  | 5 =>
    ((regAt? o 0x100 0x100 2).isSome && o % 0x100 == 0 && getF w F.TDU_CFG_SETS == 0)
      || ((r == R.TDU_TBASE 0 || r == R.TDU_TBASE 1) && decide (65536 < getF w F.TDU_TBASE_TBASE + 252))
  | 6 =>
    (r == R.GDP_CLR && decide (41 < w.toNat)) || (r == R.GDP_XCFG && decide (250 < getF w F.GDP_XCFG_FILT))
      || ((r == R.GDP_TRC_ASC 0 || r == R.GDP_TRC_ASC 1)
        && ((w.bit 31 && decide (getF w F.GDP_TRC_ASC_HI ≤ getF w F.GDP_TRC_ASC_LO))
          || (was != w && s.modePermits .traction)))
      || (match regAt? o 0x100 0x10 15 with
        | some i => decide (36 < getF w F.GDP_DRV_CFG_DSTH) || decide (getF w F.GDP_DRV_CFG_BLANK < 5)
            || decide (80 < getF w F.GDP_DRV_CFG_BLANK) || (was != w && s.legModePermits (27 + i))
        | none => false)
      || (match regAt? o 0x200 0x10 9 with
        | some c => was != w && (shuntLegs c).any s.legModePermits
        | none => false)
  | 7 =>
    ((regAt? o 0x100 0x10 8).isSome && o % 0x10 == 0 && trigBad (getF w F.ACQ_C_CFG_TRIG))
      || match regAt? o 0x400 0x10 48 with
        | some n => (r == R.ACQ_CH_CFG n && (decide (8 < getF w F.ACQ_CH_CFG_AVGN) || decide (8 < getF w F.ACQ_CH_CFG_SHIFT)))
            || (r == R.ACQ_CH_WIN n && decide (getF w F.ACQ_CH_WIN_MAX < getF w F.ACQ_CH_WIN_MIN))
        | none => false
  | 8 =>
    (r == R.POS_TRVSRC && [F.POS_TRVSRC_LPRIM, F.POS_TRVSRC_RPRIM, F.POS_TRVSRC_LFALL, F.POS_TRVSRC_RFALL].any fun f =>
        decide (10 < getF w f) && getF w f != 15)
      || ((regAt? o 0x100 0x20 2).isSome && o % 0x20 == 0
        && (getF w F.POS_MOT_CFG_SRC == 3 || (if getF w F.POS_MOT_CFG_PP = 0 then 16 else getF w F.POS_MOT_CFG_PP)
          % (if getF w F.POS_MOT_CFG_RPP = 0 then 4 else getF w F.POS_MOT_CFG_RPP) != 0))
      || ((regAt? o 0x200 0x20 11).isSome && o % 0x20 == 0 && decide (100 < getF w F.POS_AX_CFG_FILT))
      || ((regAt? o 0x700 0x20 4).isSome && o % 0x20 == 0
        && (decide (100 < getF w F.POS_PRB_CFG_FILT) || decide (10 < getF w F.POS_PRB_CFG_AXIS) || getF w F.POS_PRB_CFG_TRV == 3))
      || ((regAt? o 0x600 0x10 2).isSome && o % 0x10 == 0
        && (decide (getF w F.POS_SSI_CFG_CDIV < 20) || decide (getF w F.POS_SSI_CFG_ST < 8)
          || decide (16 < getF w F.POS_SSI_CFG_ST)
          || decide (32 < getF w F.POS_SSI_CFG_MT + getF w F.POS_SSI_CFG_ST + getF w F.POS_SSI_CFG_PAR)))
  | 9 =>
    (r == R.GTE_ACMD && gateWordBad (s.reg R.GTE_ASTATE))
      || match regAt? o 0x1000 0x20 256 with
        | some i => (r == R.GTE_SEC_CFG i && (getF w F.GTE_SEC_CFG_TGT == 3 || decide (20000 < getF w F.GTE_SEC_CFG_DLY)))
            || (r == R.GTE_SEC_NODE i && decide (253 < getF w F.GTE_SEC_NODE_ADDR))
        | none => false
  | 0xA => (regAt? o 0x100 0x40 5).isSome && (o - 0x100) % 0x40 == 8 && getF w F.ACT_D_CMD_OP == 3
  | 0xC => (r == R.AUX_PHC && (decide (getF w F.AUX_PHC_NMIN < 1) || decide (8 < getF w F.AUX_PHC_NMAX)
      || decide (getF w F.AUX_PHC_NMAX < getF w F.AUX_PHC_NMIN)))
      || (s.aux.run != .stopped
        && ((r == R.AUX_CFG && (getF was F.AUX_CFG_TB != getF w F.AUX_CFG_TB || getF was F.AUX_CFG_SLOTV != getF w F.AUX_CFG_SLOTV))
          || (decide (R.AUX_PH 0 ≤ r) && decide (r < R.AUX_PH 8) && getF was F.AUX_PH_CH != getF w F.AUX_PH_CH)))
  | 0xD =>
    (match regAt? o 0x100 0x40 8 with
      | some c => s.bit (R.NET_CH_CFG c) F.NET_CH_CFG_EN
          && (r == R.NET_CH_NBT c || r == R.NET_CH_DBT c || (r == R.NET_CH_CFG c && (was ^^^ w) &&& 0x7FFFFFFF != 0))
      | none => false)
      || ((regAt? o 0x1000 0x40 2).isSome && o % 0x40 == 0 && was.bit 31 && (was ^^^ w) &&& 0x70000000 != 0)
  | 0x11 =>
    ((r == R.HPT_BOOT 0 || r == R.HPT_BOOT 1) && !codeAddr w)
      || (s.flash.isSome && (r == R.HPT_FLADDR || (regAt? o 0x048 4 4).isSome))
  | _ => false

/-- The write of `w` to the present register `r` is a host mistake (R49). -/
def writeBad (s : State) (r : Nat) (w : Word) : Bool :=
  regWritable r && (reservedHit r (w &&& ~~~s.absentBits r) || s.valueBad r w
    || (List.finRange 8).any fun c => r == R.NET_CH_TXQ c.val && s.pushBad c w)

/-! ### What a write does (R7) -/

/-- The stored bits of register `r` take those of `w`, and ones clear its W1C bits. -/
def storeReg (s : State) (r : Nat) (w : Word) : State :=
  let (a, b, _) := regMasks r
  let rw := BitVec.ofNat 32 a &&& ~~~s.absentBits r
  s.setReg r ((s.reg r &&& ~~~rw &&& ~~~(w &&& BitVec.ofNat 32 b)) ||| (w &&& rw))

/-- Register `r` is a voltage command of table drive, which the control engine's writes reach at a reload (R27, R272). -/
def isVcmd (r : Nat) : Bool := r == R.TDU_VCMD1 0 || r == R.TDU_VCMD2 0 || r == R.TDU_VCMD1 1 || r == R.TDU_VCMD2 1

/-- `w` goes to the register or to its shadow (R7, R92). A shadow has one value, the last one written, so a voltage command
drops what the control engine left waiting (R27, R93). -/
def storePlain (s : State) (r : Nat) (w : Word) : State :=
  if shadowed r then
    let s := s.setShadow r (w &&& BitVec.ofNat 32 (regMasks r).1 &&& ~~~s.absentBits r)
    if isVcmd r then { s with cleShadow := kvErase s.cleShadow r } else s
  else s.storeReg r w

/-- The fields `l` of register `r` are zeroed where `c` holds. -/
def zeroIf (s : State) (c : Bool) (r : Nat) (l : List Fld) : State :=
  if c then l.foldl (fun s f => s.setFld r f 0) s else s

/-- A write to a register of SEQ (R112 to R118). -/
def putSeq (s : State) (r : Nat) (w : Word) : State :=
  let o := r % 0x10000
  if !s.up then s
  else if r = R.SEQ_GO then s.seqGo (w.bits 7 0) (w.bits 15 8)
  else
    match regAt? o 0x100 0x100 8 with
    | none => s
    | some k =>
      let e := fin 8 k
      if r = R.SEQ_CTL k then
        (s.swapAsk e (w.bit 2) (w.bit 3)).seqGo (Word.ofBool (w.bit 0) * 2 ^ k) (Word.ofBool (w.bit 1) * 2 ^ k)
      else if r = R.SEQ_EXC k then
        if w.bit 31 then (s.setReg r 0).setFld (R.SEQ_CNT k) F.SEQ_CNT_EXCCNT 0 else s
      else if r = R.SEQ_REF k then
        if w.bit 31 then (s.setReg r 0).setFld (R.SEQ_CNT k) F.SEQ_CNT_REFCNT 0 else s
      else if 0x80 ≤ o % 0x100 then s.evlClear e (o % 0x100 / 4 % 8) w
      else s.storeReg r w

/-- What was written to a W1C register of CLE acts at the boundary, `CLE_STAT.RTCLR` with it (R7, R223 to R225). -/
def cleClears (s : State) (r : Nat) (w : Word) : State :=
  (s.modReg r (· &&& ~~~(w &&& BitVec.ofNat 32 (regMasks r).2.1))).zeroIf (r == R.CLE_STAT && w.bit 4) R.CLE_RUNT [F.CLE_RUNT_MAX]

/-- A write to a register of CLE (R205, R218, R223, R225, R226); what is written to a W1C register gathers in the shadow until the
boundary. -/
def putCle (s : State) (r : Nat) (w : Word) : State :=
  let b := (regMasks r).2.1
  if b ≠ 0 then
    s.setShadow r ((s.shadowOf r).getD 0 ||| (w &&& BitVec.ofNat 32 (b ||| (regMasks r).2.2)))
  else
    let s := s.storePlain r w
    match regAt? (r % 0x10000) 0x1000 0x80 64 with
    | some n =>
      if r = R.CLE_SL_CMD n then
        s.modSlot (fin 64 n) fun x =>
          { x with rst := x.rst || w.bit 0, altA := x.altA || w.bit 1, altB := x.altB || w.bit 2 }
      else s
    | none => s

/-- A write to a register of WFU (R230, R231, R243, R245, R251 to R254). -/
def putWfu (s : State) (r : Nat) (w : Word) : State :=
  let was := s.tripLive
  let s := s.storePlain r w
  if r = R.WFU_TBCTL then
    let ones : BitVec 10 := w.setWidth 10
    s.whenUp fun s => (tbStart s ones).tbStop (~~~ones)
  else if r = R.WFU_TRIPCLR then s.whenUp fun s => (s.tripClear (w.setWidth 4)).legsChanged
  else if (regAt? (r % 0x10000) 0x020 0x10 4).isSome then s.whenUp fun s => (s.tripJudge was).legsChanged
  else if shadowed r then s.wfuStopped
  else
    match regAt? (r % 0x10000) 0x400 0x20 42 with
    | some n => s.zeroIf (r == R.WFU_LEG_ST n && w.bit 30) r [F.WFU_LEG_ST_SUPCNT, F.WFU_LEG_ST_REFCNT]
    | none => s

/-- A write to a register of TDU (R282). -/
def putTdu (s : State) (r : Nat) (w : Word) : State :=
  let s := s.storePlain r w
  match regAt? (r % 0x10000) 0x100 0x100 2 with
  | some x =>
    s.zeroIf (r == R.TDU_ST x && w.bit 26) (R.TDU_CNT x) [F.TDU_CNT_STALECNT, F.TDU_CNT_XMISSCNT, F.TDU_CNT_TABCHG]
  | none => s

/-- A write to a register of GDP, other than `GDP_CLR` (R293, R301, R307). FAULT is cleared only with no cool-off, no watch
and no lasting fault. -/
def putGdp (s : State) (r : Nat) (w : Word) : State :=
  match regAt? (r % 0x10000) 0x400 0x10 42 with
  | some _ =>
    let busy := s.bit r F.GDP_LEG_ST_COOL || s.bit r F.GDP_LEG_ST_WATCH || s.bit r F.GDP_LEG_ST_LASTING
    let s := s.storeReg r (if busy then w &&& 0x7FFFFFFF else w)
    s.zeroIf (w.bit 30) r [F.GDP_LEG_ST_TRANS]
  | none =>
    let s := s.storeReg r w
    match regAt? (r % 0x10000) 0x200 0x10 9 with
    | some c => s.whenProtects fun s => (s.shuntJudge c).legsChanged
    | none => s

/-- A write to a register of ACQ (R12, R152, R157, R165, R167). -/
def putAcq (s : State) (r : Nat) (w : Word) : State :=
  let o := r % 0x10000
  if r = R.ACQ_STAT then (s.storeReg r w).when (w.bit 0) State.acqClearOverruns
  else if r = R.ACQ_QCTL then s.when (w.bit 0) State.acqFlush
  else if (regAt? o 0x100 0x10 8).isSome && o % 0x10 = 4 then
    if w.bit 0 then s.softTrigger (fin 8 ((o - 0x100) / 0x10)) else s
  else
    match regAt? o 0x400 0x10 48 with
    | some n =>
      if r = R.ACQ_CH_ST n then
        let s := if w.bit 31 && s.chanInvalid n then s.acqReturn (fin 48 n) else s
        s.zeroIf (w.bit 30) r [F.ACQ_CH_ST_TRANS]
      else s.storePlain r w
    | none => s.storePlain r w

/-- A write to a register of POS (R179, R190, R197, R198). -/
def putPos (s : State) (r : Nat) (w : Word) : State :=
  let o := r % 0x10000
  if r = R.POS_TRVADJ then { s with pos := { s.pos with adjust := some w } }
  else
    match regAt? o 0x200 0x20 11 with
    | some a =>
      if r = R.POS_AX_ST a then
        let s := if w.bit 31 && s.axisInvalid a then s.axisReturn (fin 11 a) else s
        s.zeroIf (w.bit 30) r [F.POS_AX_ST_TRANS]
      else s.storePlain r w
    | none => s.storePlain r w

/-- A write to a register of GTE, other than `GTE_ACMD` (R12, R399, R414, R418). -/
def putGte (s : State) (r : Nat) (w : Word) : State :=
  if r = R.GTE_CTL then
    if w.bit 31 then s.whenUp fun s => s.modSec (w.bits 7 0) fun x => { x with flush := true } else s
  else if r = R.GTE_QCTL then s.when (w.bit 0) fun s => s.modGte fun g => { g with queue := .empty }
  else if r = R.GTE_STAT then (s.storeReg r w).when (w.bit 7) fun s => s.setReg R.GTE_CNT 0
  else
    match regAt? (r % 0x10000) 0x1000 0x20 256 with
    | some i => if r = R.GTE_SEC_PTR i && s.secOn i then s else s.storePlain r w
    | none => s.storePlain r w

/-- A write to a register of ACT (R319, R332). -/
def putAct (s : State) (r : Nat) (w : Word) : State :=
  let s := s.storePlain r (if (regAt? (r % 0x10000) 0x100 0x40 5).isSome && (r % 0x10000 - 0x100) % 0x40 = 0x18 then
    w &&& 0xBFFFFFFF else w)
  match regAt? (r % 0x10000) 0x100 0x40 5 with
  | some d =>
    if r = R.ACT_D_ST d then
      let s := if w.bit 30 then s.actLastingClear (fin 5 d) else s
      s.zeroIf (w.bit 28) r [F.ACT_D_ST_TRANS, F.ACT_D_ST_HOLDCNT]
    else s
  | none => s

/-- A write to a register of ENP (R337, R345, R363). -/
def putEnp (s : State) (r : Nat) (w : Word) : State :=
  if r = R.ENP_CMD then
    match w.bits 1 0 with
    | 1 => s.enpStart
    | 2 => s.enpStop
    | 3 => s.enpRestart
    | _ => s
  else if r = R.ENP_BMSIN then s.whenEnp fun s => s.bmsMessage (w.setWidth 7)
  else
    match regAt? (r % 0x10000) 0x120 8 4 with
    | some f =>
      if r = R.ENP_SBFW_REQ f then
        if w.bit 31 then s.budgetWithdraw (8 + f) else s.whenUp fun s => s.budgetFirmware (fin 4 f) (w.bits 3 0)
      else s
    | none => s.storePlain r w

/-- A write to a register of AUX (R373, R378). -/
def putAux (s : State) (r : Nat) (w : Word) : State :=
  if r = R.AUX_CTL then
    match w.bits 1 0 with
    | 1 => s.auxStart
    | 2 => s.auxStop .ok
    | _ => s
  else
    let s := s.storePlain r w
    if shadowed r then auxStoppedCommit s else s

/-- A write to a register of NET (R12, R425, R430 to R436, R440, R441). A frame on the bus of a channel that is turned off is pending
again, as after an error (R422, log entry 172). -/
def putNet (s : State) (r : Nat) (w : Word) : State :=
  let o := r % 0x10000
  if r = R.NET_TM then s.timeWrite w
  else if r = R.NET_RXQCTL then s.when (w.bit 0) fun s => s.modNet fun n => { n with rxq := .empty }
  else
    match regAt? o 0x100 0x40 8, regAt? o 0x1000 0x40 2 with
    | some k, _ =>
      let c := fin 8 k
      if r = R.NET_CH_TXQ k then s.txqPush c w
      else if r = R.NET_CH_TXCTL k then
        let s := if w.bit 4 then s.txqFlush c else s
        let s := if w.bit 8 && s.busOff c then s.modCan c fun h => { h with recovering := true } else s
        (forFin 3 (fun b s => if w.bit b.val then s.txCancel c b else s) s).netLoad c
      else if r = R.NET_CH_CFG k then
        let s := s.storeReg r w
        (if s.bit r F.NET_CH_CFG_EN then s else forFin 3 (fun b s => s.bufBack c b) s).netLoad c
      else s.storeReg r w
    | none, some k =>
      let p := fin 2 k
      if r = R.NET_ETH_CTL k then
        if w.bit 0 then s.modEth p fun x => { x with sending := s.ethOn p && s.ethOwned p } else s
      else if r = R.NET_ETH_CFG k then
        let s := s.storeReg r w
        if s.bit r F.NET_ETH_CFG_EN then s else s.modEth p fun x => { x with try100 := false }
      else s.storeReg r w
    | none, none => s.storeReg r w

/-- A write to a register of CNV (R12, R455, R466, R470, R472). -/
def putCnv (s : State) (r : Nat) (w : Word) : State :=
  if r = R.CNV_CFG then
    let was := s.bit r F.CNV_CFG_EN
    let t := s.setReg r ((s.reg r).setBits 7 0 (w.bits 7 0))
    if w.bit 31 && !was then t.cnvEnable else if !w.bit 31 && was then t.cnvDisable else t
  else if r = R.CNV_SA0 || r = R.CNV_SA1 then
    let lo := if r = R.CNV_SA0 then 0 else 4
    forN 4 (fun k s => s.addressChange (fin 8 (lo + k)) (w.bits (8 * k + 7) (8 * k))) s
  else if r = R.CNV_CMD then
    let n := w.bits 7 0
    match w.bits 31 30 with
    | 1 => s.cnvStart n
    | 2 => s.cnvAbort n
    | 3 => s.cnvRelease n
    | _ => s
  else if r = R.CNV_CPLCTL then s.when (w.bit 0) fun s => { s with cnv := { s.cnv with queue := .empty } }
  else s.storeReg r w

/-- The counts that `TWN_CTL.CCLR` clears (R500). -/
def twnCountsClear (s : State) : State :=
  ((s.setReg R.TWN_CNT 0).setFld R.TWN_LANE F.TWN_LANE_TRANS 0).setFld R.TWN_SIGST F.TWN_SIGST_TRANS 0

/-- A write to a register of TWN (R480, R500). -/
def putTwn (s : State) (r : Nat) (w : Word) : State :=
  if r = R.TWN_LANECLR then s.whenUp fun s => s.laneClear (w.setWidth 4)
  else if r = R.TWN_CTL then (s.zeroIf (w.bit 1) R.TWN_ALIGN [F.TWN_ALIGN_MAX]).when (w.bit 0) State.twnCountsClear
  else s.storePlain r w

/-- A write to a register of HPT, other than `HPT_FLCTL` (R535, R549, R550). -/
def putHpt (s : State) (r : Nat) (w : Word) : State :=
  if r = R.HPT_REF then (if w.bit 31 then (s.setReg r 0).setReg R.HPT_REFCNT 0 else s)
  else if r = R.HPT_DOORBELL then s.doorbell (w.setWidth 2)
  else if r = R.HPT_IRQSET then s.irqSet (w.setWidth 16)
  else if r = R.HPT_BOOTCTL then s.coreRelease (w.setWidth 2)
  else s.storeReg r w

/-- A write of `w` to register `r` that its gate lets pass: the status its unit gives, and the state (R7, R37, R92, R399,
R576). Writes to SAF and MOD are the masters' own. -/
def regPut (s : State) (r : Nat) (w : Word) : Status × State :=
  if (regRow? r).isNone then (.ok, s)
  else if r = R.GDP_CLR then
    let st := s.legClearStatus (w.bits 5 0)
    (st, (s.legClear (w.bits 5 0)).legsChanged)
  else if r = R.HPT_FLCTL then
    if w.bits 1 0 = 0 then (.ok, s) else s.flashCommand (w.extractLsb' 24 8) (w.bits 1 0)
  else if r = R.GTE_ACMD then s.gateCmd (w.bits 7 0) (w.bit 8)
  else
    (.ok,
      match r / 0x10000 with
      | 0 =>
        if r = R.SYS_SMPL then s.smplWrite w
        else if r = R.SYS_THCFG then s.thConfig w
        else if r = R.SYS_DBG then (s.storeReg r w).freezeUpdate
        else s.storeReg r w
      | 1 =>
        match regAt? (r % 0x10000) 0x020 4 8 with
        | some k => s.pendClear k w
        | none => s.storeReg r w
      | 2 => s.putSeq r w
      | 3 => s.putCle r w
      | 4 => s.putWfu r w
      | 5 => s.putTdu r w
      | 6 => s.putGdp r w
      | 7 => s.putAcq r w
      | 8 => s.putPos r w
      | 9 => s.putGte r w
      | 0xA => s.putAct r w
      | 0xB => s.putEnp r w
      | 0xC => s.putAux r w
      | 0xD => s.putNet r w
      | 0xE => s.putCnv r w
      | 0xF => s.putTwn r w
      | 0x10 => s
      | 0x11 => s.putHpt r w
      | _ => s.storeReg r w)

/-- A master's write to a register of SAF (R521, R528, R530). -/
def putSaf (s : State) (m : Master) (r : Nat) (w : Word) : Option State :=
  if r = R.SAF_CARG then some (((s.setReg r w).modSaf fun x => { x with cargBy := some m }).setStatus m .ok)
  else if r = R.SAF_CMD then
    match w.bits 1 0 with
    | 1 => if s.safOn && (s.safLoadBad || s.cargClash m) then none else some (s.whenSaf fun s => s.safLoad m)
    | 2 => if s.safOn && s.cargClash m then none else some (s.whenSaf fun s => s.safConfirm m)
    | 3 => some (s.whenSaf fun s => s.safDiscard m)
    | _ => some (s.setStatus m .ok)
  else some (s.setStatus m .ok)

/-- Master `m` writes register `r`; none where the write is a host mistake (R4, R7, R14, R62). -/
def masterPut (s : State) (m : Master) (r : Nat) (w : Word) : Option State :=
  if s.regAbsent r then some (s.setStatus m .notPresent)
  else if s.writeBad r w then none
  else if r / 0x10000 = 0x10 then s.putSaf m r w
  else if r = R.MOD_REQ then some (s.modeRequest m (w.bits 3 0))
  else if r = R.MOD_REFAPP then
    some ((if w.bit 31 then (s.setReg r 0).setReg R.MOD_REFCNT 0 else s).setStatus m .ok)
  else
    match s.gateStatus r with
    | .ok =>
      let (st, s) := s.regPut r w
      some (s.complete m r st)
    | st => some ((s.refusedPut r w st).complete m r st)

/-! ### Reads -/

/-- A read of a result port: its word, and the state with the result consumed (R9); a counter whose value is free is read so
as well. -/
def portRead (s : State) (r : Nat) : Option (Word × State) :=
  let o := r % 0x10000
  match r / 0x10000 with
  | 3 =>
    match regAt? o 0x1000 0x80 64 with
    | some n => if r = R.CLE_SL_RES n then some (s.slotResRead (fin 64 n)) else none
    | none => none
  | 4 => (regAt? o 0x100 0x10 10).bind fun t => if r = R.WFU_TB_CNT t then some (s.tbCountRead t) else none
  | 7 =>
    if r = R.ACQ_QPOP then some s.acqPop
    else
      match regAt? o 0x400 0x10 48 with
      | some n => if r = R.ACQ_CH_RES n then some (s.acqResRead (fin 48 n)) else none
      | none => none
  | 8 =>
    match regAt? o 0x700 0x20 4 with
    | some p => if r = R.POS_PRB_TAG p then some (s.probeRead (fin 4 p)) else none
    | none => none
  | 9 => if r = R.GTE_QPOP then some s.gtePop else none
  | 0xB =>
    match regAt? o 0x120 8 4 with
    | some f => if r = R.ENP_SBFW_RES f then some (s.budgetResRead (fin 4 f)) else none
    | none => none
  | 0xD =>
    if r = R.NET_RXQ then some s.rxPop
    else
      match regAt? o 0x1000 0x40 2 with
      | some p => if r = R.NET_ETH_TSTAG p then some (s.ethTagRead (fin 2 p)) else none
      | none => none
  | 0xE => if r = R.CNV_CPL then some s.cplPop else none
  | 0xF => if r = R.TWN_ST && s.aliveFree && !s.twnOn then some s.aliveFreeRead else none
  | _ => none

/-- `TWN_ST` reads `PL_ALIVE` as low while this module itself pulls it low (R477, R499). -/
def twnView (s : State) (r : Nat) : Option Word :=
  if r = R.TWN_ST && !s.aliveFree then
    some ((s.reg r).setBits F.TWN_ST_ALIVE.hi F.TWN_ST_ALIVE.lo 0)
  else none

/-- What a status register reads as where it is formed from other state. -/
def regView (s : State) (r : Nat) : Option Word :=
  match r / 0x10000 with
  | 1 => s.evtView r
  | 2 => s.seqView r
  | 3 => s.cleView r
  | 4 => s.wfuView r
  | 5 => s.tduView r
  | 6 => s.gdpView r
  | 7 => s.acqView r
  | 8 => s.posView r
  | 9 => s.gteView r
  | 0xB =>
    match s.enpView r with
    | some w => some w
    | none => s.budgetView r
  | 0xC => s.auxView r
  | 0xD => s.netView r
  | 0xE => s.cnvView r
  | 0xF => s.twnView r
  | 0x10 => if r = R.SAF_CARG then some 0 else s.safView r
  | 0x12 => s.modView r
  | _ => none

/-- A read of register `r` (R4, R7, R9, R37, R97). -/
def regRead (s : State) (r : Nat) : Word × State :=
  if s.regAbsent r || (regRow? r).isNone then (0, s)
  else
    match s.portRead r with
    | some p => p
    | none => ((s.regView r).getD (s.reg r) &&& ~~~s.absentBits r, s)

end State

/-! ### The address map (R35 to R38) -/

/-- The register number of a bus address in a block. -/
def busReg? (a : Nat) : Option Nat :=
  if 0x40000000 ≤ a && a < 0x40130000 then some (a - 0x40000000) else none

namespace State

/-- An access error of master `m` at address `a` (R37, R547). -/
def accessError (s : State) (m : Master) (a : Nat) : State :=
  match m with
  | .host => ((s.raise R.HPT_STAT F.HPT_STAT_ACCERR).setReg R.HPT_ERRADDR (BitVec.ofNat 32 a)).fire 255
  | .core0 => ({ s with bus := { s.bus with core0Fault := true } }).coreException 0
  | .core1 => ({ s with bus := { s.bus with core1Fault := true } }).coreException 1

/-- The last access of core `m` made no access fault, and its instruction retires (R532). -/
def accessOk (s : State) (m : Master) : State :=
  match m with
  | .host => s
  | .core0 => { s with bus := { s.bus with core0Fault := false } }.retire 0
  | .core1 => { s with bus := { s.bus with core1Fault := false } }.retire 1

/-- An access fault on core `m` with this cause of the RISC-V specification: 1 for an instruction, 5 for a load, 7 for a store or
an AMO (R533, R534; log entry 128). -/
def accessFault (s : State) (m : Master) (cause : Word) : State :=
  match coreOf m with
  | none => s
  | some c =>
    let s := { s with bus := if c = 0 then { s.bus with core0Fault := true } else { s.bus with core1Fault := true } }
    (s.coreException c).modCore c fun x => { x with mcause := cause }

/-- A word of SRAM or code flash is read at `a`: a single error is corrected and counted, a double one is recorded (R534). -/
def eccSeen (s : State) (g : Region) (a : Nat) (e : Ecc) : State :=
  let r := R.HPT_ECC
  match e with
  | .good => s
  | .single => s.when (g == .sram || g == .flash) fun s => s.countUp r F.HPT_ECC_CORR
  | .double =>
    s.when (g == .sram || g == .flash) fun s =>
      (((s.raise r F.HPT_ECC_DBL).setFld r F.HPT_ECC_SRC (Word.ofBool (g == .flash))).setReg R.HPT_ECCADDR
        (BitVec.ofNat 32 a)).raise R.HPT_STAT F.HPT_STAT_ECC2

/-- A word read from region `g` is lost to a double error (R534). -/
def eccLost (g : Region) (e : Ecc) : Bool := e == .double && (g == .sram || g == .flash)

/-- Address `a` lies in a memory region. -/
def inRegion (a : Nat) : Bool := (region? a).isSome

/-- `n` bytes at address `a` take the low bytes of `w`; reservations on them are lost (R533). -/
def memPut (s : State) (a n : Nat) (w : Word) : State :=
  (s.setBytes a ((leBytes 4 w.toNat).take n)).loseReservation a n

/-- The `n` bytes at address `a`, as a word. -/
def memGet (s : State) (a n : Nat) : Word := BitVec.ofNat 32 (ofLe (s.bytes a n))

/-- The data of a core's read, or of a host port item; after a clock fault `HP_IO0` to `HP_IO3` stay high-impedance and carry no
answer (R34). -/
def giveData (s : State) (m : Master) (w : Word) : State :=
  match m with
  | .host => if s.clk.fault then s else { s with bus := { s.bus with hostResponse := 0, hostData := [w] } }
  | .core0 => { s with bus := { s.bus with core0Data := w } }
  | .core1 => { s with bus := { s.bus with core1Data := w } }

/-- Master `m` writes the word `w` at the aligned address `a`; none where it is a host mistake, a write of memory in use among
them (R35 to R37, R49). -/
def busWrite (s : State) (m : Master) (a : Nat) (w : Word) : Option State :=
  match busReg? a with
  | some r => (s.masterPut m r w).map (·.accessOk m)
  | none =>
    match region? a with
    | none => some (s.accessError m a)
    | some .flash => some (s.accessError m a)
    | some _ => if s.putBad a 4 w then none else some ((s.memPut a 4 w).accessOk m)

/-- A read of code flash meets a running flash operation. -/
def flashHeld (s : State) (a : Nat) : Bool := s.flash.isSome && region? a == some .flash

/-- What an AMO stores: `old` in memory and `v` of the instruction (the RISC-V specification; log entry 128). -/
def amoResult (op : AmoOp) (old v : Word) : Word :=
  match op with
  | .swap => v
  | .add => old + v
  | .bitXor => old ^^^ v
  | .bitAnd => old &&& v
  | .bitOr => old ||| v
  | .minSigned => if old.toInt ≤ v.toInt then old else v
  | .maxSigned => if old.toInt ≤ v.toInt then v else old
  | .minUnsigned => if old.toNat ≤ v.toNat then old else v
  | .maxUnsigned => if old.toNat ≤ v.toNat then v else old

/-- A load-reserve, a store-conditional or an AMO, which act on SRAM only (R533). -/
def readAtomic (k : CoreRead) : Bool :=
  match k with
  | .reserve _ | .conditional _ _ | .amo _ _ _ => true
  | .load _ | .fetch _ | .fence => false

/-- The word that a store-conditional or an AMO of core `c` at `a` stores (R533). -/
def atomicStore (s : State) (c : Fin 2) (a : Nat) (k : CoreRead) : Option Word :=
  match k with
  | .conditional _ v => if (s.core c).reservation = some a then some v else none
  | .amo _ op v => some (amoResult op (s.memGet a 4) v)
  | .load _ | .fetch _ | .fence | .reserve _ => none

/-- Register `rd` of core `c`. -/
def xReg (s : State) (c : Fin 2) (rd : Fin 32) : Word := (kvGet (s.own c).x rd.val).getD 0

/-- Register `rd` of core `c` takes `w`; `x0` stays zero. -/
def setX (s : State) (c : Fin 2) (rd : Fin 32) (w : Word) : State :=
  if rd = 0 then s else s.modOwn c fun o => { o with x := kvSet o.x rd.val w 0 }

/-- Core `c` has read `w` at `a` and uses it (R531, R533). A fetched word of code flash stays in the cache of 16 KiB. -/
def coreUse (s : State) (c : Fin 2) (a : Nat) (k : CoreRead) (w : Word) : State :=
  match k with
  | .load rd => s.setX c rd w
  | .fetch _ =>
    s.when (region? a == some .flash) fun s => s.modOwn c fun o => { o with cache := ((a, w) :: kvErase o.cache a).take 4096 }
  | .fence => s
  | .reserve rd => (s.setX c rd w).modCore c fun x => { x with reservation := some a }
  | .conditional rd _ =>
    match s.atomicStore c a k with
    | some v => ((s.memPut a 4 v).setX c rd 0).modCore c fun x => { x with reservation := none }
    | none => (s.setX c rd 1).modCore c fun x => { x with reservation := none }
  | .amo rd _ _ =>
    match s.atomicStore c a k with
    | some v => (s.memPut a 4 v).setX c rd w
    | none => s

/-- Master `m` has read `w` at `a`: the data is given, and an instruction that is no fetch retires. -/
def readDone (s : State) (m : Master) (a : Nat) (k : CoreRead) (w : Word) : State :=
  let s := s.giveData m w
  match coreOf m with
  | none => s
  | some c =>
    match k with
    | .fetch _ => s.coreUse c a k w
    | .load _ | .fence | .reserve _ | .conditional _ _ | .amo _ _ _ => (s.coreUse c a k w).accessOk m

/-- The word at `a` in the instruction cache of core `m`, where the fetch finds it there. -/
def cached (s : State) (m : Master) (a : Nat) (k : CoreRead) : Option Word :=
  match coreOf m, k with
  | some c, .fetch true => kvGet (s.own c).cache a
  | _, _ => none

/-- Master `m` reads the word at the aligned address `a` of region `g`. During a flash operation a core's read of code flash waits for
its end, unless the cache holds it, and the host port answers BUSY (R537, log entry 81). A double error is an access fault or an
error response (R534, R547). -/
def regionRead (s : State) (m : Master) (g : Region) (a : Nat) (k : CoreRead) (e : Ecc) : State :=
  match s.cached m a k with
  | some w => s.readDone m a k w
  | none =>
    if s.flashHeld a then
      match coreOf m with
      | none => if s.clk.fault then s else { s with bus := { s.bus with hostResponse := 2, hostData := [0] } }
      | some c => s.modOwn c fun o => { o with wait := some ⟨a, k, e⟩ }
    else
      let s := s.eccSeen g a e
      if eccLost g e then
        match m, k with
        | .host, _ =>
          let s := s.accessError m a
          if s.clk.fault then s else { s with bus := { s.bus with hostResponse := 1, hostData := [0] } }
        | _, .fetch _ => s.accessFault m 1
        | _, _ => s.accessFault m 5
      else s.readDone m a k (s.memGet a 4)

/-- Master `m` reads the word at the aligned address `a` (R35 to R37, R531, R533). -/
def busRead (s : State) (m : Master) (a : Nat) (k : CoreRead) (e : Ecc) : State :=
  if m != .host && k == .fence then
    match coreOf m with
    | none => s
    | some c => (s.modOwn c fun o => { o with cache := [] }).accessOk m
  else if m != .host && readAtomic k && region? a != some .sram then s.accessFault m 7
  else
    match busReg? a with
    | some r =>
      let (w, s) := s.regRead r
      s.readDone m a k w
    | none =>
      match region? a with
      | none => s.accessError m a
      | some g => s.regionRead m g a k e

/-- A store-conditional or an AMO that would write memory in use: a host mistake (R49). -/
def atomicBad (s : State) (m : Master) (a : Nat) (k : CoreRead) : Bool :=
  match coreOf m with
  | none => false
  | some c => region? a == some .sram && (match s.atomicStore c a k with | some v => s.putBad a 4 v | none => false)

/-- The cores' reads that a flash operation held are made once it has ended (R537). -/
def readsGoOn (s : State) : State :=
  if s.flash.isSome then s
  else
    forFin 2 (fun c (s : State) =>
      match (s.own c).wait with
      | none => s
      | some h =>
        (s.modOwn c fun o => { o with wait := none }).busRead (if c = 0 then .core0 else .core1) h.addr h.kind h.ecc) s

/-- Queue `q` is flushed (R12). -/
def queueFlush (s : State) (q : QueueId) : State :=
  match q with
  | .acq => s.acqFlush
  | .gte => s.modGte fun g => { g with queue := .empty }
  | .rx => s.modNet fun n => { n with rxq := .empty }
  | .cpl => { s with cnv := { s.cnv with queue := .empty } }
  | .tx c => s.txqFlush c

end State

/-- REGISTER_WRITE: an aligned word written by a master (R7, R35 to R37); nothing runs in OFF (R553). A misaligned
address is a host mistake (R49). -/
def execRegisterWrite (m : Master) (addr value : Word) (s : State) : Host.Outcome State Fault Refusal :=
  if s.mode = .off then .next s
  else if addr.toNat % 4 ≠ 0 then .fault .hostMistake
  else
    match s.busWrite m addr.toNat value with
    | some t => .next t
    | none => .fault .hostMistake

/-- RESULT_PORT_READ: an aligned word read by a master; a result port's result is consumed (R9, R10). A misaligned
address is a host mistake (R49). -/
def execResultPortRead (m : Master) (addr : Word) (kind : CoreRead) (ecc : Ecc) (s : State) :
    Host.Outcome State Fault Refusal :=
  if s.mode = .off then .next s
  else if addr.toNat % 4 ≠ 0 || s.atomicBad m addr.toNat kind then .fault .hostMistake
  else .next (s.busRead m addr.toNat kind ecc)

/-- FLASH_OPERATION_COMPLETE (R536, R537). -/
def execFlashOperationComplete (verified : Bool) (s : State) : Host.Outcome State Fault Refusal :=
  .next (s.whenOn fun s => if s.flash.isNone then s else (s.flashDone verified).readsGoOn)

/-- QUEUE_FLUSH: a queue's flush bit is written (R12). -/
def execQueueFlush (q : QueueId) (s : State) : Host.Outcome State Fault Refusal :=
  .next (s.queueFlush q)

end Sys2Proof.Machine
end

