-- ==== Sys2Proof/Machine/Control.lean ====
section
/-!
DEFINITION. The control phase (R206, R207, R210 to R222): the sources of the slots, one evaluated slot with its writes,
and the run over all slots.
-/

namespace Sys2Proof.Machine
namespace State

/-! ### Sources (R206, R207) -/

/-- The latched measurement of command pad `p` in the form `form`; that of a pad that measures in the other form is not
stated and free (log entry 26). -/
def padSource (s : State) (place p form : Nat) : Int :=
  let f := s.fld (R.CLE_CMD_CFG p) F.CLE_CMD_CFG_FORM
  if f = form then ((s.padLatched p).bits 23 0 : Nat)
  else if f = 0 || f = 3 then 0
  else (Config.freeWord place s.freeCount).toInt

/-- The source of kind `kind` and index `i`; kind 0 is the caller's. -/
def slotSource (s : State) (place kind i : Nat) : Int :=
  match kind with
  | 1 => (s.cle.slot[fin 64 i]).y
  | 2 => (s.latchedOf i : Nat)
  | 3 => if s.axisPresent i then (s.axisSpeed i).toInt else 0
  | 4 => s.sreg R.POS_GSPD
  | 5 => s.padSource place i 1
  | 6 => s.padSource place i 2
  | 7 => s.tdValue i
  | _ => 0

/-- The set-point of kind 0: the register's, or what a unit put in its place for the sample (R325, R344, R372). -/
def slotSpr (s : State) (n : Nat) : Int :=
  match s.cle.spr.find? fun p => p.1 == n with
  | some p => p.2
  | none => s.sreg (R.CLE_SL_SPR n)

/-! ### Writes of the engine (R213 to R216) -/

/-- The register that slot `n` writes. -/
def slotDest (s : State) (n : Nat) : Nat :=
  let w := s.reg (R.CLE_SL_DEST n)
  getF w F.CLE_SL_DEST_BLK * 0x10000 + getF w F.CLE_SL_DEST_OFS * 4

/-- The word that a field write of `y` puts to register `r`: bits `lsb` on take the low `wid` bits, other stored bits
keep what the register, or its shadow, holds (R213); reserved bits stay zero (R8). -/
def fieldWord (s : State) (r lsb wid : Nat) (cle : Bool) (y : Int) : Word :=
  let base :=
    match (if cle then kvGet s.cleShadow r else none), (if shadowed r then s.shadowOf r else none) with
    | some w, _ => w
    | none, some w => w
    | none, none => s.reg r
  let (rw, w1c, wo) := regMasks r
  let base : Word := base &&& BitVec.ofNat 32 rw
  base.setBits (lsb + wid - 1) lsb (modBits wid y) &&& BitVec.ofNat 32 (rw ||| w1c ||| wo)

/-- The control engine writes `y` to slot `n`'s destination; whether the write is blocked (R214, R216). Its voltage command
takes the place of one that waits from a schedule engine or a master (R28, R93). -/
def slotWrite (s : State) (n : Nat) (y : Int) : Bool × State :=
  let w := s.reg (R.CLE_SL_DEST n)
  let d := s.slotDest n
  if !w.bit 31 || s.regAbsent d || d / 0x10000 = 0x10 || d / 0x10000 = 0x12 || (regRow? d).isNone then (false, s)
  else if s.gateStatus d ≠ .ok then (true, s)
  else
    let wid := if getF w F.CLE_SL_DEST_WID = 0 then 32 else getF w F.CLE_SL_DEST_WID
    let lsb := getF w F.CLE_SL_DEST_LSB
    if isVcmd d then
      (false, { s.setCleShadow d (s.fieldWord d lsb wid true y) with shadow := kvErase s.shadow d })
    else (false, (s.regPut d (s.fieldWord d lsb wid false y)).2)

/-! ### One slot -/

/-- The operands of slot `n`'s evaluation. -/
def slotIn (s : State) (n : Fin 64) : SlotIn :=
  let k := n.val
  let cfg := s.reg (R.CLE_SL_CFG k)
  let src := s.reg (R.CLE_SL_SRC k)
  let x := s.cle.slot[n]
  let c (i : Nat) : Word :=
    if s.bit (R.CLE_SL_ST k) F.CLE_SL_ST_ALT then s.reg (R.CLE_SL_CB k i) else s.reg (R.CLE_SL_CA k i)
  let spkind := getF src F.CLE_SL_SRC_SPKIND
  let mkind := getF src F.CLE_SL_SRC_MKIND
  let axis := s.fld (R.CLE_SL_FFT k) F.CLE_SL_FFT_AXIS
  { law := getF cfg F.CLE_SL_CFG_LAW
    spk := s.reg (R.CLE_SL_SPK k)
    spofs := s.sreg (R.CLE_SL_SPOFS k)
    slew := s.nreg (R.CLE_SL_SLEW k)
    c0 := c 0
    c1 := c 1
    c2 := c 2
    c3 := c 3
    imax := s.sreg (R.CLE_SL_IMAX k)
    imin := s.sreg (R.CLE_SL_IMIN k)
    omax := s.sreg (R.CLE_SL_OMAX k)
    omin := s.sreg (R.CLE_SL_OMIN k)
    x := if spkind = 0 then s.slotSpr k else s.slotSource (20600 + k) spkind (getF src F.CLE_SL_SRC_SPIDX)
    m := if mkind = 0 then 0 else s.slotSource (20700 + k) mkind (getF src F.CLE_SL_SRC_MIDX)
    tff :=
      if getF cfg F.CLE_SL_CFG_TFF = 1 then
        some (s.cogTerm (s.fld (R.CLE_SL_FFT k) F.CLE_SL_FFT_PAGE) ((s.axisLatched axis).bits 15 0),
          fricTerm (s.sreg (R.CLE_SL_FRIC k)) (s.axisSpeed axis).toInt)
      else none
    vff := if getF cfg F.CLE_SL_CFG_VFF = 1 then some (s.nreg (R.CLE_VB_G (getF cfg F.CLE_SL_CFG_VBSEL)) : Nat) else none
    i := s.sreg (R.CLE_SL_INT k)
    d := x.d
    e1 := x.e1
    v1 := x.v1
    r1 := if x.fresh then none else some x.r1 }

/-- The outcome `o` of slot `n`'s evaluation is stored (R203, R204). -/
def slotStore (s : State) (n : Fin 64) (o : SlotOut) : State :=
  let k := n.val
  let s := (s.setReg (R.CLE_SL_INT k) (ofInt o.i)).modSlot n fun x =>
    { x with d := o.d, e1 := o.e, v1 := o.v, r1 := o.r, y := o.y, fresh := false }
  let s := s.setFld (R.CLE_SL_ST k) F.CLE_SL_ST_LIM (Word.ofBool o.lim)
  s.when o.sat fun s => s.slotSat n

/-- The operation count of slot `n` (R219). -/
def slotOpCount (s : State) (n : Nat) : Nat :=
  let cfg := s.reg (R.CLE_SL_CFG n)
  slotOps (getF cfg F.CLE_SL_CFG_LAW) (s.nreg (R.CLE_SL_SLEW n)) (getF cfg F.CLE_SL_CFG_TFF == 1)
    (getF cfg F.CLE_SL_CFG_VFF == 1) (s.fld (R.CLE_SL_OSC n) F.CLE_SL_OSC_NCNT != 0)

/-- The events of the markers that name slot `n` (R221). -/
def slotMarks (s : State) (n : Nat) : State :=
  forN 8 (fun k s =>
    let w := s.reg (if k < 4 then R.CLE_MARK0 else R.CLE_MARK1)
    let m := w.bits (k % 4 * 8 + 7) (k % 4 * 8)
    s.fireIf (decide (128 ≤ m) && m % 64 == n) (72 + k)) s

/-- The output of slot `n` is written, unless the engine's writes are held for the sample (R494), and BLK follows
(R215, R216). -/
def slotOutput (s : State) (n : Fin 64) (o : SlotOut) : State :=
  let k := n.val
  let st := R.CLE_SL_ST k
  if s.twn.hold then s
  else
    let s := s.modSlot n fun x => { x with res := some (slotResWord o.y o.lim) }
    let was := s.bit st F.CLE_SL_ST_BLK
    let (blocked, s) := s.slotWrite k o.y
    let s := s.setFld st F.CLE_SL_ST_BLK (Word.ofBool blocked)
    if blocked then
      (s.when (!was) fun s => (s.raise R.CLE_STAT F.CLE_STAT_BLK).fire 69).slotClearBlocked n o.rw
    else s

/-- Slot `n` is evaluated; `t` is when the slot before it completed, and the result when it completes, in CORE clocks
(R204, R212, R217, R219 to R221). -/
def slotRun (s : State) (n : Fin 64) (t : Nat) : State × Nat :=
  let k := n.val
  if s.fld (R.CLE_SL_CFG k) F.CLE_SL_CFG_LAW = 0 then (s, t)
  else
    let o := slotEval (s.slotIn n)
    let ops := s.slotOpCount k
    let start := max t (s.fld (R.CLE_SL_CFG k) F.CLE_SL_CFG_HOLD)
    let s := ((s.setFld (R.CLE_SL_ST k) F.CLE_SL_ST_OPS ops).slotStore n o).slotDetect n o.e
    let s := if s.fld R.CLE_CAP F.CLE_CAP_SLOT = k then s.captureSample else s
    ((s.slotOutput n o).slotMarks k, start + slotCost ops)

/-- Every slot in turn, and the completion time of the last evaluated one. -/
def slotsRun (s : State) : State × Nat :=
  (List.finRange 64).foldl (fun p n => p.1.slotRun n p.2) (s, 0)

/-- The control phase at 6 µs (R210, R220, R222). While a debugger's halt freezes the engine no slot is evaluated. What
was due by 6 µs and no frame has brought is judged first (R482, R484). -/
def controlPhase (s : State) : State :=
  let s := s.sigJudge.agreedForm
  let s := (s.busGain 0).busGain 1
  if s.freezing then s.fire 68
  else
    let capOff := s.fld (R.CLE_SL_CFG (s.fld R.CLE_CAP F.CLE_CAP_SLOT)) F.CLE_SL_CFG_LAW == 0
    let (s, t) := s.takeFree.slotsRun
    let s := s.when capOff State.captureSample
    let s := s.setFld R.CLE_RUNT F.CLE_RUNT_LAST (min t 65535)
    (s.setFld R.CLE_RUNT F.CLE_RUNT_MAX (max (s.fld R.CLE_RUNT F.CLE_RUNT_MAX) (min t 65535))).fire 68

end State

/-- CONTROL_PHASE (R220): the engine runs in every mode except OFF and BOOT (R223). -/
def execControlPhase (s : State) : Host.Outcome State Fault Refusal := .next (s.whenUp State.controlPhase)

end Sys2Proof.Machine
end

