-- ==== Sys2Proof/Machine/Boundary.lean ====
section
/-!
DEFINITION. The sample boundary (R24): the latches, the mode's change, the commit point of the units without a
timebase (R92), and what each unit does at a boundary.
-/

namespace Sys2Proof.Machine
namespace State

/-! ### The commit point -/

/-- Register `r` commits at the sample boundary (R92). -/
def boundaryOwned (r : Nat) : Bool :=
  shadowed r && match r / 0x10000 with
    | 3 | 5 | 7 | 8 | 0xB | 0xF => true
    | 0xA => decide (r % 0x10000 < 0x100)
    | _ => false

/-- Register `r` commits `w` at a boundary, with what its unit does then. -/
def boundaryApply (s : State) (r : Nat) (w : Word) : State :=
  let o := r % 0x10000
  match r / 0x10000 with
  | 3 =>
    if r = R.CLE_CAP then s.captureCommit w
    else if (regMasks r).2.1 ≠ 0 then s.cleClears r w
    else
      match regAt? o 0x1000 0x80 64 with
      | some n => if r = R.CLE_SL_CFG n then s.slotCommitCfg (fin 64 n) w else s.setReg r w
      | none => s.setReg r w
  | 7 =>
    match regAt? o 0x100 0x10 8, regAt? o 0x400 0x10 48 with
    | some k, _ => s.acqCommitConv (fin 8 k) w
    | none, some n => if r = R.ACQ_CH_CFG n then s.acqCommitChan (fin 48 n) w else s.setReg r w
    | none, none => s.setReg r w
  | 8 =>
    match regAt? o 0x800 0x10 2 with
    | some m => s.emuCommit (fin 2 m) w
    | none => s.setReg r w
  | 0xA =>
    if r = R.ACT_NUDGEA then s.nudgeCommit 0 (w.setWidth 16)
    else if r = R.ACT_NUDGEB then s.nudgeCommit 1 (w.setWidth 16)
    else s.setReg r w
  | 0xB => if r = R.ENP_SBCFG then s.budgetCommit w else s.setReg r w
  | _ => s.setReg r w

/-- The commit point of TDU, CLE, ACQ, POS, ENP, TWN and the common registers of ACT (R92, R186, R329, R497). -/
def boundaryCommit (s : State) : State :=
  let src := s.reg R.POS_TRVSRC
  let travel := [R.POS_TRVSRC, R.POS_TRVCOEF, R.POS_TRVFB_L, R.POS_TRVFB_R].any fun r => (s.shadowOf r).isSome
  let captures := (s.shadowOf R.CLE_CAP).any (·.bit 31)
  let s := s.commitPoint boundaryOwned boundaryApply
  let s := s.when captures captureFrom
  if travel then s.travelCommitted src else s

/-! ### The latch -/

/-- The speeds of the axes as latched for the sample (R194). -/
def speedLatch (s : State) : State :=
  { s with cle := { s.cle with spd := Vector.ofFn fun a : Fin 11 => s.reg (R.POS_AX_SPD a.val) } }

/-- The latches of a boundary (R160, R194, R208, R323, R328, R491), and what of the ended sample no longer holds. -/
def latches (s : State) (c0 c1 c2 c3 : BitVec 12) : State :=
  let s := { s with cle := { s.cle with spr := [] }, twn := { s.twn with agreed := [] } }
  let s := s.acqLatch.posLatch.snapshotApply.padLatch.speedLatch
  let s := (((s.padConvert 0 c0).padConvert 1 c1).padConvert 2 c2).padConvert 3 c3
  if s.paired then s else s.parkState

/-! ### The units -/

/-- What the units do at a boundary, in the new mode; the ended sample lasted `ns`. In a pair what the drives and the energy path
form from latched inputs waits for the agreed values (R484, log entry 176). -/
def unitsBoundary (s : State) (ns : Nat) : State :=
  let en (s : State) (x : Nat) : Bool := s.bit (R.TDU_CFG x) F.TDU_CFG_EN
  let was0 := en s 0
  let was1 := en s 1
  let s := ((s.nudgesBoundary ns).slotRequests).boundaryCommit
  let s := (s.tdBoundary 0 (!was0 && en s 0)).tdBoundary 1 (!was1 && en s 1)
  let s := (s.legsBoundary.thEnergy ns).detectionsAge.ascBoundary
  let s := if s.paired then s.modTwn fun x => { x with owed := true } else s.actForm
  let s := s.auxBoundary
  let s := if s.paired then s else s.enpBoundary
  s.gteBoundary.sigBoundary.twnBoundary.captureAbort.seqBoundary

/-- A sample boundary (R24). A command given in its clock meets the new mode (R64). -/
def sampleBoundary (s : State) (c0 c1 c2 c3 : BitVec 12) : State :=
  let ns := s.clk.cut.getD s.sampleNs
  let s := s.whenUp State.sigContinue
  let s := (s.setReg R.SYS_SMPLCNT (s.reg R.SYS_SMPLCNT + 1)).fire 0
  let s := (s.whenUp fun s => s.latches c0 c1 c2 c3).smplBoundary.sampleBegin
  let takeover := s.twn.takeover
  let s := s.modeBoundary
  let s := s.when takeover State.takeoverMake
  s.whenUp fun s => s.unitsBoundary ns

end State

namespace State

/-- A SAMPLE_BOUNDARY given now falls: not before the generator has started (R66), in OFF (R69), without the CORE clock (R34), or
between the reloads of timebase 0 that bring the boundaries (R21). -/
def boundaryFalls (s : State) : Bool := s.clk.started && s.clk.clocked && s.mode != .off && s.boundaryDue

/-- When the last evaluated slot completes, in CORE clocks from the start of the control phase, by the settings in force (R219,
R220). -/
def slotTime (s : State) : Nat :=
  (List.range 64).foldl (fun t n =>
    if s.fld (R.CLE_SL_CFG n) F.CLE_SL_CFG_LAW = 0 then t
    else max t (s.fld (R.CLE_SL_CFG n) F.CLE_SL_CFG_HOLD) + slotCost (s.slotOpCount n)) 0

/-- The settings in force for the sample that begins are a host mistake: they contradict each other, or the sample is too short for
the control phase, or its mirror window opens before that completes (R26, R228, R483, R501); its length is that after a fallback to PERIOD (R23). -/
def settingsBad (s : State) : Bool :=
  let s := s.smplBoundary
  s.configBad || decide (s.sampleNs < 6000 + 4 * s.slotTime)
    || (s.twnSetUp && decide (1000 * s.fld R.TWN_MWIN F.TWN_MWIN_OPEN < 6000 + 4 * s.slotTime))

end State

/-- SAMPLE_BOUNDARY (R24), where one falls. Settings in force that are a host mistake show at a boundary (R26, R49, log entry
10). -/
def execSampleBoundary (c0 c1 c2 c3 : BitVec 12) (s : State) : Host.Outcome State Fault Refusal :=
  if !s.boundaryFalls then .next s
  else if s.settingsBad then .fault .hostMistake
  else .next (s.sampleBoundary c0 c1 c2 c3)

end Sys2Proof.Machine
end

