-- ==== Sys2Proof/Machine/Engines.lean ====
section
/-!
DEFINITION. The schedule instructions (R122 to R149): what each does when its engine issues it. `none` is a host mistake
(R123, R149). An instruction acts on its unit in its issue clock and completes in its last (R124); as a command it does
both at once. Cycle counts and the fetch stand in Tick.lean.
-/

namespace Sys2Proof.Machine

/-- What the issue of an instruction leaves: it is over, or it completes as the record says, or its engine waits. -/
inductive Issued where
  | done (s : State)
  | ends (s : State) (f : Finish)
  | waits (s : State)
  deriving DecidableEq, Repr

/-- The instruction of engine `e` completes at once, or its wait is tested at once. -/
def Issued.now (e : Fin 8) : Issued → State
  | .done s => s
  | .ends s f => s.finish e f
  | .waits s => s.waitTest e

namespace State

/-! ### Issue and completion -/

/-- Engine `e` issues an instruction of `len` words: nothing where it does not issue; FAULTED where its words lie beyond
schedule memory (R109), also where only its extension word would (log entry 136); else what the instruction does. DESIGN
CHOICE, unsafe. -/
def seqIssue (s : State) (e : Fin 8) (len : Nat) (act : State → Option Issued) : Option Issued :=
  if !s.issuing e then some (.done s)
  else if seqWords < (s.engine e).pc + len then some (.done (s.seqFault e 4))
  else act s

/-- The instruction of opcode `op` completes with `st`, and the next one stands at `pc` (R104). -/
def seqDone (s : State) (e : Fin 8) (op pc : Nat) (st : Status) : Issued := .ends s ⟨op, (s.engine e).pc, pc, st, none⟩

/-- The instruction of `len` words completes and the engine goes on behind it. -/
def seqNext (s : State) (e : Fin 8) (op len : Nat) (st : Status) : Issued := s.seqDone e op ((s.engine e).pc + len) st

/-- The instruction of `len` words writes v`k`, completes with `st`, and the engine goes on behind it. -/
def seqGive (s : State) (e : Fin 8) (k : Fin 16) (w : Word) (op len : Nat) (st : Status) : Issued :=
  .ends s ⟨op, (s.engine e).pc, (s.engine e).pc + len, st, some (k, w)⟩

/-- The engine enters a wait, which is tested from the issue clock on (R98, R100, R101). -/
def seqWait (s : State) (e : Fin 8) (op len : Nat) (w : Wait) (tmo : Timeout) : Issued :=
  .waits (s.waitBegin e op len w tmo)

/-- Words of an instruction with an optional extension word. -/
def extLen (x : Bool) : Nat := if x then 2 else 1

/-! ### Data instructions (R130 to R136) -/

/-- `halt` (R130). -/
def seqHalt (s : State) (e : Fin 8) : Option Issued :=
  s.seqIssue e 1 fun s =>
    let s := s.finish e ⟨0x00, (s.engine e).pc, (s.engine e).pc + 1, .ok, none⟩
    some (.done ((s.modEngine e fun x => { x with state := .halted, staging := [], fault := 0 }).fire (33 + 4 * e.val)))

/-- `mov` (R131). -/
def seqMov (s : State) (e : Fin 8) (vd vs : Fin 16) : Option Issued :=
  s.seqIssue e 1 fun s => some (s.seqGive e vd (s.v e vs) 0x01 1 .ok)

/-- `ldi` (R131). -/
def seqLdi (s : State) (e : Fin 8) (vd : Fin 16) (v : LdiVal) : Option Issued :=
  match v with
  | .imm k => s.seqIssue e 1 fun s => some (s.seqGive e vd (k.signExtend 32) 0x02 1 .ok)
  | .ext w => s.seqIssue e 2 fun s => some (s.seqGive e vd w 0x02 2 .ok)

/-- The result of an ALU function (R132). -/
def aluResult (fn : AluFn) (a b : Word) : Word :=
  match fn with
  | .add => a + b
  | .sub => a - b
  | .and => a &&& b
  | .or => a ||| b
  | .xor => a ^^^ b
  | .shl => a <<< (b.toNat % 32)
  | .shr => a >>> (b.toNat % 32)
  | .sar => a.sshiftRight (b.toNat % 32)
  | .mul => a * b

/-- The value of an operand that is a v register or the extension word. -/
def regExt (s : State) (e : Fin 8) (b : RegExt) : Word :=
  match b with
  | .reg k => s.v e k
  | .ext w => w

/-- Whether such an operand takes an extension word. -/
def isExt (b : RegExt) : Bool :=
  match b with
  | .reg _ => false
  | .ext _ => true

/-- `alu` (R132). -/
def seqAlu (s : State) (e : Fin 8) (vd va : Fin 16) (fn : AluFn) (b : RegExt) : Option Issued :=
  let len := extLen (isExt b)
  s.seqIssue e len fun s => some (s.seqGive e vd (aluResult fn (s.v e va) (s.regExt e b)) 0x03 len .ok)

/-- The register that BLK and OFS name (R127). -/
def unitReg (blk : BitVec 5) (ofs : BitVec 14) : Nat := blk.toNat * 0x10000 + ofs.toNat * 4

/-- Register `r` holds a v register, the program counter or the latch of an engine other than `e`, which `e` can neither read nor
write (R91). -/
def seqForeign (e : Fin 8) (r : Nat) : Bool :=
  match regAt? (r % 0x10000) 0x100 0x100 8 with
  | some k => r / 0x10000 == 2 && k != e.val && (r % 0x100 == 0x10 || (decide (0x40 ≤ r % 0x100) && decide (r % 0x100 < 0xA0)))
  | none => false

/-- `ldu` (R127, R133). A register reads as `seen` has it, the state before the stores of the same CORE clock (R92); a result port is
read as it stands. What R91 bars reads as an offset without a register does (log entry 143). DESIGN CHOICE, unsafe. -/
def seqLdu (s seen : State) (e : Fin 8) (vd : Fin 16) (blk : BitVec 5) (ofs : BitVec 14) : Option Issued :=
  s.seqIssue e 1 fun s =>
    let r := unitReg blk ofs
    if 0x12 < blk.toNat then some (s.seqNext e 0x04 1 .outOfRange)
    else if s.regAbsent r then some (s.seqGive e vd 0 0x04 1 .notPresent)
    else if seqForeign e r then some (s.seqGive e vd 0 0x04 1 .ok)
    else
      let w := if (s.portRead r).isSome then (s.regRead r).1 else (seen.regRead r).1
      some ((s.regRead r).2.seqGive e vd w 0x04 1 .ok)

/-- An engine's store of `w` to register `r` is a host mistake (R49); one to SAF writes nothing (R7). -/
def storeBad (s : State) (r : Nat) (w : Word) : Bool := r / 0x10000 != 0x10 && s.writeBad r w

/-- The judgement of a unit store (R134). -/
def stuJudge (s : State) (e : Fin 8) (g : Bool) (blk : BitVec 5) (r : Nat) : Status :=
  if 0x12 < blk.toNat then .outOfRange
  else
    match s.gateStatus r with
    | .ok => if g && decide (32 ≤ (s.engine e).staging.length) then .busy else .ok
    | st => st

/-- An engine's store that its judgement lets pass: its status, and the state. A store to `GDP_CLR` or `HPT_FLCTL` has
the status of its command (R576); one to `GTE_ACMD` is OK but for a refusal for the mode, whose path the writer takes
(R399; log entry 82). -/
def engineStore (s : State) (r : Nat) (w : Word) : Status × State :=
  if r / 0x10000 = 0x10 || (regRow? r).isNone then (.ok, s)
  else
    let (st, s) := s.regPut r w
    if r = R.GTE_ACMD && st ≠ .wrongMode then (.ok, s) else (st, s)

/-- `stu` (R134, R576). A store to MOD is a host mistake (R87), and so is a word that breaks R49. A store that R91 bars writes
nothing, at once or at its commit (log entry 143). DESIGN CHOICE, unsafe. -/
def seqStu (s : State) (e : Fin 8) (v : RegExt) (g : Bool) (blk : BitVec 5) (ofs : BitVec 14) : Option Issued :=
  let len := extLen (isExt v)
  s.seqIssue e len fun s =>
    let r := unitReg blk ofs
    let w := s.regExt e v
    match s.stuJudge e g blk r with
    | .ok =>
      if blk = 0x12 then none
      else if g then
        some ((s.modEngine e fun x => { x with staging := x.staging ++ [(r, w)] }).seqNext e 0x05 len .ok)
      else if seqForeign e r then some (s.seqNext e 0x05 len .ok)
      else if s.storeBad r w then none
      else
        let (st, s) := s.engineStore r w
        some (s.seqNext e 0x05 len st)
    | st => some ((if g then s else s.refusedPut r w st).seqNext e 0x05 len st)

/-- `ldt` (R135). -/
def seqLdt (s : State) (e : Fin 8) (vd va : Fin 16) (wofs : BitVec 16) : Option Issued :=
  s.seqIssue e 1 fun s =>
    some (s.seqGive e vd (s.tableWord ((s.v e va).toNat + wofs.toNat)) 0x06 1 .ok)

/-- One staged entry of engine `e` is judged again and transferred: the statuses met so far, and the registers whose commit points
are still to pass (R94 to R96); none where its write is a host mistake (R49). An entry of `GDP_CLR` or `HPT_FLCTL` that its unit judges LOCKED gives the commit LOCKED, also where
the lock-out stood when it was staged (R576; log entry 142). DESIGN CHOICE, unsafe. -/
def commitEntry (e : Fin 8) (p : State × Status × List Nat) (q : Nat × Word) : Option (State × Status × List Nat) :=
  let (s, st, left) := p
  let worse (st' : Status) : Status := if st = .locked || st' = .locked then .locked else .wrongMode
  match s.gateStatus q.1 with
  | .ok =>
    if seqForeign e q.1 then some p
    else if s.storeBad q.1 q.2 then none
    else
      let (st', s) := s.engineStore q.1 q.2
      let left := if shadowed q.1 && (s.shadowOf q.1).isSome && !left.contains q.1 then left ++ [q.1] else left
      some (if st' = .locked || st' = .wrongMode then (s, worse st', left) else (s, st, left))
  | st' => some (s.refusedPut q.1 q.2 st', if st' = .locked || st' = .wrongMode then worse st' else st, left)

/-- `commit` (R94 to R96, R136, R576). -/
def seqCommit (s : State) (e : Fin 8) (w : Bool) (tmo : Timeout) : Option Issued :=
  let len := extLen tmo.isSome
  s.seqIssue e len fun s =>
    let staged := (s.engine e).staging
    let s := s.modEngine e fun x => { x with staging := [] }
    (staged.foldlM (commitEntry e) (s, .ok, [])).map fun (s, st, left) =>
      if w then s.seqWait e 0x07 len (.commit left st) tmo else s.seqNext e 0x07 len st

/-! ### Waits (R137 to R140) -/

/-- `wtm` (R137). A relative target 2^31 µs or more ahead counts as behind, also where R100's difference of exactly 2^31 would not
(log entry 84). DEDUCED, safe. -/
def seqWtm (s : State) (e : Fin 8) (t : TimeTarget) : Option Issued :=
  match t with
  | .abs k => s.seqIssue e 1 fun s => some (s.seqWait e 0x08 1 (.time (s.v e k)) none)
  | .rel w => s.seqIssue e 2 fun s =>
      some (s.seqWait e 0x08 2 (.time (if w.getLsbD 31 then s.now else s.now + w)) none)

/-- `wsm` (R102, R138). -/
def seqWsm (s : State) (e : Fin 8) (cnt : BitVec 16) (ofs : BitVec 8) (tmo : Timeout) : Option Issued :=
  let len := extLen tmo.isSome
  s.seqIssue e len fun s =>
    if cnt = 0 || decide (s.sampleNs ≤ 1000 * ofs.toNat) then some (s.seqNext e 0x09 len .outOfRange)
    else some (s.seqWait e 0x09 len (.sample cnt.toNat ofs.toNat none) tmo)

/-- `wps` (R102, R128, R139); a reserved axis code is a host mistake (R123). -/
def seqWps (s : State) (e : Fin 8) (reverse : Bool) (vs : Fin 16) (axis : BitVec 4) (tmo : Timeout) : Option Issued :=
  let len := extLen tmo.isSome
  s.seqIssue e len fun s =>
    if 10 < axis.toNat then none
    else if !s.axisPresent axis.toNat then some (s.seqNext e 0x0A len .notPresent)
    else some (s.seqWait e 0x0A len (.position reverse (s.v e vs) axis.toNat) tmo)

/-- `wtr` (R129, R139); a reserved axis code is a host mistake (R123). -/
def seqWtr (s : State) (e : Fin 8) (reverse : Bool) (vs : Fin 16) (axis : BitVec 4) (tmo : Timeout) : Option Issued :=
  let len := extLen tmo.isSome
  s.seqIssue e len fun s =>
    if 2 < axis.toNat then none
    else some (s.seqWait e 0x0B len (.travel reverse (s.v e vs) axis.toNat) tmo)

/-- `wev` (R103, R140). -/
def seqWev (s : State) (e : Fin 8) (src : BitVec 8) (tmo : Timeout) : Option Issued :=
  let len := extLen tmo.isSome
  s.seqIssue e len fun s => some (s.seqWait e 0x0C len (.event src) tmo)

/-! ### Control flow (R141 to R144) -/

/-- A jump of opcode `op` by `d` words, with what it does before; outside schedule memory it has no effect and the engine
is FAULTED (R109, R141). -/
def seqJump (s : State) (e : Fin 8) (op : Nat) (d : Int) (act : State → State) : Issued :=
  let t := ((s.engine e).pc : Int) + d
  if t < 0 || (seqWords : Int) ≤ t then .done (s.seqFault e 4) else (act s).seqDone e op t.toNat .ok

/-- `jev` jumps. -/
def jevTaken (s : State) (e : Fin 8) (ifClear : Bool) (src : BitVec 8) : Bool :=
  (s.engine e).evl.getLsbD src.toNat != ifClear

/-- `jev` (R103, R142). -/
def seqJev (s : State) (e : Fin 8) (clear ifClear : Bool) (src : BitVec 8) (disp : BitVec 16) : Option Issued :=
  s.seqIssue e 1 fun s =>
    let act (s : State) : State := if clear then s.latchClear e src.toNat else s
    some (if s.jevTaken e ifClear src then s.seqJump e 0x10 disp.toInt act else (act s).seqNext e 0x10 1 .ok)

/-- `jmd` jumps. -/
def jmdTaken (s : State) (ifClear : Bool) (mask : BitVec 12) : Bool := mask.getLsbD s.mode.code != ifClear

/-- `jmd` (R142). -/
def seqJmd (s : State) (e : Fin 8) (ifClear : Bool) (mask : BitVec 12) (disp : BitVec 13) : Option Issued :=
  s.seqIssue e 1 fun s =>
    some (if s.jmdTaken ifClear mask then s.seqJump e 0x11 disp.toInt id else s.seqNext e 0x11 1 .ok)

/-- `jmp` (R141, R143); every address the word can hold lies in schedule memory. -/
def seqJmp (s : State) (e : Fin 8) (addr : BitVec 17) : Option Issued :=
  s.seqIssue e 1 fun s => some (s.seqDone e 0x12 addr.toNat .ok)

/-- `call` (R109, R143). -/
def seqCall (s : State) (e : Fin 8) (addr : BitVec 17) : Option Issued :=
  s.seqIssue e 1 fun s =>
    if 4 ≤ (s.engine e).calls.length then some (.done (s.seqFault e 1))
    else some ((s.modEngine e fun x => { x with calls := (x.pc + 1) :: x.calls }).seqDone e 0x13 addr.toNat .ok)

/-- `ret` (R109, R143). -/
def seqRet (s : State) (e : Fin 8) : Option Issued :=
  s.seqIssue e 1 fun s =>
    match (s.engine e).calls with
    | [] => some (.done (s.seqFault e 2))
    | a :: t => some ((s.modEngine e fun x => { x with calls := t }).seqDone e 0x14 a .ok)

/-- `loop` (R109, R144). -/
def seqLoop (s : State) (e : Fin 8) (cnt : BitVec 16) : Option Issued :=
  s.seqIssue e 1 fun s =>
    if 4 ≤ (s.engine e).loops.length then some (.done (s.seqFault e 3))
    else
      let n := if cnt = 0 then 65536 else cnt.toNat
      some ((s.modEngine e fun x => { x with loops := (n, x.pc + 1) :: x.loops }).seqNext e 0x15 1 .ok)

/-- `endl` (R144); with no level open it is a host mistake (R149). -/
def seqEndl (s : State) (e : Fin 8) (leave : Bool) : Option Issued :=
  s.seqIssue e 1 fun s =>
    match (s.engine e).loops with
    | [] => none
    | (n, a) :: t =>
      if leave || decide (n ≤ 1) then some ((s.modEngine e fun x => { x with loops := t }).seqNext e 0x16 1 .ok)
      else some ((s.modEngine e fun x => { x with loops := (n - 1, a) :: t }).seqDone e 0x16 a .ok)

/-! ### Unit actions (R145 to R148) -/

/-- `gate` (R145); a gate word that breaks the format of R398 is a host mistake (R149). -/
def seqGate (s : State) (e : Fin 8) (va vb vc : Fin 16) (rel : Bool) : Option Issued :=
  s.seqIssue e 1 fun s =>
    if gateWordBad (s.v e vb) then none
    else
      let (st, s) := s.gateAppend ((s.v e vc).bits 7 0) (s.v e va) (s.v e vb) rel
      some (s.seqNext e 0x18 1 st)

/-- `send` (R146). -/
def seqSend (s : State) (e : Fin 8) (p : Bool) (va : Fin 16) (widx : BitVec 9) (ses : BitVec 8) : Option Issued :=
  s.seqIssue e 1 fun s =>
    let n := ses.toNat
    let st := s.startStatus n true
    if st = .ok then
      let s := if p then s.setWord (s.msgAddr n (4 * widx.toNat)) (s.v e va) else s
      some ((s.sesStart n).seqNext e 0x19 1 .ok)
    else some (s.seqNext e 0x19 1 st)

/-- `sig` (R120, R147). -/
def seqSig (s : State) (e : Fin 8) (val : BitVec 16) : Option Issued :=
  s.seqIssue e 1 fun s =>
    some (((s.setFld (R.SEQ_LAST e.val) F.SEQ_LAST_SIGVAL val.toNat).fire (32 + 4 * e.val)).seqNext e 0x1A 1 .ok)

/-- `mreq` (R54, R148). -/
def seqMreq (s : State) (e : Fin 8) (tgt : BitVec 4) : Option Issued :=
  s.seqIssue e 1 fun s =>
    let (st, s) := s.modeJudge (.engine e) tgt.toNat (s.engine e).pc
    some (s.seqNext e 0x1B 1 st)

end State

/-- The outcome of what may be a host mistake. -/
def orMistake (o : Option State) : Host.Outcome State Fault Refusal :=
  match o with
  | some s => .next s
  | none => .fault .hostMistake

/-- The outcome of an instruction of engine `e` that is issued and completes at once (log entry 137). DESIGN CHOICE, unsafe. -/
def issueNow (e : Fin 8) (o : Option Issued) : Host.Outcome State Fault Refusal := orMistake (o.map (Issued.now e))

/-- HALT (R130). -/
def execHalt (e : Fin 8) (s : State) : Host.Outcome State Fault Refusal := issueNow e (s.seqHalt e)

/-- MOV (R131). -/
def execMov (e : Fin 8) (vd vs : Fin 16) (s : State) : Host.Outcome State Fault Refusal := issueNow e (s.seqMov e vd vs)

/-- LDI (R131). -/
def execLdi (e : Fin 8) (vd : Fin 16) (v : LdiVal) (s : State) : Host.Outcome State Fault Refusal :=
  issueNow e (s.seqLdi e vd v)

/-- ALU (R132). -/
def execAlu (e : Fin 8) (vd va : Fin 16) (fn : AluFn) (b : RegExt) (s : State) : Host.Outcome State Fault Refusal :=
  issueNow e (s.seqAlu e vd va fn b)

/-- LDU (R133). -/
def execLdu (e : Fin 8) (vd : Fin 16) (blk : BitVec 5) (ofs : BitVec 14) (s : State) :
    Host.Outcome State Fault Refusal := issueNow e (s.seqLdu s e vd blk ofs)

/-- STU (R134). -/
def execStu (e : Fin 8) (v : RegExt) (g : Bool) (blk : BitVec 5) (ofs : BitVec 14) (s : State) :
    Host.Outcome State Fault Refusal := issueNow e (s.seqStu e v g blk ofs)

/-- LDT (R135). -/
def execLdt (e : Fin 8) (vd va : Fin 16) (wofs : BitVec 16) (s : State) : Host.Outcome State Fault Refusal :=
  issueNow e (s.seqLdt e vd va wofs)

/-- COMMIT (R136). -/
def execCommit (e : Fin 8) (w : Bool) (tmo : Timeout) (s : State) : Host.Outcome State Fault Refusal :=
  issueNow e (s.seqCommit e w tmo)

/-- WTM (R137). -/
def execWtm (e : Fin 8) (t : TimeTarget) (s : State) : Host.Outcome State Fault Refusal := issueNow e (s.seqWtm e t)

/-- WSM (R138). -/
def execWsm (e : Fin 8) (cnt : BitVec 16) (ofs : BitVec 8) (tmo : Timeout) (s : State) :
    Host.Outcome State Fault Refusal := issueNow e (s.seqWsm e cnt ofs tmo)

/-- WPS (R139). -/
def execWps (e : Fin 8) (reverse : Bool) (vs : Fin 16) (axis : BitVec 4) (tmo : Timeout) (s : State) :
    Host.Outcome State Fault Refusal := issueNow e (s.seqWps e reverse vs axis tmo)

/-- WTR (R139). -/
def execWtr (e : Fin 8) (reverse : Bool) (vs : Fin 16) (axis : BitVec 4) (tmo : Timeout) (s : State) :
    Host.Outcome State Fault Refusal := issueNow e (s.seqWtr e reverse vs axis tmo)

/-- WEV (R140). -/
def execWev (e : Fin 8) (src : BitVec 8) (tmo : Timeout) (s : State) : Host.Outcome State Fault Refusal :=
  issueNow e (s.seqWev e src tmo)

/-- JEV (R142). -/
def execJev (e : Fin 8) (clear ifClear : Bool) (src : BitVec 8) (disp : BitVec 16) (s : State) :
    Host.Outcome State Fault Refusal := issueNow e (s.seqJev e clear ifClear src disp)

/-- JMD (R142). -/
def execJmd (e : Fin 8) (ifClear : Bool) (mask : BitVec 12) (disp : BitVec 13) (s : State) :
    Host.Outcome State Fault Refusal := issueNow e (s.seqJmd e ifClear mask disp)

/-- JMP (R143). -/
def execJmp (e : Fin 8) (addr : BitVec 17) (s : State) : Host.Outcome State Fault Refusal := issueNow e (s.seqJmp e addr)

/-- CALL (R143). -/
def execCall (e : Fin 8) (addr : BitVec 17) (s : State) : Host.Outcome State Fault Refusal :=
  issueNow e (s.seqCall e addr)

/-- RET (R143). -/
def execRet (e : Fin 8) (s : State) : Host.Outcome State Fault Refusal := issueNow e (s.seqRet e)

/-- LOOP (R144). -/
def execLoop (e : Fin 8) (cnt : BitVec 16) (s : State) : Host.Outcome State Fault Refusal := issueNow e (s.seqLoop e cnt)

/-- ENDL (R144). -/
def execEndl (e : Fin 8) (leave : Bool) (s : State) : Host.Outcome State Fault Refusal := issueNow e (s.seqEndl e leave)

/-- GATE (R145). -/
def execGate (e : Fin 8) (va vb vc : Fin 16) (rel : Bool) (s : State) : Host.Outcome State Fault Refusal :=
  issueNow e (s.seqGate e va vb vc rel)

/-- SEND (R146). -/
def execSend (e : Fin 8) (p : Bool) (va : Fin 16) (widx : BitVec 9) (ses : BitVec 8) (s : State) :
    Host.Outcome State Fault Refusal := issueNow e (s.seqSend e p va widx ses)

/-- SIG (R147). -/
def execSig (e : Fin 8) (val : BitVec 16) (s : State) : Host.Outcome State Fault Refusal := issueNow e (s.seqSig e val)

/-- MREQ (R148). -/
def execMreq (e : Fin 8) (tgt : BitVec 4) (s : State) : Host.Outcome State Fault Refusal := issueNow e (s.seqMreq e tgt)

/-- What the issue of a decoded instruction leaves, its loads seeing the registers of `seen`; no word decodes to another command. -/
def seqAct (i : Instr) (seen s : State) : Option Issued :=
  match i with
  | .halt e => s.seqHalt e
  | .mov e vd vs => s.seqMov e vd vs
  | .ldi e vd v => s.seqLdi e vd v
  | .alu e vd va fn b => s.seqAlu e vd va fn b
  | .ldu e vd blk ofs => s.seqLdu seen e vd blk ofs
  | .stu e v g blk ofs => s.seqStu e v g blk ofs
  | .ldt e vd va wofs => s.seqLdt e vd va wofs
  | .commit e w tmo => s.seqCommit e w tmo
  | .wtm e t => s.seqWtm e t
  | .wsm e cnt ofs tmo => s.seqWsm e cnt ofs tmo
  | .wps e reverse vs axis tmo => s.seqWps e reverse vs axis tmo
  | .wtr e reverse vs axis tmo => s.seqWtr e reverse vs axis tmo
  | .wev e src tmo => s.seqWev e src tmo
  | .jev e clear ifClear src disp => s.seqJev e clear ifClear src disp
  | .jmd e ifClear mask disp => s.seqJmd e ifClear mask disp
  | .jmp e addr => s.seqJmp e addr
  | .call e addr => s.seqCall e addr
  | .ret e => s.seqRet e
  | .loop e cnt => s.seqLoop e cnt
  | .endl e leave => s.seqEndl e leave
  | .gate e va vb vc rel => s.seqGate e va vb vc rel
  | .send e p va widx ses => s.seqSend e p va widx ses
  | .sig e val => s.seqSig e val
  | .mreq e tgt => s.seqMreq e tgt
  | _ => some (.done s)

end Sys2Proof.Machine
end

