-- ==== Sys2Proof/Machine/HostPort.lean ====
section
/-!
DEFINITION. The host port's frames (R545 to R549).
-/

namespace Sys2Proof.Machine
namespace State

/-- The address of item `i` of a frame (R546). -/
def itemAddr (addr bytes : Nat) (inc : Bool) (i : Nat) : Nat := if inc then addr + i * bytes else addr

/-- Item `i` of a frame that begins in region `g` lies in that region. -/
def itemIn (g : Region) (a : Nat) : Bool := region? a == some g

/-- The items of a memory read, and the access errors of those that leave their region or meet a double error (R534, R547). -/
def hostItems (s : State) (g : Region) (addr bytes : Nat) (inc : Bool) (ecc : List Ecc) : Nat → State × List Word
  | 0 => (s, [])
  | n + 1 =>
    let (s, l) := s.hostItems g addr bytes inc ecc n
    let a := itemAddr addr bytes inc n
    let e := ecc.getD n .good
    if !itemIn g a then (s.accessError .host a, l ++ [0])
    else
      let s := s.eccSeen g a e
      if eccLost g e then (s.accessError .host a, l ++ [0]) else (s, l ++ [s.memGet a bytes])

/-- The response and the data of a read frame; none after a clock fault, when `HP_IO0` to `HP_IO3` are high-impedance (R34). -/
def hostGive (s : State) (resp : BitVec 8) (l : List Word) : State :=
  if s.clk.fault then s else { s with bus := { s.bus with hostResponse := resp, hostData := l } }

/-- A read frame of `n` items at the aligned address `addr` (R546 to R548). The first item is read in the wait, whether
or not its data is clocked; where it meets a double error the frame answers an error and zeros. -/
def hostRead (s : State) (bytes : Nat) (inc : Bool) (addr n : Nat) (ecc : List Ecc) : State :=
  let zeros := List.replicate n (0 : Word)
  match busReg? addr with
  | some r =>
    let (w, s) := s.regRead r
    let s := if 1 < n then s.raise R.HPT_STAT F.HPT_STAT_XTRA else s
    s.hostGive 0 ((w :: List.replicate (n - 1) 0).take n)
  | none =>
    match region? addr with
    | none => (s.accessError .host addr).hostGive 1 zeros
    | some g =>
      if s.flashHeld addr then s.hostGive 2 zeros
      else if eccLost g (ecc.getD 0 .good) then ((s.eccSeen g addr .double).accessError .host addr).hostGive 1 zeros
      else
        let (s, l) := s.hostItems g addr bytes inc ecc n
        s.hostGive 0 l

/-- The items of a memory write in order (R547, R548). -/
def hostPutItems (s : State) (g : Region) (bytes : Nat) (inc : Bool) (a : Nat) : List Word → State
  | [] => s
  | w :: t =>
    let s := if itemIn g a && g != .flash then s.memPut a bytes w else s.accessError .host a
    s.hostPutItems g bytes inc (if inc then a + bytes else a) t

/-- An item of a write frame is a host mistake at its place in memory (R49). -/
def itemsBad (s : State) (g : Region) (bytes : Nat) (inc : Bool) (addr : Nat) (l : List Word) : Bool :=
  (List.range l.length).any fun k =>
    let a := itemAddr addr bytes inc k
    itemIn g a && s.putBad a bytes (l.getD k 0)

/-- A write frame at the aligned address `addr`; none where it is a host mistake (R49). -/
def hostWrite (s : State) (bytes : Nat) (inc : Bool) (addr : Nat) (items : List Word) : Option State :=
  match items with
  | [] => some s
  | w :: t =>
    match busReg? addr with
    | some r => (s.masterPut .host r w).map fun s => if t.isEmpty then s else s.raise R.HPT_STAT F.HPT_STAT_XTRA
    | none =>
      match region? addr with
      | none => some (s.accessError .host addr)
      | some g =>
        if s.itemsBad g bytes inc addr (w :: t) then none else some (s.hostPutItems g bytes inc addr (w :: t))

/-- A frame that is a host mistake by itself: a reserved SIZE, a misaligned address, a register frame of another size
than a word (R36, R49, R559). -/
def frameBad (size : BitVec 2) (addr : Nat) : Bool :=
  size == 3 || addr % 2 ^ size.toNat != 0 || ((busReg? addr).isSome && size != 2)

end State

/-- HOST_PORT_READ (R546 to R548). -/
def execHostPortRead (size : BitVec 2) (inc : Bool) (addr : Word) (n : Nat) (ecc : List Ecc) (s : State) :
    Host.Outcome State Fault Refusal :=
  if s.mode = .off then .next s
  else if State.frameBad size addr.toNat then .fault .hostMistake
  else .next (s.hostRead (2 ^ size.toNat) inc addr.toNat n ecc)

/-- HOST_PORT_WRITE (R546 to R549). -/
def execHostPortWrite (size : BitVec 2) (inc : Bool) (addr : Word) (items : List Word) (s : State) :
    Host.Outcome State Fault Refusal :=
  if s.mode = .off then .next s
  else if State.frameBad size addr.toNat then .fault .hostMistake
  else orMistake (s.hostWrite (2 ^ size.toNat) inc addr.toNat items)

/-- HOST_PORT_BAD_COMMAND (R546): the frame is ignored. -/
def execHostPortBadCommand (s : State) : Host.Outcome State Fault Refusal :=
  .next (if s.mode = .off then s else s.raise R.HPT_STAT F.HPT_STAT_BADCMD)

end Sys2Proof.Machine
end

