-- ==== Sys2Proof/Machine/Dispatch.lean ====
section
/-!
DEFINITION. The meaning of a command on everything but the queue of waiting commands: one arm per constructor.
-/

namespace Sys2Proof.Machine

/-- A command's effect (R7 to R579), each by its own meaning. -/
def exec (i : Instr) (s : State) : Host.Outcome State Fault Refusal :=
  match i with
  | .registerWrite m addr value => Sys2Proof.Machine.execRegisterWrite m addr value s
  | .resultPortRead m addr kind ecc => Sys2Proof.Machine.execResultPortRead m addr kind ecc s
  | .queueFlush q => Sys2Proof.Machine.execQueueFlush q s
  | .sampleBoundary c0 c1 c2 c3 => Sys2Proof.Machine.execSampleBoundary c0 c1 c2 c3 s
  | .sysSmplWrite m value => Sys2Proof.Machine.execSysSmplWrite m value s
  | .controlPhase => Sys2Proof.Machine.execControlPhase s
  | .clockFault k => Sys2Proof.Machine.execClockFault k s
  | .modeRequest m tgt => Sys2Proof.Machine.execModeRequest m tgt s
  | .lockoutRequest m => Sys2Proof.Machine.execLockoutRequest m s
  | .transitionTimeout => Sys2Proof.Machine.execTransitionTimeout s
  | .lockoutSequence => Sys2Proof.Machine.execLockoutSequence s
  | .wake w b => Sys2Proof.Machine.execWake w b s
  | .powerOn b => Sys2Proof.Machine.execPowerOn b s
  | .sleepEntryEnd b => Sys2Proof.Machine.execSleepEntryEnd b s
  | .vinLow => Sys2Proof.Machine.execVinLow s
  | .vinHigh => Sys2Proof.Machine.execVinHigh s
  | .overVoltage => Sys2Proof.Machine.execOverVoltage s
  | .brownOut b => Sys2Proof.Machine.execBrownOut b s
  | .railFault rail => Sys2Proof.Machine.execRailFault rail s
  | .nreset b => Sys2Proof.Machine.execNreset b s
  | .engineStart mask => Sys2Proof.Machine.execEngineStart mask s
  | .engineStop mask => Sys2Proof.Machine.execEngineStop mask s
  | .swapRequest e atRest => Sys2Proof.Machine.execSwapRequest e atRest s
  | .swapCancel e => Sys2Proof.Machine.execSwapCancel e s
  | .eventLatchClear e k mask => Sys2Proof.Machine.execEventLatchClear e k mask s
  | .debugHalt c => Sys2Proof.Machine.execDebugHalt c s
  | .debugResume c trace dpc => Sys2Proof.Machine.execDebugResume c trace dpc s
  | .halt e => Sys2Proof.Machine.execHalt e s
  | .mov e vd vs => Sys2Proof.Machine.execMov e vd vs s
  | .ldi e vd v => Sys2Proof.Machine.execLdi e vd v s
  | .alu e vd va fn b => Sys2Proof.Machine.execAlu e vd va fn b s
  | .ldu e vd blk ofs => Sys2Proof.Machine.execLdu e vd blk ofs s
  | .stu e v g blk ofs => Sys2Proof.Machine.execStu e v g blk ofs s
  | .ldt e vd va wofs => Sys2Proof.Machine.execLdt e vd va wofs s
  | .commit e w tmo => Sys2Proof.Machine.execCommit e w tmo s
  | .commitComplete e => Sys2Proof.Machine.execCommitComplete e s
  | .wtm e t => Sys2Proof.Machine.execWtm e t s
  | .wsm e cnt ofs tmo => Sys2Proof.Machine.execWsm e cnt ofs tmo s
  | .wps e reverse vs axis tmo => Sys2Proof.Machine.execWps e reverse vs axis tmo s
  | .wtr e reverse vs axis tmo => Sys2Proof.Machine.execWtr e reverse vs axis tmo s
  | .wev e src tmo => Sys2Proof.Machine.execWev e src tmo s
  | .waitComplete e => Sys2Proof.Machine.execWaitComplete e s
  | .waitTimeout e => Sys2Proof.Machine.execWaitTimeout e s
  | .jev e clear ifClear src disp => Sys2Proof.Machine.execJev e clear ifClear src disp s
  | .jmd e ifClear mask disp => Sys2Proof.Machine.execJmd e ifClear mask disp s
  | .jmp e addr => Sys2Proof.Machine.execJmp e addr s
  | .call e addr => Sys2Proof.Machine.execCall e addr s
  | .ret e => Sys2Proof.Machine.execRet e s
  | .loop e cnt => Sys2Proof.Machine.execLoop e cnt s
  | .endl e leave => Sys2Proof.Machine.execEndl e leave s
  | .gate e va vb vc rel => Sys2Proof.Machine.execGate e va vb vc rel s
  | .send e p va widx ses => Sys2Proof.Machine.execSend e p va widx ses s
  | .sig e val => Sys2Proof.Machine.execSig e val s
  | .mreq e tgt => Sys2Proof.Machine.execMreq e tgt s
  | .acqSoftwareTrigger k => Sys2Proof.Machine.execAcqSoftwareTrigger k s
  | .conversionComplete k code => Sys2Proof.Machine.execConversionComplete k code s
  | .channelReturn n => Sys2Proof.Machine.execChannelReturn n s
  | .resolverCheck r amp terr angle speed => Sys2Proof.Machine.execResolverCheck r amp terr angle speed s
  | .encoderEdge k a b t => Sys2Proof.Machine.execEncoderEdge k a b t s
  | .encoderIndex k rising => Sys2Proof.Machine.execEncoderIndex k rising s
  | .hallChange g code t => Sys2Proof.Machine.execHallChange g code t s
  | .ssiFrame port raw lineHigh t => Sys2Proof.Machine.execSsiFrame port raw lineHigh t s
  | .axisReturn a => Sys2Proof.Machine.execAxisReturn a s
  | .axisTimeout a => Sys2Proof.Machine.execAxisTimeout a s
  | .travelUpdate => Sys2Proof.Machine.execTravelUpdate s
  | .travelAdjust value => Sys2Proof.Machine.execTravelAdjust value s
  | .probeEdge p rising fine => Sys2Proof.Machine.execProbeEdge p rising fine s
  | .emulationEdge m => Sys2Proof.Machine.execEmulationEdge m s
  | .commandPadEdge p period high => Sys2Proof.Machine.execCommandPadEdge p period high s
  | .commandPadTimeout p => Sys2Proof.Machine.execCommandPadTimeout p s
  | .captureStart m value => Sys2Proof.Machine.execCaptureStart m value s
  | .captureEnd => Sys2Proof.Machine.execCaptureEnd s
  | .slotReset n => Sys2Proof.Machine.execSlotReset n s
  | .slotAltA n => Sys2Proof.Machine.execSlotAltA n s
  | .slotAltB n => Sys2Proof.Machine.execSlotAltB n s
  | .timebaseStart mask => Sys2Proof.Machine.execTimebaseStart mask s
  | .timebaseStop mask => Sys2Proof.Machine.execTimebaseStop mask s
  | .timebaseReload t => Sys2Proof.Machine.execTimebaseReload t s
  | .timebasePeak t => Sys2Proof.Machine.execTimebasePeak t s
  | .legCompareEdge n p => Sys2Proof.Machine.execLegCompareEdge n p s
  | .deadTimeExpiry n => Sys2Proof.Machine.execDeadTimeExpiry n s
  | .tripInput k level => Sys2Proof.Machine.execTripInput k level s
  | .tripClear mask => Sys2Proof.Machine.execTripClear mask s
  | .tdTick x => Sys2Proof.Machine.execTdTick x s
  | .tdInput x tint ton toff => Sys2Proof.Machine.execTdInput x tint ton toff s
  | .tdDecisionComplete x => Sys2Proof.Machine.execTdDecisionComplete x s
  | .desaturationDetection j w => Sys2Proof.Machine.execDesaturationDetection j w s
  | .shuntDetection c above => Sys2Proof.Machine.execShuntDetection c above s
  | .faultLineDetection n active => Sys2Proof.Machine.execFaultLineDetection n active s
  | .blankingExpiry j w => Sys2Proof.Machine.execBlankingExpiry j w s
  | .softTurnOffEnd j => Sys2Proof.Machine.execSoftTurnOffEnd j s
  | .coolOffEnd n => Sys2Proof.Machine.execCoolOffEnd n s
  | .watchEnd n => Sys2Proof.Machine.execWatchEnd n s
  | .legClear m leg => Sys2Proof.Machine.execLegClear m leg s
  | .driverSupplyDip r => Sys2Proof.Machine.execDriverSupplyDip r s
  | .driverSupplyRecovery => Sys2Proof.Machine.execDriverSupplyRecovery s
  | .driverSupplyDipExpiry => Sys2Proof.Machine.execDriverSupplyDipExpiry s
  | .enableBlankExpiry x => Sys2Proof.Machine.execEnableBlankExpiry x s
  | .actStop d => Sys2Proof.Machine.execActStop d s
  | .actMove d tgt => Sys2Proof.Machine.execActMove d tgt s
  | .actSpeed d pad => Sys2Proof.Machine.execActSpeed d pad s
  | .actProbePulseEnd d => Sys2Proof.Machine.execActProbePulseEnd d s
  | .actRampEnd d obs => Sys2Proof.Machine.execActRampEnd d obs s
  | .actCommutation d obs eang => Sys2Proof.Machine.execActCommutation d obs eang s
  | .actLockedRotor d => Sys2Proof.Machine.execActLockedRotor d s
  | .actRetryDelayExpiry d => Sys2Proof.Machine.execActRetryDelayExpiry d s
  | .actLastingClear d => Sys2Proof.Machine.execActLastingClear d s
  | .nudgeStart x n => Sys2Proof.Machine.execNudgeStart x n s
  | .enpStart m => Sys2Proof.Machine.execEnpStart m s
  | .enpStop m => Sys2Proof.Machine.execEnpStop m s
  | .enpRestart m => Sys2Proof.Machine.execEnpRestart m s
  | .enpWatch half v vpp freq => Sys2Proof.Machine.execEnpWatch half v vpp freq s
  | .pilotStateChange hz duty upper lower => Sys2Proof.Machine.execPilotStateChange hz duty upper lower s
  | .proximityChange res => Sys2Proof.Machine.execProximityChange res s
  | .mainsQualified => Sys2Proof.Machine.execMainsQualified s
  | .qualifyExpiry => Sys2Proof.Machine.execQualifyExpiry s
  | .relayConfirmed level => Sys2Proof.Machine.execRelayConfirmed level s
  | .mainsQualifyTimeout => Sys2Proof.Machine.execMainsQualifyTimeout s
  | .prechargeTimeout => Sys2Proof.Machine.execPrechargeTimeout s
  | .relayConfirmTimeout => Sys2Proof.Machine.execRelayConfirmTimeout s
  | .enpRetryDelayExpiry => Sys2Proof.Machine.execEnpRetryDelayExpiry s
  | .bmsMessage m value => Sys2Proof.Machine.execBmsMessage m value s
  | .bmsFreshnessTimeout => Sys2Proof.Machine.execBmsFreshnessTimeout s
  | .busHoldRestart => Sys2Proof.Machine.execBusHoldRestart s
  | .holdoffEnd => Sys2Proof.Machine.execHoldoffEnd s
  | .pilotZeroTimeout => Sys2Proof.Machine.execPilotZeroTimeout s
  | .inputCurrentCollapse => Sys2Proof.Machine.execInputCurrentCollapse s
  | .stopCurrentFall => Sys2Proof.Machine.execStopCurrentFall s
  | .exportOvercurrent => Sys2Proof.Machine.execExportOvercurrent s
  | .budgetTick => Sys2Proof.Machine.execBudgetTick s
  | .budgetTimeout port => Sys2Proof.Machine.execBudgetTimeout port s
  | .budgetFirmwareRequest f cls => Sys2Proof.Machine.execBudgetFirmwareRequest f cls s
  | .budgetFirmwareWithdraw f => Sys2Proof.Machine.execBudgetFirmwareWithdraw f s
  | .auxStart m => Sys2Proof.Machine.execAuxStart m s
  | .auxStop m => Sys2Proof.Machine.execAuxStop m s
  | .auxHoldoffExpiry => Sys2Proof.Machine.execAuxHoldoffExpiry s
  | .thermalUpdate pmod substrate => Sys2Proof.Machine.execThermalUpdate pmod substrate s
  | .gateAppend m sec rel => Sys2Proof.Machine.execGateAppend m sec rel s
  | .courseFlush sec => Sys2Proof.Machine.execCourseFlush sec s
  | .gateEvaluation => Sys2Proof.Machine.execGateEvaluation s
  | .haltRepeat => Sys2Proof.Machine.execHaltRepeat s
  | .conf f => Sys2Proof.Machine.execConf f s
  | .done f => Sys2Proof.Machine.execDone f s
  | .confTimeout sec => Sys2Proof.Machine.execConfTimeout sec s
  | .doneTimeout sec => Sys2Proof.Machine.execDoneTimeout sec s
  | .canFrameReceived c f sof => Sys2Proof.Machine.execCanFrameReceived c f sof s
  | .canFrameSent c b => Sys2Proof.Machine.execCanFrameSent c b s
  | .canError c step b pxe => Sys2Proof.Machine.execCanError c step b pxe s
  | .busOffRecoveryEnd c => Sys2Proof.Machine.execBusOffRecoveryEnd c s
  | .recoveryRequest c => Sys2Proof.Machine.execRecoveryRequest c s
  | .txqPush c word => Sys2Proof.Machine.execTxqPush c word s
  | .txCancel c mask => Sys2Proof.Machine.execTxCancel c mask s
  | .referenceMessageDue => Sys2Proof.Machine.execReferenceMessageDue s
  | .referenceSilenceTimeout => Sys2Proof.Machine.execReferenceSilenceTimeout s
  | .timeMasterWrite value => Sys2Proof.Machine.execTimeMasterWrite value s
  | .ethFrameReceived p f => Sys2Proof.Machine.execEthFrameReceived p f s
  | .ethTxgo p => Sys2Proof.Machine.execEthTxgo p s
  | .ethFrameSent p ns8 sfd => Sys2Proof.Machine.execEthFrameSent p ns8 sfd s
  | .ethLinkChange p up spd100 => Sys2Proof.Machine.execEthLinkChange p up spd100 s
  | .ethSpeedFallback p => Sys2Proof.Machine.execEthSpeedFallback p s
  | .cnvStart ses => Sys2Proof.Machine.execCnvStart ses s
  | .cnvAbort ses => Sys2Proof.Machine.execCnvAbort ses s
  | .cnvRelease ses => Sys2Proof.Machine.execCnvRelease ses s
  | .rts c peer etp size maxPkts pgn => Sys2Proof.Machine.execRts c peer etp size maxPkts pgn s
  | .cts c peer etp count next pgn => Sys2Proof.Machine.execCts c peer etp count next pgn s
  | .eoma c peer etp size pkts pgn => Sys2Proof.Machine.execEoma c peer etp size pkts pgn s
  | .bam c peer size pgn => Sys2Proof.Machine.execBam c peer size pgn s
  | .tpAbort c peer etp reason pgn => Sys2Proof.Machine.execTpAbort c peer etp reason pgn s
  | .dataFrame c peer global etp seq data => Sys2Proof.Machine.execDataFrame c peer global etp seq data s
  | .dpo c peer count offset pgn => Sys2Proof.Machine.execDpo c peer count offset pgn s
  | .transportTimerExpiry ses => Sys2Proof.Machine.execTransportTimerExpiry ses s
  | .cts0Repeat ses => Sys2Proof.Machine.execCts0Repeat ses s
  | .bamGapExpiry ses => Sys2Proof.Machine.execBamGapExpiry ses s
  | .addressChange c addr => Sys2Proof.Machine.execAddressChange c addr s
  | .cnvEnable => Sys2Proof.Machine.execCnvEnable s
  | .cnvDisable => Sys2Proof.Machine.execCnvDisable s
  | .laneTrained k => Sys2Proof.Machine.execLaneTrained k s
  | .ident uid0 uid1 role accepts => Sys2Proof.Machine.execIdent uid0 uid1 role accepts s
  | .timingSymbol err leadTime leadSub => Sys2Proof.Machine.execTimingSymbol err leadTime leadSub s
  | .heartbeat h => Sys2Proof.Machine.execHeartbeat h s
  | .agree items => Sys2Proof.Machine.execAgree items s
  | .agreeMiss => Sys2Proof.Machine.execAgreeMiss s
  | .dec x d => Sys2Proof.Machine.execDec x d s
  | .snap segment data ok => Sys2Proof.Machine.execSnap segment data ok s
  | .sigFrame win sig => Sys2Proof.Machine.execSigFrame win sig s
  | .budgetFrame port cls outcome => Sys2Proof.Machine.execBudgetFrame port cls outcome s
  | .laneFailure k => Sys2Proof.Machine.execLaneFailure k s
  | .laneClear m mask => Sys2Proof.Machine.execLaneClear m mask s
  | .heartbeatMiss aliveHigh => Sys2Proof.Machine.execHeartbeatMiss aliveHigh s
  | .snapshotCapture => Sys2Proof.Machine.execSnapshotCapture s
  | .snapshotClose => Sys2Proof.Machine.execSnapshotClose s
  | .safetyScan j => Sys2Proof.Machine.execSafetyScan j s
  | .controlledStopDeadline => Sys2Proof.Machine.execControlledStopDeadline s
  | .safetySignatureWindow sig0 sig1 rep0 rep1 => Sys2Proof.Machine.execSafetySignatureWindow sig0 sig1 rep0 rep1 s
  | .safetyInputChange k a b => Sys2Proof.Machine.execSafetyInputChange k a b s
  | .tumblerTimeout k => Sys2Proof.Machine.execTumblerTimeout k s
  | .outputOnStep j => Sys2Proof.Machine.execOutputOnStep j s
  | .outputReadbackTimeout j => Sys2Proof.Machine.execOutputReadbackTimeout j s
  | .offPulse j fell => Sys2Proof.Machine.execOffPulse j fell s
  | .resetRelease hold clkNow railsOk vinOk b => Sys2Proof.Machine.execResetRelease hold clkNow railsOk vinOk b s
  | .presenceWindowExpiry => Sys2Proof.Machine.execPresenceWindowExpiry s
  | .safetyLoad m => Sys2Proof.Machine.execSafetyLoad m s
  | .safetyLoadComplete => Sys2Proof.Machine.execSafetyLoadComplete s
  | .safetyConfirm m => Sys2Proof.Machine.execSafetyConfirm m s
  | .safetyDiscard m => Sys2Proof.Machine.execSafetyDiscard m s
  | .eventDelivery c => Sys2Proof.Machine.execEventDelivery c s
  | .mret c => Sys2Proof.Machine.execMret c s
  | .eventPendingClear k mask => Sys2Proof.Machine.execEventPendingClear k mask s
  | .groupHoldoffExpiry g => Sys2Proof.Machine.execGroupHoldoffExpiry g s
  | .coreRelease mask => Sys2Proof.Machine.execCoreRelease mask s
  | .flashProgram m key => Sys2Proof.Machine.execFlashProgram m key s
  | .flashErase m key => Sys2Proof.Machine.execFlashErase m key s
  | .flashOperationComplete verified => Sys2Proof.Machine.execFlashOperationComplete verified s
  | .hostPortRead size inc addr n ecc => Sys2Proof.Machine.execHostPortRead size inc addr n ecc s
  | .hostPortWrite size inc addr items => Sys2Proof.Machine.execHostPortWrite size inc addr items s
  | .hostPortBadCommand => Sys2Proof.Machine.execHostPortBadCommand s
  | .doorbell mask => Sys2Proof.Machine.execDoorbell mask s
  | .irqSet mask => Sys2Proof.Machine.execIrqSet mask s
  | .canStartOfFrame c b => Sys2Proof.Machine.execCanStartOfFrame c b s
  | .arbitrationLoss c b => Sys2Proof.Machine.execArbitrationLoss c b s
  | .singleShuntSamplingPoint d => Sys2Proof.Machine.execSingleShuntSamplingPoint d s
  | .probeDecayEnd d => Sys2Proof.Machine.execProbeDecayEnd d s
  | .synchronousException c => Sys2Proof.Machine.execSynchronousException c s

end Sys2Proof.Machine
end

