-- ==== Sys2Proof/Machine/Tick.lean ====
section
/-!
DEFINITION. The clock of the block: what a CORE clock does while no command waits (log entry 2). Network time counts
(R435), the conversation engine's bulk path takes the received data frames (R467), waits are tested (R101), and each schedule
engine fetches, decodes and issues what its program holds (R90, R122 to R125). The effects of the other clock domains come as commands of their own.
-/

namespace Sys2Proof.Machine

/-! ### Cycle counts (R124, R125) -/

/-- The CORE clocks from an instruction's issue to the next instruction's where it does not wait; a COMMIT with W = 1
and the waits that complete at once take two. -/
def cycles (i : Instr) (s : State) : Nat :=
  match i with
  | .ldu _ _ _ _ => 3
  | .ldt _ _ _ _ | .jmp _ _ | .call _ _ | .ret _ | .gate _ _ _ _ _ | .send _ _ _ _ _ | .mreq _ _ => 2
  | .wtm _ _ | .wsm _ _ _ _ | .wps _ _ _ _ _ | .wtr _ _ _ _ _ | .wev _ _ _ => 2
  | .commit _ w _ => if w then 2 else 1
  | .jev e _ ifClear src _ => if s.jevTaken e ifClear src then 2 else 1
  | .jmd _ ifClear mask _ => if s.jmdTaken ifClear mask then 2 else 1
  | .endl e leave =>
    match (s.engine e).loops with
    | (n, _) :: _ => if leave || decide (n ≤ 1) then 1 else 2
    | [] => 1
  | _ => 1

/-- What the engines' turns in one CORE clock leave for its end: the sources that fired, which the latches show from the
next clock on (R103), and the engines that the stores of engines start or stop, which act in the next clock (R106, R107). -/
structure TurnsLeft where
  fired : BitVec 256
  start : BitVec 8
  stop : BitVec 8
  deriving DecidableEq, Repr

/-- `f` on the next state of an outcome. -/
def andThen {σ τ : Type} (o : Host.Outcome σ Fault Refusal) (f : σ → Host.Outcome τ Fault Refusal) :
    Host.Outcome τ Fault Refusal :=
  match o with
  | .next s => f s
  | .fault r => .fault r
  | .refused r => .refused r

namespace State

/-! ### The clock -/

/-- `mcycle` counts the CORE clock, and network time one µs every 250 of them; its carry goes to the upper half of the cores'
time (R435, R532). -/
def timeTick (s : State) : State :=
  let s := s.modClk fun c => { c with cycles := c.cycles + 1 }
  if 249 ≤ s.clk.coreSub then
    (s.modClk fun c => { c with coreSub := 0, timeHigh := if s.now + 1 = 0 then c.timeHigh + 1 else c.timeHigh }).setReg
      R.NET_TIME (s.now + 1)
  else s.modClk fun c => { c with coreSub := c.coreSub + 1 }

/-- The word of schedule memory at word address `a`. -/
def schedWord (s : State) (a : Nat) : Word := s.word (0x21000000 + 4 * a)

/-- What engine `e`'s issue leaves in its clock: an instruction of `n` clocks completes in the last of them (R124), and a
wait is tested (R101). -/
def issueClock (e : Fin 8) (n : Nat) : Issued → State
  | .done t => t
  | .ends t f => if n ≤ 1 then t.finish e f else t.modEngine e fun x => { x with ending := some (.instr f), busy := n - 2 }
  | .waits t => t.waitNote e

/-- The instruction at engine `e`'s program counter. -/
def fetched (s : State) (e : Fin 8) : Option Instr :=
  decodeSched e (s.schedWord (s.engine e).pc) (s.schedWord ((s.engine e).pc + 1))

/-- A tick of engine `e`, which issues: the word at its program counter is run. A load of a register sees it as `seen`, the
clock's beginning, has it (R92), and a mode request that reaches step 7 of R55 turns away the others of its clock (R54). -/
def engineIssue (s seen : State) (e : Fin 8) : Host.Outcome State Fault Refusal :=
  if seqWords ≤ (s.engine e).pc then .next (s.seqFault e 4)
  else
    match s.fetched e with
    | none => .fault .hostMistake
    | some i =>
      match seqAct i seen s with
      | none => .fault .hostMistake
      | some r =>
        let took := s.mod.took || (match i with | .mreq _ tgt => s.reqReaches tgt.toNat | _ => false)
        .next ((issueClock e (cycles i s) r).modMod fun m => { m with took := took })

/-- A CORE clock of engine `e`: what it has under way goes on or completes, its wait is tested, or it issues (R90, R101,
R124), a commit whose commit points have passed completes (R95); a frozen engine stands still, and its timeout counts (R111). -/
def engineTick (s seen : State) (e : Fin 8) : Host.Outcome State Fault Refusal :=
  let x := s.engine e
  if x.frozen then .next (s.waitFrozen e)
  else
    match x.ending with
    | some (.instr f) =>
      match x.busy with
      | 0 => .next (s.finish e f)
      | n + 1 => .next (s.modEngine e fun x => { x with busy := n })
    | some .waitOk => .next (s.waitOk e)
    | some .waitLate => .next (s.waitLate e)
    | none =>
      if s.testing e then
        .next (match (s.engine e).wait with
          | .commit [] _ => s.waitOk e
          | .commit (_ :: _) _ | .none | .time _ | .sample _ _ _ | .position _ _ _ | .travel _ _ _ | .event _ => s.waitNote e)
      else if s.issuing e then s.engineIssue seen e else .next s

/-- Engine `y`, in another engine's turn, keeps its latch for the end of the clock, and does not start or stop before it. -/
def turnKeeps (was now : Engine) : Engine :=
  if (now.state = .stopped && was.state ≠ .stopped) || (now.state = .running && was.state ≠ .running && was.state ≠ .waiting) then was
  else { now with evl := was.evl }

/-- The engines that a write of `w` to register `r` asks to start and to stop (R106, R107). -/
def goOrders (r : Nat) (w : Word) : BitVec 8 × BitVec 8 :=
  if r = R.SEQ_GO then (w.extractLsb' 0 8, w.extractLsb' 8 8)
  else
    match regAt? (r % 0x10000) 0x100 0x100 8 with
    | some k =>
      if r = R.SEQ_CTL k then (BitVec.ofNat 8 (Word.ofBool (w.bit 0) * 2 ^ k), BitVec.ofNat 8 (Word.ofBool (w.bit 1) * 2 ^ k)) else (0, 0)
    | none => (0, 0)

/-- The starts and stops that engine `e` orders in a clock in which it issues: by a store, or by the staged stores of a
commit. -/
def turnOrders (s : State) (e : Fin 8) : BitVec 8 × BitVec 8 :=
  if !s.issuing e then (0, 0)
  else
    match s.fetched e with
    | some (.stu _ v false blk ofs) => goOrders (unitReg blk ofs) (s.regExt e v)
    | some (.commit _ _ _) =>
      (s.engine e).staging.foldl (fun p q => (p.1 ||| (goOrders q.1 q.2).1, p.2 ||| (goOrders q.1 q.2).2)) (0, 0)
    | _ => (0, 0)

/-- What engine `e`'s turn leaves: `s` stands before it with its own latch alone, `t` after it. -/
def turnLeaves (was t : State) (e : Fin 8) (q : TurnsLeft) : State × TurnsLeft :=
  let others := (List.finRange 8).filter (· ≠ e)
  let go := was.turnOrders e
  ({ t with seq := Vector.ofFn fun y => if y = e then t.engine e else turnKeeps (was.engine y) (t.engine y) },
    { fired := others.foldl (fun b y => b ||| (t.engine y).evl) q.fired
      start := q.start ||| go.1
      stop := q.stop ||| go.2 })

/-- Engine `e`'s turn in a CORE clock: it sees its own latch as the clock found it. A turn that leaves no engine running, by a
reset, ends the clock. -/
def engineTurn (seen : State) (p : State × TurnsLeft) (e : Fin 8) : Host.Outcome (State × TurnsLeft) Fault Refusal :=
  let (s, q) := p
  if !s.up then .next p
  else
    let alone : State := { s with seq := Vector.ofFn fun y => if y = e then s.engine e else { s.engine y with evl := 0 } }
    andThen (alone.engineTick seen e) fun t => .next (if t.up then turnLeaves s t e q else (t, q))

/-- The end of a CORE clock: the engines ordered to start and to stop do, a stop winning over a start, and the latches
take what has fired (R103, R106, R107). -/
def turnsEnd (p : State × TurnsLeft) : State :=
  let s := p.1.modMod fun m => { m with took := false }
  if s.up then (s.seqGo p.2.start.toNat p.2.stop.toNat).latchAll p.2.fired else s

/-- A CORE clock: nothing without the clock (R34) or in OFF (R65). -/
def tick (s : State) : Host.Outcome State Fault Refusal :=
  if s.clk.clocked && s.clk.started && s.mode != .off then
    let s := s.timeTick.bulkTick
    andThen ((List.finRange 8).foldl (fun o e => andThen o fun p => engineTurn s p e) (.next (s, ⟨0, 0, 0⟩)))
      fun p => .next (turnsEnd p)
  else .next s

end State

end Sys2Proof.Machine
end

