-- ==== Sys2Proof/Frame.lean ====
section
/-!
DEFINITION. The terms in which the statements say what a command leaves alone, which event sources it fires, and what it
answers.
-/

namespace Sys2Proof.Machine

/-- The parts of the state beside the registers, memory and the queue of commands. The events pending in the controller and the
engines' event latches are told apart from the rest of those units, since many commands fire sources. -/
inductive Comp where
  | variant | shadow | cleShadow | mod | clk | engines | latches | cores | pending | flash | bus | acq | pos | cle | wfu
  | gdp | tdu | budget | act | aux | enp | th | gte | net | cnv | twn | saf | free
  deriving DecidableEq, Repr

/-- A part of the state reads the same in `s` and `t`. -/
def Comp.same (s t : State) : Comp → Prop
  | .variant => t.variant = s.variant
  | .shadow => t.shadow = s.shadow
  | .cleShadow => t.cleShadow = s.cleShadow
  | .mod => t.mod = s.mod
  | .clk => t.clk = s.clk
  | .engines => ∀ e : Fin 8, { t.engine e with evl := 0 } = { s.engine e with evl := 0 }
  | .latches => ∀ e : Fin 8, (t.engine e).evl = (s.engine e).evl
  | .cores => { t.evt with pend := 0 } = { s.evt with pend := 0 }
  | .pending => t.evt.pend = s.evt.pend
  | .flash => t.flash = s.flash
  | .bus => t.bus = s.bus
  | .acq => t.acq = s.acq
  | .pos => t.pos = s.pos
  | .cle => t.cle = s.cle
  | .wfu => t.wfu = s.wfu
  | .gdp => t.gdp = s.gdp
  | .tdu => t.tdu = s.tdu
  | .budget => t.budget = s.budget
  | .act => t.act = s.act
  | .aux => t.aux = s.aux
  | .enp => t.enp = s.enp
  | .th => t.th = s.th
  | .gte => t.gte = s.gte
  | .net => t.net = s.net
  | .cnv => t.cnv = s.cnv
  | .twn => t.twn = s.twn
  | .saf => t.saf = s.saf
  | .free => t.freeCount = s.freeCount

namespace State

/-- `t` is `s` but for the registers and the parts named: the queue of commands, every other register, every byte of memory and
every other part read as before. -/
def sameBut (s t : State) (regs : List Nat) (parts : List Comp) : Prop :=
  t.pending = s.pending ∧ (∀ r, r ∉ regs → t.reg r = s.reg r) ∧ (∀ a, t.byte a = s.byte a)
    ∧ ∀ c, c ∉ parts → c.same s t

/-- `t` is `s` but for the registers, the parts and the bytes of memory told by these: every other register and byte, every
other part and the queue of commands read as before. -/
def leaves (s t : State) (regs : Nat → Prop) (parts : List Comp) (bytes : Nat → Prop) : Prop :=
  t.pending = s.pending ∧ (∀ r, ¬ regs r → t.reg r = s.reg r) ∧ (∀ a, ¬ bytes a → t.byte a = s.byte a)
    ∧ ∀ c, c ∉ parts → c.same s t

/-- The sources of `l` fire, and no others: each becomes pending and, but in OFF and BOOT, sets its bit in every engine's latch (R103,
R110, R538). -/
def fires (s t : State) (l : List Nat) : Prop :=
  (∀ n, n < 256 → t.evt.pend.getLsbD n = (s.evt.pend.getLsbD n || l.contains n))
    ∧ ∀ (e : Fin 8) (n : Nat), n < 256 → (t.engine e).evl.getLsbD n = ((s.engine e).evl.getLsbD n || (s.up && l.contains n))

/-- The instruction of opcode `op` of engine `e` completes with OK: its opcode and status are recorded (R104, R117), the engine
is `x` after it with nothing under way, every other engine stands, and beside `SEQ_En_LAST` only the registers named change. -/
def engineOk (s t : State) (e : Fin 8) (op : Nat) (x : Engine) (regs : List Nat) : Prop :=
  t.engine e = { x with ending := none, busy := 0 } ∧ (∀ y, y ≠ e → t.engine y = s.engine y)
    ∧ t.fld (R.SEQ_LAST e.val) F.SEQ_LAST_OPCODE = op ∧ t.fld (R.SEQ_LAST e.val) F.SEQ_LAST_STATUS = 0
    ∧ t.fld (R.SEQ_LAST e.val) F.SEQ_LAST_SIGVAL = s.fld (R.SEQ_LAST e.val) F.SEQ_LAST_SIGVAL
    ∧ s.sameBut t (R.SEQ_LAST e.val :: regs) [.engines, .latches]

/-- The instruction of opcode `op` of engine `e` completes with status `st`, one of the last row of R104: opcode and status are
recorded, the first such completion is kept with its word address, EXCCNT counts, source 35 + 4n fires, and the engine goes on at
`pc`; beside these only the registers named change. -/
def engineExcept (s t : State) (e : Fin 8) (op : Nat) (st : Status) (pc : Nat) (regs : List Nat) : Prop :=
  (t.engine e).pc = pc ∧ (t.engine e).state = .running
    ∧ t.fld (R.SEQ_LAST e.val) F.SEQ_LAST_OPCODE = op ∧ t.fld (R.SEQ_LAST e.val) F.SEQ_LAST_STATUS = st.code
    ∧ t.bit (R.SEQ_EXC e.val) F.SEQ_EXC_EXC = true
    ∧ (if s.bit (R.SEQ_EXC e.val) F.SEQ_EXC_EXC = true then t.reg (R.SEQ_EXC e.val) = s.reg (R.SEQ_EXC e.val)
       else t.fld (R.SEQ_EXC e.val) F.SEQ_EXC_OPCODE = op ∧ t.fld (R.SEQ_EXC e.val) F.SEQ_EXC_STATUS = st.code
         ∧ t.fld (R.SEQ_EXC e.val) F.SEQ_EXC_ADDR = (s.engine e).pc % 131072)
    ∧ t.fld (R.SEQ_CNT e.val) F.SEQ_CNT_EXCCNT = min (s.fld (R.SEQ_CNT e.val) F.SEQ_CNT_EXCCNT + 1) 255
    ∧ s.fires t [35 + 4 * e.val]
    ∧ s.sameBut t (R.SEQ_LAST e.val :: R.SEQ_EXC e.val :: R.SEQ_CNT e.val :: regs) [.engines, .latches, .pending]

/-- Engine `e` becomes FAULTED with this cause: its staging buffer is discarded, its STOPPED event fires, and nothing else
changes (R109, R120). -/
def engineFaulted (s t : State) (e : Fin 8) (cause : Nat) : Prop :=
  { t.engine e with evl := 0 } = { s.engine e with state := .faulted, fault := cause, staging := [], evl := 0 }
    ∧ (∀ y, y ≠ e → { t.engine y with evl := 0 } = { s.engine y with evl := 0 })
    ∧ s.fires t [33 + 4 * e.val] ∧ s.sameBut t [] [.engines, .latches, .pending]

/-- Engine `e` waits for `w` at its instruction of opcode `op` and `len` words, with timeout `tmo`; nothing else changes (R98,
R99). -/
def engineWaits (s t : State) (e : Fin 8) (op len : Nat) (w : Wait) (tmo : Timeout) : Prop :=
  t.engine e =
      { s.engine e with
        state := .waiting, wait := w, waitOp := op, waitLen := len
        expires := match tmo with
          | some n => if n = 0 then none else some (s.reg R.NET_TIME + n.setWidth 32 + 1)
          | none => none
        late := false }
    ∧ (∀ y, y ≠ e → t.engine y = s.engine y) ∧ s.sameBut t [] [.engines]

/-- The status that master `m`'s last command gave it (R13). -/
def lastStatus (s : State) : Master → Status
  | .host => s.bus.hostStatus
  | .core0 => s.bus.core0Status
  | .core1 => s.bus.core1Status

/-- Master `m`'s last read gave it `w`. -/
def gave (s : State) (m : Master) (w : Word) : Prop :=
  match m with
  | .host => s.bus.hostData = [w] ∧ s.bus.hostResponse = 0
  | .core0 => s.bus.core0Data = w
  | .core1 => s.bus.core1Data = w

/-- The record, the count and the event source of the refusals that master `m` meets (R62, R63). -/
def refusalOf : Master → Nat × Nat × Nat
  | .host => (R.HPT_REF, R.HPT_REFCNT, 254)
  | .core0 => (R.MOD_REFAPP, R.MOD_REFCNT, 21)
  | .core1 => (R.MOD_REFAPP, R.MOD_REFCNT, 21)

/-- Master `m`'s access to register `r` is refused for the mode: its status is WRONG_MODE, the first refusal is kept with the
mode and the register, the count rises, the source fires, and nothing else changes (R62, R63). -/
def refusedFor (s t : State) (m : Master) (r : Nat) : Prop :=
  let p := refusalOf m
  t.lastStatus m = .wrongMode ∧ t.bit p.1 F.HPT_REF_REFUSED = true
    ∧ (if s.bit p.1 F.HPT_REF_REFUSED = true then t.reg p.1 = s.reg p.1
       else t.fld p.1 F.HPT_REF_MODE = s.mode.code ∧ t.fld p.1 F.HPT_REF_BLOCK = r / 65536 % 32
         ∧ t.fld p.1 F.HPT_REF_OFFSET = r % 65536 ∧ t.bit p.1 F.MOD_REFAPP_CORE = (m == .core1))
    ∧ t.fld p.2.1 F.HPT_REFCNT_COUNT = min (s.fld p.2.1 F.HPT_REFCNT_COUNT + 1) 255
    ∧ s.fires t [p.2.2] ∧ s.sameBut t [p.1, p.2.1] [.bus, .latches, .pending]

/-- The status that a mode request with target code `n`, other than LOCKOUT's, gets at once in the order of R55; none where it is
taken. -/
def judged (s : State) (n : Nat) : Option Status :=
  if (n = 7 ∨ n = 8) ∧ s.hasCharger = false then some .notPresent
  else if s.mod.lock ≠ .none then some .locked
  else
    match Mode.ofCode n with
    | none => some .outOfRange
    | some m =>
      if s.up = false ∨ (m ≠ s.mode ∧ (m ∉ s.mode.successors
          ∨ (s.fld R.SAF_STATE F.SAF_STATE_BLOCK = 0 ∧ m ∉ [Mode.idle, .commission, .off]))) then some .wrongMode
      else if s.mod.trans.isSome = true ∨ s.mod.took = true then some .busy
      else if m = s.mode then some .ok
      else if s.guardCode s.mode m ≠ 0 then some .outOfRange else none

/-- `MOD_REQSTAT` holds this record (R78). -/
def requestRecorded (t : State) (done : Bool) (src : ReqSource) (tgt guard : Nat) (st : Status) : Prop :=
  t.bit R.MOD_REQSTAT F.MOD_REQSTAT_DONE = done ∧ t.fld R.MOD_REQSTAT F.MOD_REQSTAT_SRC = src.code
    ∧ t.fld R.MOD_REQSTAT F.MOD_REQSTAT_ENG = src.eng ∧ t.fld R.MOD_REQSTAT F.MOD_REQSTAT_TGT = tgt
    ∧ t.fld R.MOD_REQSTAT F.MOD_REQSTAT_GUARD = guard ∧ t.fld R.MOD_REQSTAT F.MOD_REQSTAT_STATUS = st.code

/-- The registers in which a refusal or the outcome of a request is recorded (R62, R63, R78, R118). -/
def requestRegs : List Nat :=
  [R.MOD_REQSTAT, R.MOD_STAT, R.HPT_REF, R.HPT_REFCNT, R.MOD_REFAPP, R.MOD_REFCNT] ++ (List.range 8).map R.SEQ_REF
    ++ (List.range 8).map R.SEQ_CNT

/-- A safety fault is taken: the lock-out is pending or in force, in force where no controlled stop can precede it; the first
cause is kept with its detail and the cause's bit is set; a request in progress ends (R59, R73, R84, R517). -/
def lockedOut (s t : State) (cause detail : Nat) : Prop :=
  t.mod.lock ≠ .none ∧ (cause < 5 → t.mod.lock = .inForce) ∧ t.mode = s.mode ∧ (s.mod.lock = .none → t.mod.trans = none)
    ∧ t.bit R.MOD_LOCKCAUSE F.MOD_LOCKCAUSE_LATCHED = true ∧ (t.reg R.MOD_LOCKCAUSE).bit (15 + cause) = true
    ∧ (if s.bit R.MOD_LOCKCAUSE F.MOD_LOCKCAUSE_LATCHED = true then
        t.reg R.MOD_LOCKCAUSE = s.reg R.MOD_LOCKCAUSE ||| BitVec.ofNat 32 (2 ^ (15 + cause))
       else t.fld R.MOD_LOCKCAUSE F.MOD_LOCKCAUSE_CAUSE = cause ∧ t.fld R.MOD_LOCKCAUSE F.MOD_LOCKCAUSE_DETAIL = detail)

/-- The status of an append of the gate (`p`, `w`) to section `i`, in the order of R14 and R145. -/
def appendStatus (s : State) (i : Nat) (p w : Word) : Status :=
  let len := s.fld (R.GTE_SEC_CRS i) F.GTE_SEC_CRS_LEN
  let n := s.fld (R.GTE_SEC_PTR i) F.GTE_SEC_PTR_COUNT
  let last := s.word (0x25000000 + 8 * (s.fld (R.GTE_SEC_CRS i) F.GTE_SEC_CRS_BASE
    + (s.fld (R.GTE_SEC_PTR i) F.GTE_SEC_PTR_HEAD + (n - 1)) % len))
  if s.mod.lock = .inForce then .locked
  else if s.modePermits .sections = false ∨ (s.mode = .service ∧ s.bit (R.GTE_SEC_CFG i) F.GTE_SEC_CFG_TEST = false) then .wrongMode
  else if 0 < n ∧ (p - last).toInt ≤ 0 then .outOfRange
  else if len ≤ n then .busy
  else if s.gateDue i (p, w) = true then .late else .ok

/-- The gate (`p`, `w`) stands at the end of the course of section `i`, which is one longer; beside `regs` and the eight bytes of
the gate nothing else changes (R145, R397, R398). -/
def appended (s t : State) (i : Nat) (p w : Word) (regs : List Nat) (parts : List Comp) : Prop :=
  let n := s.fld (R.GTE_SEC_PTR i) F.GTE_SEC_PTR_COUNT
  let a := 0x25000000 + 8 * (s.fld (R.GTE_SEC_CRS i) F.GTE_SEC_CRS_BASE
    + (s.fld (R.GTE_SEC_PTR i) F.GTE_SEC_PTR_HEAD + n) % s.fld (R.GTE_SEC_CRS i) F.GTE_SEC_CRS_LEN)
  t.word a = p ∧ t.word (a + 4) = w ∧ t.fld (R.GTE_SEC_PTR i) F.GTE_SEC_PTR_COUNT = n + 1
    ∧ t.fld (R.GTE_SEC_PTR i) F.GTE_SEC_PTR_HEAD = s.fld (R.GTE_SEC_PTR i) F.GTE_SEC_PTR_HEAD
    ∧ s.leaves t (fun r => r = R.GTE_SEC_PTR i ∨ r ∈ regs) parts (fun b => a ≤ b ∧ b < a + 8)

/-- What a start of session `n` meets (R455, R470); `engine` for `send`. -/
def startJudged (s : State) (n : Nat) (engine : Bool) : Status :=
  let size := s.recBits n 3 19 0
  let da := s.recDa n
  let c := s.recCh n
  if s.recKind n ≠ 1 ∨ size = 0 ∨ s.recRoom n < size ∨ (da = 0xFF ∧ 1785 < size)
      ∨ s.bit (R.NET_CH_CFG c) F.NET_CH_CFG_EN = false ∨ (da ≠ 0xFF ∧ s.ownSa c = 0xFE)
      ∨ (engine = true ∧ s.recBits n 0 7 7 = 0) then .outOfRange
  else if s.recState n ≠ 0 ∨ s.recBits n 5 7 7 = 1 ∨ s.bit R.CNV_CFG F.CNV_CFG_QUIET = true then .busy
  else .ok

/-- Session `n` has started: its record says so, and its announcement or its one frame is on its way (R455, R456). -/
def sessionStarted (s t : State) (n : Nat) : Prop :=
  let size := s.recBits n 3 19 0
  let da := s.recDa n
  t.recProto n = (if size ≤ 8 then 0 else if 1785 < size then 3 else if da = 0xFF then 2 else 1)
    ∧ t.recState n = (if size ≤ 8 ∨ (da = 0xFF ∧ size ≤ 1785) then 2 else 1)
    ∧ t.recPeer n = da ∧ t.recSize n = size ∧ t.recNext n = 1 ∧ t.recEnd n = 0 ∧ t.ctx n 11 = s.reg R.NET_TIME
    ∧ t.recTimer n = (if size ≤ 8 then 5 else 1)

/-- Byte `a` belongs to the context record of session `n` (R450). -/
def inRecord (n a : Nat) : Prop := 0x23080000 + 64 * n ≤ a ∧ a < 0x23080000 + 64 * n + 64

/-- Register `r` belongs to the waveform unit, gate protection, the actuators, the energy path, the auxiliary converter, or shows a
degradation. -/
def powerReg (r : Nat) : Prop := r / 65536 ∈ [4, 6, 0xA, 0xB, 0xC] ∨ r = R.MOD_DEG

/-- The parts of the state that a leg's becoming available or unavailable reaches. -/
def powerParts : List Comp := [.wfu, .gdp, .act, .aux, .enp, .budget, .mod, .latches, .pending, .free]

/-- The steps of the hinge have begun, for an ending of this cause, status and next state; where the relays were open already they
have run to their end (R353, R356). -/
def hinged (t : State) (cause : Nat) (st : Status) (next : EnpPhase) : Prop :=
  t.enp.s2 = false ∧ t.enp.asked = false ∧ t.evt.pend.getLsbD 194 = true ∧ t.budgetWaits 6 = false ∧ t.budgetWaits 7 = false
    ∧ ((t.wfu.tb[t.enpTb true]).running = true → (t.wfu.tb[t.enpTb true]).stopping = true)
    ∧ ((t.enp.phase = .hinge ∧ t.enp.ending = ⟨cause, st, next⟩ ∧ t.enp.hinge ∈ [2, 3, 5])
      ∨ (t.enp.phase = next ∧ t.fld R.ENP_STATE F.ENP_STATE_CAUSE = cause ∧ t.fld R.ENP_STATE F.ENP_STATE_STATUS = st.code
        ∧ t.evt.pend.getLsbD 195 = true))

/-- A session has ended at once, with nothing energised (R356). -/
def sessionEnded (t : State) (cause : Nat) (st : Status) (next : EnpPhase) : Prop :=
  t.enp.phase = next ∧ t.enp.s2 = false ∧ t.enp.asked = false ∧ t.fld R.ENP_STATE F.ENP_STATE_CAUSE = cause
    ∧ t.fld R.ENP_STATE F.ENP_STATE_STATUS = st.code ∧ t.evt.pend.getLsbD 195 = true
    ∧ (10 ≤ cause → cause ≤ 14 → t.evt.pend.getLsbD 198 = true)

/-- A start step has been lost: S2 and the relays are commanded open, and the session is back in its first state (R348). -/
def steppedBack (t : State) : Prop :=
  t.enp.s2 = false ∧ t.enp.relay = false ∧ t.enp.asked = false
    ∧ t.enp.phase = (if t.enp.exporting = true then .expWait
        else if t.enpConn = true ∧ t.fld R.ENP_SRCST F.ENP_SRCST_PL ≠ 3 then .qualify else .detect)

/-- Nothing outside the energy path, the start budget, the waveform unit's timebases and the set-points of its slots has
changed. -/
def energyOnly (s t : State) : Prop :=
  s.leaves t (fun r => r / 65536 = 0xB) [.enp, .budget, .wfu, .cle, .latches, .pending, .free] (fun _ => False)
    ∧ t.wfu.leg = s.wfu.leg ∧ { t.cle with spr := [] } = { s.cle with spr := [] }

/-- Engine `e` issues, and an instruction of `len` words lies within schedule memory (R90, R109, R111). -/
def mayIssue (s : State) (e : Fin 8) (len : Nat) : Prop :=
  s.issuing e = true ∧ (s.engine e).pc + len ≤ 131072

end State
end Sys2Proof.Machine
end

