-- ==== Sys2Proof/Machine/Pads.lean ====
section
/-!
DEFINITION. The pads whose levels follow from other state (R34, R66, R72, R289, R335, R493, R550, R552). Those of the legs, of the
safety outputs and of the emulation outputs stand with their units (`legPads`, `SafState.out`, `emuPads`).
-/

namespace Sys2Proof.Machine

/-- What a pad does: held low, held high, left high-impedance, or carrying a signal of its own. -/
inductive PadLevel where
  | low | high | hiz | signal
  deriving DecidableEq, Repr

namespace State

/-- The pads hold their reset states: in OFF, and after a clock fault (R34, R72). -/
def padsHeld (s : State) : Bool := s.mode == .off || s.clk.fault

/-- `XEN_TA`, `XEN_TB`, `XEN_DC` and `XEN_CH`, 0 to 3, with their stages 0, 1, 2 and 3 (R289). -/
def xenPad (s : State) (k : Fin 4) : PadLevel := if !s.padsHeld && s.gdp.en.getLsbD k.val then .high else .low

/-- `SECm` (R404); low on a quiet module (R488). -/
def secPad (s : State) (m : Fin 16) : PadLevel := if !s.padsHeld && !s.quiet && (s.reg R.GTE_OUT).bit m.val then .high else .low

/-- `CLK_OUT`: 25 MHz from step 3 of R66 on. -/
def clkOutPad (s : State) : PadLevel := if !s.padsHeld && s.clk.started then .signal else .low

/-- `V5_OUT` and `V3_OUT` are enabled from step 2 of R66 on, and off in OFF. -/
def outputRails (s : State) : Bool := s.mode != .off

/-- `TRC_CLK` and `TRC_D0` to `TRC_D3` (R552). What the trace of the chosen core says is that core's, which runs outside the model. -/
def tracePad (s : State) : PadLevel := if !s.padsHeld && s.evt.trace.isSome then .signal else .low

/-- `nFAULT`, an open drain (R34, R72). -/
def nFaultPad (s : State) : PadLevel := if s.nFaultHigh then .hiz else .low

/-- `HP_IRQ` (R72, R550). -/
def irqPad (s : State) : PadLevel := if !s.padsHeld && s.hpIrqLow then .low else .hiz

/-- The GPIO that `ENP_RLY.OUT` names, as ENP drives it (R335, R364). -/
def relayPad (s : State) : PadLevel :=
  if s.padsHeld then .hiz
  else
    match s.enp.relayPad with
    | some true => .high
    | some false => .low
    | none => .hiz

/-- `PLT_SW`, S2 (R72, R348). -/
def switchPad (s : State) : PadLevel := if s.padsHeld || !s.hasCharger then .hiz else if s.enp.s2 then .high else .low

/-- `PLT_DRV`: off, +12 V, or the PWM (R72, R358). -/
def pilotPad (s : State) : PadLevel :=
  if s.padsHeld then .hiz else if s.enp.pilot = 0 then .hiz else if s.enp.pilot = 2 && 96 ≤ s.enp.adv then .signal else .high

/-- `PL_ALIVE`: released past step 8 of R66 outside LOCKOUT, and pulled low at all other times, without the pairs link, and in a
single module (R5, R72, R475, R477). -/
def alivePad (s : State) : PadLevel := if s.aliveFree && !s.padsHeld then .hiz else .low

/-- `PL_TXk`: a lane of `TWN_CFG.LANES` carries symbols while the link sends, and is otherwise idle (R72, R475, R478, R497). -/
def laneTx (s : State) (k : Fin 4) : PadLevel :=
  if !s.padsHeld && s.twnSends && (s.reg R.TWN_CFG).bit (F.TWN_CFG_LANES.lo + k.val) then .signal else .hiz

/-- `T1Pp`: idle unless the port is enabled (R72, R439). -/
def ethPad (s : State) (p : Fin 2) : PadLevel := if !s.padsHeld && s.ethOn p then .signal else .hiz

/-- `RES_A_EXP` and `RES_B_EXP`: each resolver interface drives its excitation (R72, R173). -/
def resolverPad (s : State) (m : Fin 2) : PadLevel := if !s.padsHeld && (m = 0 || s.hasB) then .signal else .hiz

/-- `HP_IO0` to `HP_IO3`: driven only while a frame's response and data are clocked out, which its command holds (R72, R546). -/
def hostPads (_ : State) : PadLevel := .hiz

/-- `GPIOg`: the relay's is ENP's, and no command drives another (R72, R335). -/
def gpioPad (s : State) (g : Fin 16) : PadLevel := if s.fld R.ENP_RLY F.ENP_RLY_OUT = g.val then s.relayPad else .hiz

/-- The drivers of CAN channel `c` may leave the recessive level (R34, R72). -/
def canDrives (s : State) (c : Fin 8) : Bool := !s.padsHeld && s.canOn c

end State
end Sys2Proof.Machine
end

