-- ==== Sys2Proof/Safety.lean ====
section
/-!
DEFINITION. What counts as a sound state and a safe run: the forms the model keeps, the bounds the manual sets on the schedule
engines, and no half-bridge with both switches on.
-/

namespace Sys2Proof.Machine
namespace State

/-- Memory and registers stand in their canonical form. -/
def storesWf (s : State) : Bool := Memory.wf s.mem && regsWf s.regs

/-- An engine within its bounds: four nested calls, four nested loops, 32 staged stores (R91, R94), and counts a loop can
hold (R144). -/
def engineWf (x : Engine) : Bool :=
  decide (x.calls.length ≤ 4) && decide (x.loops.length ≤ 4) && decide (x.staging.length ≤ 32)
    && x.loops.all fun l => decide (l.1 ≤ 65536)

/-- Every engine stands within its bounds. -/
def enginesWf (s : State) : Bool := (List.finRange 8).all fun e => engineWf (s.engine e)

/-- No half-bridge has both switches on (R51). -/
def noShootThrough (s : State) : Bool := (List.finRange 42).all fun n => !(s.wfu.leg[n].hi && s.wfu.leg[n].lo)

/-- A sound state. -/
def sound (s : State) : Bool := s.storesWf && s.enginesWf

end State

/-- A safe run of `k` steps: it meets no fault and no refusal, and every state it passes through is sound. -/
def safeRun : Nat → State → Bool
  | 0, s => s.sound
  | k + 1, s =>
    s.sound && match step s with
      | .next t => safeRun k t
      | .fault _ => false
      | .refused _ => false

end Sys2Proof.Machine
end

