-- ==== Sys2Proof/Certificates/Slice0/Obligations.lean ====
section
/-!
DEFINITION. The statements for the provers.
-/

open Sys2Proof Sys2Proof.Machine

/-! ### Schedule engines -/

/-- R131, R132, R135, R104: the data instructions. R132: the functions of `alu`, with the second operand from a v register or from
the extension word. -/
def Obligations.EngineDataInstructionsCompute : Prop :=
  (
    ∀ (s : State) (e : Fin 8) (vd va : Fin 16),
      (s.mayIssue e 1 → ∃ t, exec (.mov e vd va) s = .next t ∧ t.v e vd = s.v e va
        ∧ s.engineOk t e 0x01 { s.engine e with pc := (s.engine e).pc + 1 } [R.SEQ_V e.val vd.val])
      ∧ (∀ k : BitVec 16, s.mayIssue e 1 → ∃ t, exec (.ldi e vd (.imm k)) s = .next t ∧ (t.v e vd).toInt = k.toInt
        ∧ s.engineOk t e 0x02 { s.engine e with pc := (s.engine e).pc + 1 } [R.SEQ_V e.val vd.val])
      ∧ (∀ w : Word, s.mayIssue e 2 → ∃ t, exec (.ldi e vd (.ext w)) s = .next t ∧ t.v e vd = w
        ∧ s.engineOk t e 0x02 { s.engine e with pc := (s.engine e).pc + 2 } [R.SEQ_V e.val vd.val])
      ∧ (∀ wofs : BitVec 16, s.mayIssue e 1 → ∃ t, exec (.ldt e vd va wofs) s = .next t
        ∧ t.v e vd = s.word (0x22000000 + 4 * (((s.v e va).toNat + wofs.toNat) % 65536))
        ∧ s.engineOk t e 0x06 { s.engine e with pc := (s.engine e).pc + 1 } [R.SEQ_V e.val vd.val]))
  ∧ (
    ∀ (s : State) (e : Fin 8) (vd va : Fin 16) (fn : AluFn) (b : RegExt),
      let len := match b with | .reg _ => 1 | .ext _ => 2
      let x := s.v e va
      let y := match b with | .reg k => s.v e k | .ext w => w
      s.mayIssue e len → ∃ t, exec (.alu e vd va fn b) s = .next t
        ∧ (match fn with
          | .add => (t.v e vd).toNat = (x.toNat + y.toNat) % 2 ^ 32
          | .sub => (t.v e vd).toInt % 2 ^ 32 = (x.toInt - y.toInt) % 2 ^ 32
          | .and => ∀ i, (t.v e vd).getLsbD i = (x.getLsbD i && y.getLsbD i)
          | .or => ∀ i, (t.v e vd).getLsbD i = (x.getLsbD i || y.getLsbD i)
          | .xor => ∀ i, (t.v e vd).getLsbD i = (x.getLsbD i ^^ y.getLsbD i)
          | .shl => (t.v e vd).toNat = x.toNat * 2 ^ (y.toNat % 32) % 2 ^ 32
          | .shr => (t.v e vd).toNat = x.toNat / 2 ^ (y.toNat % 32)
          | .sar => (t.v e vd).toInt = x.toInt / 2 ^ (y.toNat % 32)
          | .mul => (t.v e vd).toNat = x.toNat * y.toNat % 2 ^ 32)
        ∧ s.engineOk t e 0x03 { s.engine e with pc := (s.engine e).pc + len } [R.SEQ_V e.val vd.val])
  ∧ (∀ (e : Fin 8) (w ext : Word), w.bits 31 26 = 0x03 → 8 < w.bits 17 14 → decodeSched e w ext = none)

/-- R109, R141 to R144: jumps, calls, returns and loops; jumps on an event and on the mode. A fifth nested call, a return with an
empty call stack, a fifth nested loop, a jump and a program counter beyond schedule memory make the engine FAULTED. -/
def Obligations.EngineControlFlow : Prop :=
  (
    ∀ (s : State) (e : Fin 8), s.mayIssue e 1 →
      let x := s.engine e
      (∀ a : BitVec 17, ∃ t, exec (.jmp e a) s = .next t ∧ s.engineOk t e 0x12 { x with pc := a.toNat } [])
      ∧ (∀ a : BitVec 17, x.calls.length < 4 → ∃ t, exec (.call e a) s = .next t
        ∧ s.engineOk t e 0x13 { x with pc := a.toNat, calls := (x.pc + 1) :: x.calls } [])
      ∧ (∀ a l, x.calls = a :: l → ∃ t, exec (.ret e) s = .next t
        ∧ s.engineOk t e 0x14 { x with pc := a, calls := l } [])
      ∧ (∀ cnt : BitVec 16, x.loops.length < 4 → ∃ t, exec (.loop e cnt) s = .next t
        ∧ s.engineOk t e 0x15
            { x with pc := x.pc + 1, loops := (if cnt = 0 then 65536 else cnt.toNat, x.pc + 1) :: x.loops } [])
      ∧ (∀ n a l leave, x.loops = (n, a) :: l → ∃ t, exec (.endl e leave) s = .next t
        ∧ s.engineOk t e 0x16
            (if leave = true ∨ n ≤ 1 then { x with pc := x.pc + 1, loops := l }
             else { x with pc := a, loops := (n - 1, a) :: l }) []))
  ∧ (
    ∀ (s : State) (e : Fin 8), s.mayIssue e 1 →
      let x := s.engine e
      (∀ (clear ifClear : Bool) (src : BitVec 8) (disp : BitVec 16),
        (x.evl.getLsbD src.toNat = ifClear ∨ (0 ≤ (x.pc : Int) + disp.toInt ∧ (x.pc : Int) + disp.toInt < 131072)) →
        ∃ t, exec (.jev e clear ifClear src disp) s = .next t
          ∧ s.engineOk t e 0x10
              { x with
                pc := if x.evl.getLsbD src.toNat = ifClear then x.pc + 1 else ((x.pc : Int) + disp.toInt).toNat
                evl := if clear then x.evl &&& ~~~(BitVec.ofNat 256 (2 ^ src.toNat)) else x.evl } [])
      ∧ (∀ (ifClear : Bool) (mask : BitVec 12) (disp : BitVec 13),
        (mask.getLsbD s.mode.code = ifClear ∨ (0 ≤ (x.pc : Int) + disp.toInt ∧ (x.pc : Int) + disp.toInt < 131072)) →
        ∃ t, exec (.jmd e ifClear mask disp) s = .next t
          ∧ s.engineOk t e 0x11
              { x with
                pc := if mask.getLsbD s.mode.code = ifClear then x.pc + 1 else ((x.pc : Int) + disp.toInt).toNat } []))
  ∧ (
    ∀ (s : State) (e : Fin 8),
      let x := s.engine e
      (s.mayIssue e 1 →
        (∀ a : BitVec 17, 4 ≤ x.calls.length → ∃ t, exec (.call e a) s = .next t ∧ s.engineFaulted t e 1)
        ∧ (x.calls = [] → ∃ t, exec (.ret e) s = .next t ∧ s.engineFaulted t e 2)
        ∧ (∀ cnt : BitVec 16, 4 ≤ x.loops.length → ∃ t, exec (.loop e cnt) s = .next t ∧ s.engineFaulted t e 3)
        ∧ (∀ (clear ifClear : Bool) (src : BitVec 8) (disp : BitVec 16), x.evl.getLsbD src.toNat = !ifClear →
          ((x.pc : Int) + disp.toInt < 0 ∨ 131072 ≤ (x.pc : Int) + disp.toInt) →
          ∃ t, exec (.jev e clear ifClear src disp) s = .next t ∧ s.engineFaulted t e 4)
        ∧ (∀ (ifClear : Bool) (mask : BitVec 12) (disp : BitVec 13), mask.getLsbD s.mode.code = !ifClear →
          ((x.pc : Int) + disp.toInt < 0 ∨ 131072 ≤ (x.pc : Int) + disp.toInt) →
          ∃ t, exec (.jmd e ifClear mask disp) s = .next t ∧ s.engineFaulted t e 4))
      ∧ (s.issuing e = true → 131072 ≤ x.pc → ∀ vd vs, ∃ t, exec (.mov e vd vs) s = .next t ∧ s.engineFaulted t e 4))

/-- R109, R117, R120, R130, R147: `halt` and `sig`. R98 to R102, R126, R137 to R140: the waits. Each completes OK at once where
its condition holds; otherwise the engine waits. -/
def Obligations.EngineHaltsSignalsAndWaits : Prop :=
  (
    ∀ (s : State) (e : Fin 8), s.mayIssue e 1 →
      (∃ t, exec (.halt e) s = .next t
        ∧ { t.engine e with evl := 0 } =
            { s.engine e with pc := (s.engine e).pc + 1, state := .halted, staging := [], fault := 0, busy := 0, evl := 0 }
        ∧ t.fld (R.SEQ_LAST e.val) F.SEQ_LAST_OPCODE = 0 ∧ t.fld (R.SEQ_LAST e.val) F.SEQ_LAST_STATUS = 0
        ∧ s.fires t [33 + 4 * e.val] ∧ s.sameBut t [R.SEQ_LAST e.val] [.engines, .latches, .pending])
      ∧ (∀ ext : Word, decodeSched e 0 ext = some (.halt e))
      ∧ ∀ val : BitVec 16, ∃ t, exec (.sig e val) s = .next t
        ∧ { t.engine e with evl := 0 } = { s.engine e with pc := (s.engine e).pc + 1, busy := 0, evl := 0 }
        ∧ t.fld (R.SEQ_LAST e.val) F.SEQ_LAST_SIGVAL = val.toNat
        ∧ t.fld (R.SEQ_LAST e.val) F.SEQ_LAST_OPCODE = 0x1A ∧ t.fld (R.SEQ_LAST e.val) F.SEQ_LAST_STATUS = 0
        ∧ s.fires t [32 + 4 * e.val] ∧ s.sameBut t [R.SEQ_LAST e.val] [.engines, .latches, .pending])
  ∧ (
    ∀ (s : State) (e : Fin 8),
      let x := s.engine e
      let ok (t : State) (op n : Nat) (ev : BitVec 256) : Prop :=
        s.engineOk t e op
          { x with pc := x.pc + n, waitOp := op, waitLen := n, wait := .none, expires := none, late := false, evl := ev } []
      (∀ k : Fin 16, s.mayIssue e 1 → ∃ t, exec (.wtm e (.abs k)) s = .next t
        ∧ (if 0 ≤ (s.reg R.NET_TIME - s.v e k).toInt then ok t 0x08 1 x.evl
           else s.engineWaits t e 0x08 1 (.time (s.v e k)) none))
      ∧ (∀ w : Word, s.mayIssue e 2 → ∃ t, exec (.wtm e (.rel w)) s = .next t
        ∧ (if w = 0 ∨ 2 ^ 31 ≤ w.toNat then ok t 0x08 2 x.evl
           else s.engineWaits t e 0x08 2 (.time (s.reg R.NET_TIME + w)) none))
      ∧ ∀ tmo : Timeout,
        let len := match tmo with | some _ => 2 | none => 1
        s.mayIssue e len →
          (∀ (cnt : BitVec 16) (ofs : BitVec 8), ∃ t, exec (.wsm e cnt ofs tmo) s = .next t
            ∧ (if cnt = 0 ∨ s.sampleNs ≤ 1000 * ofs.toNat then s.engineExcept t e 0x09 .outOfRange (x.pc + len) []
               else s.engineWaits t e 0x09 len (.sample cnt.toNat ofs.toNat none) tmo))
          ∧ (∀ (rev : Bool) (vs : Fin 16) (axis : BitVec 4), axis.toNat ≤ 10 → (axis.toNat = 1 → s.hasB = true) →
            ∃ t, exec (.wps e rev vs axis tmo) s = .next t
              ∧ (let d := (s.reg (R.POS_AX_POS axis.toNat) - s.v e vs).toInt
                 if (if rev then d ≤ 0 else 0 ≤ d) then ok t 0x0A len x.evl
                 else s.engineWaits t e 0x0A len (.position rev (s.v e vs) axis.toNat) tmo))
          ∧ (∀ (rev : Bool) (vs : Fin 16) (axis : BitVec 4), axis.toNat ≤ 2 →
            ∃ t, exec (.wtr e rev vs axis tmo) s = .next t
              ∧ (let c := if axis = 0 then R.POS_TRV_L else if axis = 1 then R.POS_TRV_R else R.POS_TRV_C
                 let d := (s.reg c - s.v e vs).toInt
                 if (if rev then d ≤ 0 else 0 ≤ d) then ok t 0x0B len x.evl
                 else s.engineWaits t e 0x0B len (.travel rev (s.v e vs) axis.toNat) tmo))
          ∧ ∀ src : BitVec 8, ∃ t, exec (.wev e src tmo) s = .next t
              ∧ (if x.evl.getLsbD src.toNat = true then ok t 0x0C len (x.evl &&& ~~~(BitVec.ofNat 256 (2 ^ src.toNat)))
                 else s.engineWaits t e 0x0C len (.event src) tmo))

/-- R127, R133, R97: `ldu` reads a register as it reads, its committed value among it, 0 for a register of an absent unit, and the
word of a result port. What R91 bars reads 0 (the model's choice, log entry 143). -/
def Obligations.EngineLoadsFromUnits : Prop :=
  ∀ (s : State) (e : Fin 8) (vd : Fin 16) (blk : BitVec 5) (ofs : BitVec 14), s.mayIssue e 1 →
    let r := blk.toNat * 0x10000 + ofs.toNat * 4
    let pc := (s.engine e).pc + 1
    ∃ t, exec (.ldu e vd blk ofs) s = .next t
      ∧ (18 < blk.toNat → s.engineExcept t e 0x04 .outOfRange pc [])
      ∧ (blk.toNat ≤ 18 → s.regAbsent r = true → t.v e vd = 0 ∧ (t.engine e).pc = pc
        ∧ t.fld (R.SEQ_LAST e.val) F.SEQ_LAST_STATUS = 2
        ∧ t.fld (R.SEQ_CNT e.val) F.SEQ_CNT_NPCNT = min (s.fld (R.SEQ_CNT e.val) F.SEQ_CNT_NPCNT + 1) 255
        ∧ s.sameBut t [R.SEQ_LAST e.val, R.SEQ_CNT e.val, R.SEQ_V e.val vd.val] [.engines, .latches])
      ∧ (blk.toNat ≤ 18 → s.regAbsent r = false →
        (t.engine e).pc = pc ∧ t.fld (R.SEQ_LAST e.val) F.SEQ_LAST_OPCODE = 4 ∧ t.fld (R.SEQ_LAST e.val) F.SEQ_LAST_STATUS = 0
        ∧ (State.seqForeign e r = true → t.v e vd = 0)
        ∧ (State.seqForeign e r = false → t.v e vd = (s.regRead r).1
          ∧ (∀ q, q ∉ [R.SEQ_LAST e.val, R.SEQ_V e.val vd.val] → t.reg q = (s.regRead r).2.reg q)
          ∧ (regRow? r = none → t.v e vd = 0)
          ∧ ((regRow? r).isSome = true → s.portRead r = none → s.regView r = none →
            t.v e vd = s.reg r &&& ~~~s.absentBits r))
        ∧ (State.seqForeign e r = true ∨ regRow? r = none ∨ s.portRead r = none →
          s.engineOk t e 0x04 { s.engine e with pc := pc } [R.SEQ_V e.val vd.val]))
      ∧ (blk.toNat = 7 → r = R.ACQ_QPOP → ∀ w q, s.acq.queue.pop = some (w, q) → t.v e vd = w ∧ t.acq.queue = q)

/-- R14, R49, R94, R134: `stu` is judged, then written or, with G = 1, staged; a 33rd staged entry completes BUSY. A store that is
written has its unit's effect and status; a refused one to `HPT_FLCTL` leaves its status there. A word that R49 forbids is a host
mistake. -/
def Obligations.EngineStoresToUnits : Prop :=
  ∀ (s : State) (e : Fin 8) (v : RegExt) (g : Bool) (blk : BitVec 5) (ofs : BitVec 14),
    let len := match v with | .reg _ => 1 | .ext _ => 2
    let w := match v with | .reg k => s.v e k | .ext w => w
    let r := blk.toNat * 0x10000 + ofs.toNat * 4
    let x := s.engine e
    let fl : List Nat := if r = R.HPT_FLCTL then [R.HPT_FLCTL] else []
    s.mayIssue e len →
      (18 < blk.toNat → ∃ t, exec (.stu e v g blk ofs) s = .next t ∧ s.engineExcept t e 0x05 .outOfRange (x.pc + len) []
        ∧ (t.engine e).staging = x.staging)
      ∧ (blk.toNat ≤ 18 → s.regAbsent r = true → ∃ t, exec (.stu e v g blk ofs) s = .next t
        ∧ (t.engine e).pc = x.pc + len ∧ (t.engine e).staging = x.staging
        ∧ t.fld (R.SEQ_LAST e.val) F.SEQ_LAST_STATUS = 2
        ∧ s.sameBut t [R.SEQ_LAST e.val, R.SEQ_CNT e.val] [.engines, .latches])
      ∧ (blk.toNat ≤ 18 → s.gateStatus r = .locked → ∃ t, exec (.stu e v g blk ofs) s = .next t
        ∧ s.engineExcept t e 0x05 .locked (x.pc + len) fl ∧ (t.engine e).staging = x.staging)
      ∧ (blk.toNat ≤ 18 → s.gateStatus r = .wrongMode → ∃ t, exec (.stu e v g blk ofs) s = .next t
        ∧ (t.engine e).staging = x.staging ∧ t.fld (R.SEQ_LAST e.val) F.SEQ_LAST_STATUS = 3
        ∧ t.bit (R.SEQ_REF e.val) F.SEQ_REF_REFUSED = true ∧ s.fires t [34 + 4 * e.val]
        ∧ s.sameBut t (R.SEQ_LAST e.val :: R.SEQ_REF e.val :: R.SEQ_CNT e.val :: fl) [.engines, .latches, .pending])
      ∧ (blk.toNat ≤ 17 → s.gateStatus r = .ok →
        (g = false → State.seqForeign e r = false → s.storeBad r w = true → exec (.stu e v g blk ofs) s = .fault .hostMistake)
        ∧ (g = false → State.seqForeign e r = false → s.storeBad r w = false → ∃ t, exec (.stu e v g blk ofs) s = .next t
          ∧ t.fld (R.SEQ_LAST e.val) F.SEQ_LAST_OPCODE = 5
          ∧ t.fld (R.SEQ_LAST e.val) F.SEQ_LAST_STATUS = (s.engineStore r w).1.code
          ∧ (t.engine e).pc = ((s.engineStore r w).2.engine e).pc + len
          ∧ (∀ q, q ∉ [R.SEQ_LAST e.val, R.SEQ_EXC e.val, R.SEQ_CNT e.val, R.SEQ_REF e.val] →
              t.reg q = (s.engineStore r w).2.reg q)
          ∧ (∀ a, t.byte a = (s.engineStore r w).2.byte a))
        ∧ (g = false → State.seqForeign e r = true → ∃ t, exec (.stu e v g blk ofs) s = .next t
          ∧ s.engineOk t e 0x05 { x with pc := x.pc + len } []) ∧
        (g = true → 32 ≤ x.staging.length → ∃ t, exec (.stu e v g blk ofs) s = .next t
          ∧ s.engineExcept t e 0x05 .busy (x.pc + len) [] ∧ (t.engine e).staging = x.staging)
        ∧ (g = true → x.staging.length < 32 → ∃ t, exec (.stu e v g blk ofs) s = .next t
          ∧ s.engineOk t e 0x05 { x with pc := x.pc + len, staging := x.staging ++ [(r, w)] } [])
        ∧ (g = false → blk.toNat = 5 → shadowed r = true → s.writeBad r w = false →
          ∃ t, exec (.stu e v g blk ofs) s = .next t ∧ (t.engine e).pc = x.pc + len
            ∧ t.fld (R.SEQ_LAST e.val) F.SEQ_LAST_STATUS = 0 ∧ t.reg r = s.reg r
            ∧ t.shadowOf r = some (w &&& BitVec.ofNat 32 (regMasks r).1 &&& ~~~s.absentBits r)
            ∧ (∀ q, q ≠ r → t.shadowOf q = s.shadowOf q)
            ∧ s.sameBut t [R.SEQ_LAST e.val] [.engines, .latches, .shadow])
        ∧ (g = false → blk.toNat = 0 → (regRow? r).isSome = true → r ≠ R.SYS_SMPL → r ≠ R.SYS_THCFG → r ≠ R.SYS_DBG →
          s.writeBad r w = false → ∃ t, exec (.stu e v g blk ofs) s = .next t
            ∧ s.engineOk t e 0x05 { x with pc := x.pc + len } [r]
            ∧ (∀ i, (BitVec.ofNat 32 (regMasks r).1).getLsbD i = true → (t.reg r).getLsbD i = w.getLsbD i)))

/-- R49, R94 to R96, R136: `commit` transfers what is staged, in its issue clock, to the shadows; with W = 1 it waits for their commit
points; an entry that its judgement refuses now gives the status and is not written; a word that R49 forbids is a host mistake. -/
def Obligations.EngineCommitTransfersStaged : Prop :=
  ∀ (s : State) (e : Fin 8) (wait : Bool) (tmo : Timeout),
    let len := match tmo with | some _ => 2 | none => 1
    let x := s.engine e
    s.mayIssue e len →
      (x.staging = [] → ∃ t, exec (.commit e wait tmo) s = .next t ∧ (t.engine e).pc = x.pc + len
        ∧ (t.engine e).state = .running ∧ t.fld (R.SEQ_LAST e.val) F.SEQ_LAST_OPCODE = 7
        ∧ t.fld (R.SEQ_LAST e.val) F.SEQ_LAST_STATUS = 0 ∧ s.sameBut t [R.SEQ_LAST e.val] [.engines, .latches])
      ∧ ∀ r w, x.staging = [(r, w)] → r / 0x10000 = 5 → shadowed r = true →
        (s.gateStatus r = .ok → s.writeBad r w = true → exec (.commit e wait tmo) s = .fault .hostMistake)
        ∧ (s.gateStatus r = .ok → s.writeBad r w = false → ∃ t, exec (.commit e wait tmo) s = .next t
          ∧ t.shadowOf r = some (w &&& BitVec.ofNat 32 (regMasks r).1 &&& ~~~s.absentBits r)
          ∧ (t.engine e).staging = []
          ∧ (if wait then (t.engine e).state = .waiting ∧ (t.engine e).wait = .commit [r] .ok ∧ (t.engine e).pc = x.pc
             else (t.engine e).state = .running ∧ (t.engine e).pc = x.pc + len
               ∧ t.fld (R.SEQ_LAST e.val) F.SEQ_LAST_STATUS = 0)
          ∧ s.sameBut t [R.SEQ_LAST e.val] [.engines, .latches, .shadow])
        ∧ (s.gateStatus r = .locked → wait = false → ∃ t, exec (.commit e wait tmo) s = .next t
          ∧ (t.engine e).staging = [] ∧ s.engineExcept t e 0x07 .locked (x.pc + len) [])

/-- R98 to R103, R95, R104, R136: the ends of waits. -/
def Obligations.EngineWaitsEnd : Prop :=
  ∀ (s : State) (e : Fin 8),
    let x := s.engine e
    let on : Engine := { x with state := .running, wait := .none, expires := none, late := false, pc := x.pc + x.waitLen }
    (s.testing e = true → x.waitOp < 64 →
      (∀ target, x.wait = .time target → 0 ≤ (s.reg R.NET_TIME - target).toInt →
        ∃ t, exec (.waitComplete e) s = .next t ∧ s.engineOk t e x.waitOp on [])
      ∧ (∀ src, x.wait = .event src → x.evl.getLsbD src.toNat = true → ∃ t, exec (.waitComplete e) s = .next t
        ∧ s.engineOk t e x.waitOp { on with evl := x.evl &&& ~~~(BitVec.ofNat 256 (2 ^ src.toNat)) } [])
      ∧ (∀ ofs passed, x.wait = .sample 0 ofs (some passed) → (ofs : Int) ≤ (s.reg R.NET_TIME - passed).toInt →
        ∃ t, exec (.waitComplete e) s = .next t ∧ s.engineOk t e x.waitOp on [])
      ∧ (x.wait = .commit [] .ok → ∃ t, exec (.commitComplete e) s = .next t ∧ s.engineOk t e x.waitOp on [])
      ∧ (x.wait = .commit [] .locked → ∃ t, exec (.commitComplete e) s = .next t
        ∧ s.engineExcept t e x.waitOp .locked (x.pc + x.waitLen) [])
      ∧ ∀ due, x.expires = some due → 0 ≤ (s.reg R.NET_TIME - due).toInt → s.waitHolds e = false →
        x.ending ≠ some .waitOk → (∀ left st, x.wait = .commit left st → st = .ok) → ∃ t, exec (.waitTimeout e) s = .next t
          ∧ s.engineExcept t e x.waitOp .timeout (x.pc + x.waitLen) [])
    ∧ (x.frozen = true → exec (.waitComplete e) s = .next s ∧ exec (.waitTimeout e) s = .next s
      ∧ exec (.commitComplete e) s = .next s)

/-- R90, R103, R106 to R108, R121: starting, stopping and swapping engines, and clearing event latches. R111, R551: a debugger's
halt of a core freezes the engines while `SYS_DBG.FREEZE` is set; at the release each tests its wait at once. R552: the debugger
chooses the core whose branch trace leaves, or none. -/
def Obligations.EnginesStartStopAndFreeze : Prop :=
  (
    ∀ s : State,
      (∀ mask : BitVec 8, ∃ t, exec (.engineStart mask) s = .next t
        ∧ (∀ e : Fin 8, let x := s.engine e
          if mask.getLsbD e.val = true ∧ s.up = true ∧ x.state ≠ .running ∧ x.state ≠ .waiting then
            (t.engine e).state = .running ∧ (t.engine e).pc = s.fld (R.SEQ_ENTRY e.val) F.SEQ_ENTRY_ADDR
              ∧ (t.engine e).calls = [] ∧ (t.engine e).loops = [] ∧ (t.engine e).staging = [] ∧ (t.engine e).evl = 0
              ∧ t.reg (R.SEQ_CNT e.val) = 0
          else t.engine e = x ∧ t.reg (R.SEQ_CNT e.val) = s.reg (R.SEQ_CNT e.val))
        ∧ s.sameBut t ((List.range 8).map R.SEQ_CNT) [.engines, .latches])
      ∧ (∀ mask : BitVec 8, ∃ t, exec (.engineStop mask) s = .next t
        ∧ (∀ e : Fin 8, if mask.getLsbD e.val = true then (t.engine e).state = .stopped ∧ (t.engine e).staging = []
            ∧ (t.engine e).wait = .none ∧ (t.engine e).pc = (s.engine e).pc ∧ (t.engine e).evl = (s.engine e).evl
          else t.engine e = s.engine e)
        ∧ s.sameBut t [] [.engines])
      ∧ ∀ e : Fin 8,
        (∀ atRest : Bool, s.up = true → ∃ t, exec (.swapRequest e atRest) s = .next t
          ∧ t.bit (R.SEQ_CTL e.val) F.SEQ_CTL_SWAP = true ∧ t.bit (R.SEQ_CTL e.val) F.SEQ_CTL_SWAPMODE = atRest
          ∧ s.sameBut t [R.SEQ_CTL e.val] [])
        ∧ (∃ t, exec (.swapCancel e) s = .next t ∧ t.bit (R.SEQ_CTL e.val) F.SEQ_CTL_SWAP = false
          ∧ t.bit (R.SEQ_CTL e.val) F.SEQ_CTL_SWAPMODE = s.bit (R.SEQ_CTL e.val) F.SEQ_CTL_SWAPMODE
          ∧ s.sameBut t [R.SEQ_CTL e.val] [])
        ∧ ∀ (k : Fin 8) (mask : Word),
          if (s.engine e).state = .running ∨ (s.engine e).state = .waiting then
            exec (.eventLatchClear e k mask) s = .fault .hostMistake
          else ∃ t, exec (.eventLatchClear e k mask) s = .next t
            ∧ (∀ n : Fin 256, (t.engine e).evl.getLsbD n.val =
                ((s.engine e).evl.getLsbD n.val && !(n.val / 32 == k.val && mask.getLsbD (n.val % 32))))
            ∧ (∀ y, y ≠ e → t.engine y = s.engine y) ∧ s.sameBut t [] [.latches])
  ∧ (
    ∀ (s : State) (c : Fin 2),
      (∃ t, exec (.debugHalt c) s = .next t ∧ t.core c = { s.core c with halted := true }
        ∧ (∀ d, d ≠ c → t.core d = s.core d)
        ∧ (s.bit R.SYS_DBG F.SYS_DBG_FREEZE = true → ∀ e, t.engine e =
            (if (s.engine e).state = .running ∨ (s.engine e).state = .waiting then { s.engine e with frozen := true }
             else s.engine e))
        ∧ (s.bit R.SYS_DBG F.SYS_DBG_FREEZE = true → s.sameBut t [] [.engines, .cores]))
      ∧ ∀ (trace : Option (Fin 2)) (dpc : Option Word), ∃ t, exec (.debugResume c trace dpc) s = .next t
        ∧ (t.core c).halted = false ∧ (t.core c).pc = (match dpc with | some a => a | none => (s.core c).pc)
        ∧ t.evt.trace = trace
        ∧ (∀ e, (s.engine e).state = .running →
            (s.bit R.SYS_DBG F.SYS_DBG_FREEZE = true → (∀ d, d ≠ c → (s.core d).halted = false) →
              { t.engine e with evl := 0 } = { s.engine e with frozen := false, evl := 0 })
            ∧ (s.bit R.SYS_DBG F.SYS_DBG_FREEZE = true → (∃ d, d ≠ c ∧ (s.core d).halted = true) →
              t.engine e = { s.engine e with frozen := true }))
        ∧ ∀ e target, (s.engine e).state = .waiting → (s.engine e).frozen = true → (s.engine e).wait = .time target →
            s.bit R.SYS_DBG F.SYS_DBG_FREEZE = true → (∀ d, d ≠ c → (s.core d).halted = false) →
            0 ≤ (s.reg R.NET_TIME - target).toInt →
            (t.engine e).state = .running ∧ (t.engine e).pc = (s.engine e).pc + (s.engine e).waitLen)

/-! ### Registers, memory and queues -/

/-- R4, R7, R8, R14, R35 to R37, R49, R62, R92, R105, R553: a master's write of an aligned word. A write of a register that is
written has its unit's effect and status. -/
def Obligations.RegisterWriteReachesItsTarget : Prop :=
  ∀ (s : State) (m : Master) (addr w : Word),
    (s.mode = .off → exec (.registerWrite m addr w) s = .next s)
    ∧ (s.mode ≠ .off → addr.toNat % 4 ≠ 0 → exec (.registerWrite m addr w) s = .fault .hostMistake)
    ∧ (s.mode ≠ .off → addr.toNat % 4 = 0 →
      (∀ k, region? addr.toNat = some k → k ≠ .flash → s.putBad addr.toNat 4 w = true →
        exec (.registerWrite m addr w) s = .fault .hostMistake)
      ∧ (∀ k, region? addr.toNat = some k → k ≠ .flash → s.putBad addr.toNat 4 w = false →
        ∃ t, exec (.registerWrite m addr w) s = .next t
        ∧ t.word addr.toNat = w
        ∧ s.leaves t (fun _ => False) [.bus, .cores] (fun a => addr.toNat ≤ a ∧ a < addr.toNat + 4))
      ∧ ((region? addr.toNat = some .flash ∨ (region? addr.toNat = none ∧ busReg? addr.toNat = none)) →
        ∃ t, exec (.registerWrite m addr w) s = .next t
          ∧ (match m with
            | .host => t.bit R.HPT_STAT F.HPT_STAT_ACCERR = true ∧ t.reg R.HPT_ERRADDR = addr ∧ s.fires t [255]
                ∧ s.sameBut t [R.HPT_STAT, R.HPT_ERRADDR] [.latches, .pending]
            | .core0 => t.bus.core0Fault = true ∧ s.sameBut t [] [.bus, .cores, .free]
            | .core1 => t.bus.core1Fault = true ∧ s.sameBut t [] [.bus, .cores, .free]))
      ∧ ∀ r, busReg? addr.toNat = some r →
        (s.regAbsent r = true → ∃ t, exec (.registerWrite m addr w) s = .next t ∧ t.lastStatus m = .notPresent
          ∧ s.sameBut t [] [.bus])
        ∧ (s.regAbsent r = false → s.writeBad r w = true → exec (.registerWrite m addr w) s = .fault .hostMistake)
        ∧ (s.regAbsent r = false → s.writeBad r w = false →
          (s.gateStatus r = .wrongMode → ∃ t, exec (.registerWrite m addr w) s = .next t ∧ s.refusedFor t m r)
          ∧ (s.gateStatus r = .locked → ∃ t, exec (.registerWrite m addr w) s = .next t ∧ t.lastStatus m = .locked
            ∧ s.sameBut t [] [.bus])
          ∧ (s.gateStatus r = .ok → r / 0x10000 ≠ 0x10 → r ≠ R.MOD_REQ → r ≠ R.MOD_REFAPP →
            ∃ t, exec (.registerWrite m addr w) s = .next t ∧ t.lastStatus m = (s.regPut r w).1
              ∧ (∀ q, q ∉ [(State.refusalOf m).1, (State.refusalOf m).2.1] → t.reg q = (s.regPut r w).2.reg q)
              ∧ (∀ a, t.byte a = (s.regPut r w).2.byte a) ∧ t.shadow = (s.regPut r w).2.shadow)
          ∧ (r = R.MOD_REQ → ∃ t, exec (.registerWrite m addr w) s = .next t
              ∧ t.lastStatus m = (s.modeRequest m (w.bits 3 0)).lastStatus m
              ∧ (∀ q, t.reg q = (s.modeRequest m (w.bits 3 0)).reg q) ∧ t.mod = (s.modeRequest m (w.bits 3 0)).mod)
          ∧ (r = R.MOD_REFAPP → ∃ t, exec (.registerWrite m addr w) s = .next t ∧ t.lastStatus m = .ok
              ∧ (w.bit 31 = true → t.reg r = 0 ∧ t.reg R.MOD_REFCNT = 0) ∧ (w.bit 31 = false → s.sameBut t [] [.bus])
              ∧ s.sameBut t [r, R.MOD_REFCNT] [.bus])
          ∧ (r = R.SAF_CARG → ∃ t, exec (.registerWrite m addr w) s = .next t ∧ t.lastStatus m = .ok ∧ t.reg r = w
              ∧ t.saf = { s.saf with cargBy := some m } ∧ s.sameBut t [r] [.bus, .saf])
          ∧ (r / 0x10000 = 0x10 → r ≠ R.SAF_CARG → r ≠ R.SAF_CMD → ∃ t, exec (.registerWrite m addr w) s = .next t
              ∧ t.lastStatus m = .ok ∧ s.sameBut t [] [.bus])
          ∧ (s.gateStatus r = .ok → r / 0x10000 = 5 → shadowed r = true →
            ∃ t, exec (.registerWrite m addr w) s = .next t ∧ t.lastStatus m = .ok ∧ t.reg r = s.reg r
              ∧ t.shadowOf r = some (w &&& BitVec.ofNat 32 (regMasks r).1 &&& ~~~s.absentBits r)
              ∧ (∀ q, q ≠ r → t.shadowOf q = s.shadowOf q) ∧ s.sameBut t [] [.bus, .shadow])
          ∧ (r / 0x10000 = 0 → r ≠ R.SYS_SMPL → r ≠ R.SYS_THCFG → r ≠ R.SYS_DBG →
            ∃ t, exec (.registerWrite m addr w) s = .next t ∧ t.lastStatus m = .ok
              ∧ (∀ i, i < 32 → (t.reg r).getLsbD i =
                  if (BitVec.ofNat 32 (regMasks r).1).getLsbD i = true then w.getLsbD i
                  else (s.reg r).getLsbD i && !(w.getLsbD i && (BitVec.ofNat 32 (regMasks r).2.1).getLsbD i))
              ∧ s.sameBut t [r] [.bus])))

/-- R9 to R12, R34 to R37, R49, R97, R531 to R534, R537, R553: a master's read of an aligned word, and what a queue's port gives; a
core's load-reserve, store-conditional and AMO, its fetches and `FENCE.I`, and what bit errors and a running flash operation do. The
cause codes and the AMO functions are those of the RISC-V specification (log entry 128). R12: a queue's flush discards all it
holds, and nothing else. -/
def Obligations.ResultsAreConsumed : Prop :=
  (
    ∀ (s : State) (m : Master) (addr : Word) (k : CoreRead) (ecc : Ecc),
      let a := addr.toNat
      let run := exec (.resultPortRead m addr k ecc) s
      let atomic := m ≠ .host ∧ ((∃ rd, k = .reserve rd) ∨ (∃ rd v, k = .conditional rd v) ∨ ∃ rd op v, k = .amo rd op v)
      let fetch := m ≠ .host ∧ ∃ h, k = .fetch h
      let fence := m ≠ .host ∧ k = .fence
      let loads := ¬ atomic ∧ ¬ fetch ∧ ¬ fence
      let heard := m = .host → s.clk.fault = false
      let guarded := region? a = some .sram ∨ region? a = some .flash
      let corr : List Nat := if ecc = .single ∧ guarded then [R.HPT_ECC] else []
      let double := ecc = .double ∧ guarded
      let held := region? a = some .flash ∧ s.flash ≠ none
      (s.mode = .off → run = .next s)
      ∧ (s.mode ≠ .off → a % 4 ≠ 0 → run = .fault .hostMistake)
      ∧ (s.mode ≠ .off → s.atomicBad m a k = true → run = .fault .hostMistake)
      ∧ (s.mode ≠ .off → a % 4 = 0 → s.atomicBad m a k = false →
        (loads → (region? a).isSome = true → ¬ held → ¬ double → ∃ t, run = .next t
          ∧ (heard → t.gave m (s.word a)) ∧ s.sameBut t corr [.bus]
          ∧ (corr ≠ [] → t.fld R.HPT_ECC F.HPT_ECC_CORR = min (s.fld R.HPT_ECC F.HPT_ECC_CORR + 1) 65535)
          ∧ ∀ c rd, State.coreOf m = some c → k = .load rd →
            (∀ y, t.xReg c y = if y = rd ∧ rd ≠ 0 then s.word a else s.xReg c y)
              ∧ (t.own c).minstret = (s.own c).minstret + 1)
        ∧ (loads ∨ fetch ∨ atomic → (atomic → region? a = some .sram) → (region? a).isSome = true → ¬ held → double →
          (∀ c, State.coreOf m = some c → s.cached m a k = none) → ∃ t, run = .next t
          ∧ t.bit R.HPT_ECC F.HPT_ECC_DBL = true ∧ t.bit R.HPT_ECC F.HPT_ECC_SRC = decide (region? a = some .flash)
          ∧ t.reg R.HPT_ECCADDR = addr ∧ t.bit R.HPT_STAT F.HPT_STAT_ECC2 = true
          ∧ (match m with
            | .host => t.evt.pend.getLsbD 255 = true ∧ (s.clk.fault = false → t.bus.hostResponse = 1 ∧ t.bus.hostData = [0])
                ∧ s.sameBut t [R.HPT_ECC, R.HPT_ECCADDR, R.HPT_STAT, R.HPT_ERRADDR] [.bus, .latches, .pending]
            | .core0 => t.bus.core0Fault = true ∧ (t.core 0).mcause = (if fetch then 1 else 5)
                ∧ s.sameBut t [R.HPT_ECC, R.HPT_ECCADDR, R.HPT_STAT] [.bus, .cores, .free]
            | .core1 => t.bus.core1Fault = true ∧ (t.core 1).mcause = (if fetch then 1 else 5)
                ∧ s.sameBut t [R.HPT_ECC, R.HPT_ECCADDR, R.HPT_STAT] [.bus, .cores, .free]))
        ∧ (loads ∨ fetch → held → (∀ c, State.coreOf m = some c → s.cached m a k = none) → ∃ t, run = .next t
          ∧ s.sameBut t [] [.bus]
          ∧ match State.coreOf m with
            | none => heard → t.bus.hostResponse = 2 ∧ t.bus.hostData = [0]
            | some c => (t.own c).wait = some ⟨a, k, ecc⟩ ∧ { t.own c with wait := none } = { s.own c with wait := none })
        ∧ (fetch → region? a = some .flash → ∀ c, State.coreOf m = some c → ∀ w, s.cached m a k = some w → ∃ t, run = .next t
          ∧ t.gave m w ∧ s.sameBut t [] [.bus])
        ∧ (fetch → (region? a).isSome = true → ¬ held → ¬ double → ∀ c, State.coreOf m = some c → s.cached m a k = none →
          ∃ t, run = .next t ∧ t.gave m (s.word a) ∧ s.sameBut t corr [.bus]
            ∧ (region? a = some .flash → t.cached m a (.fetch true) = some (s.word a))
            ∧ (region? a ≠ some .flash → (t.own c).cache = (s.own c).cache))
        ∧ (fence → ∀ c, State.coreOf m = some c → ∃ t, run = .next t ∧ (t.own c).cache = [] ∧ s.sameBut t [] [.bus])
        ∧ (atomic → region? a ≠ some .sram → ∀ c, State.coreOf m = some c → ∃ t, run = .next t
          ∧ (t.core c).mcause = 7 ∧ (t.core c).reservation = none ∧ (∀ d, d ≠ c → t.core d = s.core d)
          ∧ s.sameBut t [] [.bus, .cores, .free])
        ∧ (region? a = some .sram → ¬ double → ∀ c, State.coreOf m = some c →
          (∀ rd, k = .reserve rd → ∃ t, run = .next t ∧ (t.core c).reservation = some a
            ∧ (rd ≠ 0 → t.xReg c rd = s.word a) ∧ s.sameBut t corr [.bus, .cores])
          ∧ (∀ rd v, k = .conditional rd v → ∃ t, run = .next t ∧ (t.core c).reservation = none
            ∧ (if (s.core c).reservation = some a then t.word a = v ∧ (rd ≠ 0 → t.xReg c rd = 0)
                ∧ (∀ d : Fin 2, (t.core d).reservation ≠ some a)
               else (∀ b, t.byte b = s.byte b) ∧ (rd ≠ 0 → t.xReg c rd = 1))
            ∧ s.leaves t (· ∈ corr) [.bus, .cores] (fun b => a ≤ b ∧ b < a + 4))
          ∧ (∀ rd op v, k = .amo rd op v → ∃ t, run = .next t
            ∧ t.word a = (match op with
                | .swap => v | .add => s.word a + v | .bitXor => s.word a ^^^ v | .bitAnd => s.word a &&& v
                | .bitOr => s.word a ||| v
                | .minSigned => if v.toInt < (s.word a).toInt then v else s.word a
                | .maxSigned => if (s.word a).toInt < v.toInt then v else s.word a
                | .minUnsigned => if v.toNat < (s.word a).toNat then v else s.word a
                | .maxUnsigned => if (s.word a).toNat < v.toNat then v else s.word a)
            ∧ (rd ≠ 0 → t.xReg c rd = s.word a) ∧ (∀ d : Fin 2, (t.core d).reservation ≠ some a)
            ∧ s.leaves t (· ∈ corr) [.bus, .cores] (fun b => a ≤ b ∧ b < a + 4)))
        ∧ ∀ r, busReg? a = some r → loads →
          (r = R.ACQ_QPOP → ∃ t, run = .next t ∧ s.sameBut t [] [.bus, .acq]
            ∧ (match s.acq.queue.pop with
              | some (w, q) => (heard → t.gave m w) ∧ t.acq = { s.acq with queue := q }
              | none => (heard → t.gave m 0) ∧ t.acq = s.acq))
          ∧ (r = R.GTE_QPOP → ∃ t, run = .next t ∧ s.sameBut t [] [.bus, .gte]
            ∧ (match s.gte.queue.pop with
              | some (w, q) => (heard → t.gave m w) ∧ t.gte = { s.gte with queue := q }
              | none => (heard → t.gave m 0) ∧ t.gte = s.gte))
          ∧ (r = R.NET_RXQ → ∃ t, run = .next t ∧ s.sameBut t [] [.bus, .net]
            ∧ (match s.net.rxq.pop with
              | some (w, q) => (heard → t.gave m w) ∧ t.net = { s.net with rxq := q }
              | none => (heard → t.gave m 0) ∧ t.net = s.net))
          ∧ (r = R.CNV_CPL → ∃ t, run = .next t ∧ s.sameBut t [] [.bus, .cnv]
            ∧ (match s.cnv.queue.pop with
              | some (w, q) => (heard → t.gave m w) ∧ t.cnv = { s.cnv with queue := q }
              | none => (heard → t.gave m 0) ∧ t.cnv = s.cnv))
          ∧ (s.regAbsent r = false → (regRow? r).isSome = true → s.portRead r = none → s.regView r = none →
            ∃ t, run = .next t ∧ (heard → t.gave m (s.reg r &&& ~~~s.absentBits r))
              ∧ s.sameBut t [] [.bus])))
  ∧ (
    ∀ (s : State) (q : QueueId), ∃ t, exec (.queueFlush q) s = .next t
      ∧ (match q with
        | .acq => t.acq = { s.acq with queue := ⟨[], []⟩ } ∧ s.sameBut t [] [.acq]
        | .gte => t.gte = { s.gte with queue := ⟨[], []⟩ } ∧ s.sameBut t [] [.gte]
        | .rx => t.net = { s.net with rxq := ⟨[], []⟩ } ∧ s.sameBut t [] [.net]
        | .cpl => t.cnv = { s.cnv with queue := ⟨[], []⟩ } ∧ s.sameBut t [] [.cnv]
        | .tx c => (t.net.chan[c]).txq = ⟨[], []⟩ ∧ (t.net.chan[c]).push = [] ∧ (∀ d : Fin 8, d ≠ c → t.net.chan[d] = s.net.chan[d])
            ∧ (t.net.chan[c]).buf = (s.net.chan[c]).buf ∧ t.net.rxq = s.net.rxq ∧ s.sameBut t [] [.net]))

/-! ### Acquisition and position -/

/-- R151 to R153, R157, R162: a trigger starts a scan with its queue space reserved, is held, or is dropped; a return to service.
R155, R156, R159: a conversion of a running scan that is not its last is judged against its window and averaged; it is delivered
to no table drive and to no drive. The latching of the queue's mask and priority, and what an invalid channel keeps, are the
model's (log entries 147 to 149). -/
def Obligations.AcquisitionScansAndJudges : Prop :=
  (
    ∀ s : State,
      (∀ k : Fin 8,
        let c := s.acq.conv[k]
        let set (f : Fld) : List Nat := ((List.range 6).filter fun j => (s.fld (R.ACQ_C_CFG k.val) f).testBit j).map (6 * k.val + ·)
        let chans := set F.ACQ_C_CFG_MASK
        let need := (chans.filter fun n => (set F.ACQ_C_CFG_QMASK).contains n).length
        let used := s.acq.queue.words + (s.acq.conv.toList.map (·.reserved)).sum
        ∃ t, exec (.acqSoftwareTrigger k) s = .next t
          ∧ (s.up = false ∨ (c.scan = [] ∧ chans = []) → t = s)
          ∧ (s.up = true → c.scan = [] → chans ≠ [] → t.acq.conv[k] =
                { c with scan := chans, scanTd := none, pkt := if need = 0 ∨ 512 < used + need then none else some []
                         reserved := if need = 0 ∨ 512 < used + need then 0 else need
                         qmask := s.fld (R.ACQ_C_CFG k.val) F.ACQ_C_CFG_QMASK, qpri := s.fld (R.ACQ_C_CFG k.val) F.ACQ_C_CFG_QPRI }
              ∧ (∀ x : Fin 8, x ≠ k → t.acq.conv[x] = s.acq.conv[x]) ∧ t.acq.chan = s.acq.chan ∧ t.acq.queue = s.acq.queue
              ∧ (if need ≠ 0 ∧ 512 < used + need then
                  t.bit R.ACQ_STAT F.ACQ_STAT_QOVF = true ∧ s.fires t [148]
                    ∧ s.sameBut t [R.ACQ_STAT] [.acq, .latches, .pending]
                 else s.sameBut t [] [.acq]))
          ∧ (s.up = true → c.scan ≠ [] → c.held = none → t.acq.conv[k] = { c with held := some none } ∧ s.sameBut t [] [.acq])
          ∧ (s.up = true → c.scan ≠ [] → c.held ≠ none → t.acq = s.acq ∧ s.fires t [146] ∧ t.bit R.ACQ_STAT F.ACQ_STAT_TRGOVR = true
              ∧ t.fld (R.ACQ_C_STAT k.val) F.ACQ_C_STAT_OVRCNT = min (s.fld (R.ACQ_C_STAT k.val) F.ACQ_C_STAT_OVRCNT + 1) 255
              ∧ s.sameBut t [R.ACQ_C_STAT k.val, R.ACQ_STAT] [.latches, .pending]))
      ∧ ∀ n : Fin 48, ∃ t, exec (.channelReturn n) s = .next t
          ∧ (if s.bit (R.ACQ_CH_ST n.val) F.ACQ_CH_ST_INVALID = true then
              t.bit (R.ACQ_CH_ST n.val) F.ACQ_CH_ST_INVALID = false
                ∧ t.acq.chan[n] = { s.acq.chan[n] with sum := 0, count := 0, rejected := false }
                ∧ s.sameBut t [R.ACQ_CH_ST n.val] [.acq]
             else t = s))
  ∧ (
    ∀ (s : State) (k : Fin 8) (code : BitVec 12),
      (s.up = false ∨ (s.acq.conv[k]).scan = [] → exec (.conversionComplete k code) s = .next s)
      ∧ (s.up = true → ∀ n : Fin 48, (s.acq.conv[k]).scan.head? = some n.val → ∃ t, exec (.conversionComplete k code) s = .next t
        ∧ t.fld (R.ACQ_CH_ST n.val) F.ACQ_CH_ST_LAST = code.toNat
        ∧ ((s.acq.conv[k]).scan.tail ≠ [] → (t.acq.conv[k]).scan = (s.acq.conv[k]).scan.tail)
        ∧ ((s.acq.conv[k]).scan.tail = [] → (s.acq.conv[k]).held = none → (t.acq.conv[k]).scan = [] ∧ (t.acq.conv[k]).pkt = none)
        ∧ (∀ j, j ≠ k → t.acq.conv[j] = s.acq.conv[j]) ∧ t.pending = s.pending ∧ (∀ a, t.byte a = s.byte a)))
  ∧ (
    ∀ (s : State) (k : Fin 8) (code : BitVec 12) (n : Fin 48),
      s.up = true → (s.acq.conv[k]).scan.head? = some n.val → (s.acq.conv[k]).scan.tail ≠ [] → s.acq.conv[k].scanTd = none →
      (∀ d : Fin 5, s.fld (R.ACT_D_ST d.val) F.ACT_D_ST_STATE < 2 ∨ 5 < s.fld (R.ACT_D_ST d.val) F.ACT_D_ST_STATE) →
      s.hasCharger = false ∨ s.fld R.ENP_BUS F.ENP_BUS_CH ≠ n.val ∨ s.enp.phase = .idle →
      let c := s.acq.chan[n]
      let st := R.ACQ_CH_ST n.val
      let invalid := s.bit st F.ACQ_CH_ST_INVALID
      let good := s.fld (R.ACQ_CH_WIN n.val) F.ACQ_CH_WIN_MIN ≤ code.toNat ∧ code.toNat ≤ s.fld (R.ACQ_CH_WIN n.val) F.ACQ_CH_WIN_MAX
      ∃ t, exec (.conversionComplete k code) s = .next t
        ∧ (t.acq.conv[k]).scan = (s.acq.conv[k]).scan.tail ∧ t.fld st F.ACQ_CH_ST_LAST = code.toNat
        ∧ (∀ x : Fin 48, x ≠ n → t.acq.chan[x] = s.acq.chan[x])
        ∧ s.sameBut t [st] [.acq, .enp, .latches, .pending] ∧ t.enp.phase = s.enp.phase ∧ (s.hasCharger = false → t.enp = s.enp)
        ∧ (invalid = true → t.acq.chan[n] = c ∧ s.fires t [])
        ∧ (invalid = false → good → s.fires t []
          ∧ t.fld st F.ACQ_CH_ST_TRANS =
              (if c.rejected then min (s.fld st F.ACQ_CH_ST_TRANS + 1) 255 else s.fld st F.ACQ_CH_ST_TRANS)
          ∧ t.acq.chan[n] =
              (if 2 ^ s.fld (R.ACQ_CH_CFG n.val) F.ACQ_CH_CFG_AVGN ≤ c.count + 1 then
                { c with rejected := false, lastGood := code.toNat, sum := 0, count := 0, newAvg := true
                         avg := (c.sum + code.toNat) / 2 ^ s.fld (R.ACQ_CH_CFG n.val) F.ACQ_CH_CFG_SHIFT % 2 ^ 20 }
               else { c with rejected := false, lastGood := code.toNat, sum := c.sum + code.toNat, count := c.count + 1 }))
        ∧ (invalid = false → ¬ good → c.rejected = false →
          t.acq.chan[n] = { c with rejected := true } ∧ s.fires t [145]
            ∧ t.bit st F.ACQ_CH_ST_INVALID = false)
        ∧ (invalid = false → ¬ good → c.rejected = true →
          t.acq.chan[n] = { c with rejected := false } ∧ s.fires t [144]
            ∧ t.bit st F.ACQ_CH_ST_INVALID = true))

/-- R174, R175, R178: edges of encoders and Hall groups at an axis in service without an earlier failure. R171 to R173, R176,
R178, R181: resolver checks and SSI frames. That the first change is judged against a level of 0, and what a Hall code does after
an illegal one, are the model's (log entries 123 and 144). -/
def Obligations.PositionInputsMoveAxes : Prop :=
  (
    ∀ s : State, s.up = true →
      (∀ (k : Fin 4) (a b : Bool) (time : Nat), ∃ t, exec (.encoderEdge k a b time) s = .next t
        ∧ (t.pos.axis[(⟨2 + k.val, by omega⟩ : Fin 11)]).sensor = (if a then 1 else 0) + (if b then 2 else 0)
        ∧ s.sameBut t [R.POS_AX_POS (2 + k.val), R.POS_AX_ST (2 + k.val), R.POS_AX_SPD (2 + k.val), R.POS_STAT]
            [.pos, .latches, .pending])
      ∧ (∀ (g : Fin 3) (code : BitVec 3) (time : Nat), ∃ t, exec (.hallChange g code time) s = .next t
        ∧ (t.pos.axis[(⟨8 + g.val, by omega⟩ : Fin 11)]).sensor = code.toNat ^^^ s.fld (R.POS_HALL_CFG g.val) F.POS_HALL_CFG_POL
        ∧ s.sameBut t [R.POS_AX_POS (8 + g.val), R.POS_AX_ST (8 + g.val), R.POS_AX_SPD (8 + g.val), R.POS_STAT]
            [.pos, .latches, .pending])
      ∧ (∀ (k : Fin 4) (a b : Bool) (time : Nat),
        let x : Fin 11 := ⟨2 + k.val, by omega⟩
        let ax := s.pos.axis[x]
        let new := (if a then 1 else 0) + (if b then 2 else 0)
        s.bit (R.POS_AX_ST x.val) F.POS_AX_ST_INVALID = false → ax.failed = false → ax.sensor < 4 →
        ∃ t, exec (.encoderEdge k a b time) s = .next t ∧ (t.pos.axis[x]).sensor = new
          ∧ (∀ y : Fin 11, y ≠ x → t.pos.axis[y] = s.pos.axis[y])
          ∧ (ax.sensor ^^^ new = 0 → s.sameBut t [] [.pos])
          ∧ (ax.sensor ^^^ new = 3 → (t.pos.axis[x]).failed = true ∧ (t.pos.axis[x]).failTime = time
            ∧ t.fld (R.POS_AX_ST x.val) F.POS_AX_ST_CAUSE = 1 ∧ s.fires t [161]
            ∧ s.sameBut t [R.POS_AX_ST x.val] [.pos, .latches, .pending])
          ∧ (ax.sensor ^^^ new = 1 ∨ ax.sensor ^^^ new = 2 →
            (t.reg (R.POS_AX_POS x.val) = s.reg (R.POS_AX_POS x.val) + 1
              ∨ t.reg (R.POS_AX_POS x.val) = s.reg (R.POS_AX_POS x.val) - 1)
            ∧ (t.pos.axis[x]).last = some (time, t.reg (R.POS_AX_POS x.val)) ∧ (t.pos.axis[x]).edged = true
            ∧ t.bit (R.POS_AX_ST x.val) F.POS_AX_ST_STOP = false ∧ s.fires t []
            ∧ s.sameBut t [R.POS_AX_POS x.val, R.POS_AX_ST x.val, R.POS_AX_SPD x.val] [.pos]))
      ∧ (∀ (k : Fin 4) (rising : Bool), ∃ t, exec (.encoderIndex k rising) s = .next t
        ∧ (if s.bit (R.POS_ENC_CFG k.val) F.POS_ENC_CFG_ZEN = true ∧ rising ≠ s.bit (R.POS_ENC_CFG k.val) F.POS_ENC_CFG_ZPOL then
            t.reg (R.POS_ENC_ZLAT k.val) = s.reg (R.POS_AX_POS (2 + k.val)) ∧ s.fires t [163]
              ∧ s.sameBut t [R.POS_ENC_ZLAT k.val] [.latches, .pending]
           else t = s))
      ∧ ∀ (g : Fin 3) (code : BitVec 3) (time : Nat),
        let x : Fin 11 := ⟨8 + g.val, by omega⟩
        let ax := s.pos.axis[x]
        let new := code.toNat ^^^ s.fld (R.POS_HALL_CFG g.val) F.POS_HALL_CFG_POL
        s.bit (R.POS_AX_ST x.val) F.POS_AX_ST_INVALID = false → ax.failed = false →
        ∃ t, exec (.hallChange g code time) s = .next t ∧ (t.pos.axis[x]).sensor = new ∧ (t.pos.axis[x]).seen = true
          ∧ (∀ y : Fin 11, y ≠ x → t.pos.axis[y] = s.pos.axis[y])
          ∧ (new = ax.sensor → s.sameBut t [] [.pos])
          ∧ (new ≠ ax.sensor → new = 0 ∨ new = 7 →
            t.fld (R.POS_AX_ST x.val) F.POS_AX_ST_CAUSE = 1 ∧ s.fires t [161]
              ∧ s.sameBut t [R.POS_AX_ST x.val] [.pos, .latches, .pending])
          ∧ (0 < ax.sensor → ax.sensor < 7 → (new ^^^ ax.sensor = 1 ∨ new ^^^ ax.sensor = 2 ∨ new ^^^ ax.sensor = 4) →
            0 < new → new < 7 →
            (t.reg (R.POS_AX_POS x.val) = s.reg (R.POS_AX_POS x.val) + 1
              ∨ t.reg (R.POS_AX_POS x.val) = s.reg (R.POS_AX_POS x.val) - 1)
            ∧ s.sameBut t [R.POS_AX_POS x.val, R.POS_AX_ST x.val, R.POS_AX_SPD x.val] [.pos]))
  ∧ (
    ∀ s : State, s.up = true →
      (∀ (r : Fin 2) (amp : BitVec 12) (terr angle : BitVec 16) (speed : Word), r = 0 ∨ s.hasB = true →
        ∃ t, exec (.resolverCheck r amp terr angle speed) s = .next t
          ∧ t.fld (R.POS_RES_ST r.val) F.POS_RES_ST_AMP = amp.toNat
          ∧ t.fld (R.POS_RES_ST r.val) F.POS_RES_ST_TRKERR = terr.toNat
          ∧ t.pending = s.pending ∧ (∀ a, t.byte a = s.byte a))
      ∧ (∀ (p : Fin 2) (raw : Word) (lineHigh : Bool) (time : Nat),
        let cfg := R.POS_SSI_CFG p.val
        let n := s.fld cfg F.POS_SSI_CFG_MT + s.fld cfg F.POS_SSI_CFG_ST + (if s.bit cfg F.POS_SSI_CFG_PAR then 1 else 0)
        ∃ t, exec (.ssiFrame p raw lineHigh time) s = .next t
          ∧ (t.reg (R.POS_SSI_RAW p.val)).toNat = raw.toNat % 2 ^ min 32 n
          ∧ t.pending = s.pending ∧ (∀ a, t.byte a = s.byte a))
      ∧ (∀ (r : Fin 2) (amp : BitVec 12) (terr angle : BitVec 16) (speed : Word),
        r = 0 ∨ s.hasB = true → s.fld (R.POS_MOT_CFG r.val) F.POS_MOT_CFG_SRC = 0 →
        s.bit (R.POS_AX_ST r.val) F.POS_AX_ST_INVALID = false →
        let x : Fin 11 := ⟨r.val, by omega⟩
        let ampOk := s.fld (R.POS_RES_CFG r.val) F.POS_RES_CFG_AMIN ≤ amp.toNat
          ∧ amp.toNat ≤ s.fld (R.POS_RES_CFG r.val) F.POS_RES_CFG_AMAX
        let trkOk := terr.toInt.natAbs ≤ 8 * s.fld (R.POS_RES_CFG r.val) F.POS_RES_CFG_TERR
        let pairs : Nat := if s.fld (R.POS_MOT_CFG r.val) F.POS_MOT_CFG_RPP = 0 then 4 else s.fld (R.POS_MOT_CFG r.val) F.POS_MOT_CFG_RPP
        let turning : Int := if s.bit (R.POS_MOT_CFG r.val) F.POS_MOT_CFG_INV then -Int.tdiv speed.toInt pairs else Int.tdiv speed.toInt pairs
        ∃ t, exec (.resolverCheck r amp terr angle speed) s = .next t
          ∧ t.fld (R.POS_RES_ST r.val) F.POS_RES_ST_AMP = amp.toNat
          ∧ t.fld (R.POS_RES_ST r.val) F.POS_RES_ST_TRKERR = terr.toNat
          ∧ (ampOk → trkOk → t.reg (R.POS_AX_SPD r.val) = BitVec.ofInt 32 turning ∧ (t.pos.axis[x]).failed = false
            ∧ t.fld (R.POS_AX_ST r.val) F.POS_AX_ST_TRANS =
                (if (s.pos.axis[x]).failed then min (s.fld (R.POS_AX_ST r.val) F.POS_AX_ST_TRANS + 1) 255
                 else s.fld (R.POS_AX_ST r.val) F.POS_AX_ST_TRANS))
          ∧ (¬ (ampOk ∧ trkOk) → t.reg (R.POS_AX_POS r.val) = s.reg (R.POS_AX_POS r.val)
            ∧ (if (s.pos.axis[x]).failed then
                t.bit (R.POS_AX_ST r.val) F.POS_AX_ST_INVALID = true ∧ t.bit R.POS_STAT F.POS_STAT_AXFAIL = true
                  ∧ t.bit R.MOD_DEG F.MOD_DEG_FEEDBACK = true ∧ t.reg (R.POS_AX_SPD r.val) = 0
               else t.bit (R.POS_AX_ST r.val) F.POS_AX_ST_INVALID = false ∧ (t.pos.axis[x]).failed = true ∧ s.fires t [161]
                 ∧ t.fld (R.POS_AX_ST r.val) F.POS_AX_ST_CAUSE = (if s.fld (R.POS_RES_CFG r.val) F.POS_RES_CFG_AMIN ≤ amp.toNat
                     ∧ amp.toNat ≤ s.fld (R.POS_RES_CFG r.val) F.POS_RES_CFG_AMAX then 3 else 2)
                 ∧ s.sameBut t [R.POS_RES_ST r.val, R.POS_AX_ST r.val] [.pos, .latches, .pending])))
      ∧ ∀ (p : Fin 2) (raw : Word) (lineHigh : Bool) (time : Nat),
        let cfg := R.POS_SSI_CFG p.val
        let a := 6 + p.val
        let x : Fin 11 := ⟨a, by omega⟩
        let n := s.fld cfg F.POS_SSI_CFG_MT + s.fld cfg F.POS_SSI_CFG_ST + (if s.bit cfg F.POS_SSI_CFG_PAR then 1 else 0)
        n ≤ 32 →
        ∃ t, exec (.ssiFrame p raw lineHigh time) s = .next t
          ∧ (t.reg (R.POS_SSI_RAW p.val)).toNat = raw.toNat % 2 ^ n
          ∧ (lineHigh = false → s.bit (R.POS_AX_ST a) F.POS_AX_ST_INVALID = false → (s.pos.axis[x]).failed = false →
            (t.pos.axis[x]).failed = true ∧ t.fld (R.POS_AX_ST a) F.POS_AX_ST_CAUSE = 4 ∧ s.fires t [161]
              ∧ s.sameBut t [R.POS_SSI_RAW p.val, R.POS_AX_ST a] [.pos, .latches, .pending])
          ∧ (lineHigh = true → s.bit cfg F.POS_SSI_CFG_PAR = false → s.bit cfg F.POS_SSI_CFG_GRAY = false →
            s.bit (R.POS_AX_ST a) F.POS_AX_ST_INVALID = false → (s.pos.axis[x]).failed = false →
            s.fld cfg F.POS_SSI_CFG_ST ≤ 16 →
            (t.pos.axis[x]).seen = true ∧ t.bit (R.POS_AX_ST a) F.POS_AX_ST_STOP = false
              ∧ ((0 < s.fld cfg F.POS_SSI_CFG_MT ∨ (s.pos.axis[x]).seen = false) → (t.reg (R.POS_AX_POS a)).bits 15 0 =
                  raw.toNat % 2 ^ n % 2 ^ s.fld cfg F.POS_SSI_CFG_ST * 2 ^ (16 - s.fld cfg F.POS_SSI_CFG_ST) % 65536)
              ∧ (0 < s.fld cfg F.POS_SSI_CFG_MT → (t.reg (R.POS_AX_POS a)).bits 31 16 =
                  raw.toNat % 2 ^ n / 2 ^ s.fld cfg F.POS_SSI_CFG_ST % 65536)))

/-- R178, R179, R184, R185, R187, R190: axes return to service and time out; the travel counters take the wheels' advance, and a
wheel whose axis is invalid freezes. -/
def Obligations.TravelFollowsTheWheels : Prop :=
  ∀ s : State,
    (∀ a : Fin 11, ∃ t, exec (.axisReturn a) s = .next t
      ∧ (if (a.val = 1 → s.hasB = true) ∧ s.bit (R.POS_AX_ST a.val) F.POS_AX_ST_INVALID = true then
          t.bit (R.POS_AX_ST a.val) F.POS_AX_ST_INVALID = false ∧ (t.pos.axis[a]).failed = false
            ∧ (t.pos.axis[a]).last = none
            ∧ (2 ≤ a.val → a.val ≠ 6 → a.val ≠ 7 → t.reg (R.POS_AX_POS a.val) = s.reg (R.POS_AX_POS a.val))
            ∧ t.bit R.MOD_DEG F.MOD_DEG_FEEDBACK = (t.bit (R.POS_AX_ST 0) F.POS_AX_ST_INVALID
                || (s.hasB && t.bit (R.POS_AX_ST 1) F.POS_AX_ST_INVALID))
            ∧ s.sameBut t [R.POS_AX_ST a.val, R.POS_AX_POS a.val, R.POS_MOT_EANG a.val, R.MOD_DEG]
                [.pos, .mod, .latches, .pending]
         else t = s))
    ∧ (∀ value : Word, ∃ t, exec (.travelAdjust value) s = .next t ∧ t.pos = { s.pos with adjust := some value }
      ∧ s.sameBut t [] [.pos])
    ∧ (s.up = true →
      (∀ a : Fin 11, ∃ t, exec (.axisTimeout a) s = .next t
        ∧ (if 2 ≤ a.val ∧ s.bit (R.POS_AX_ST a.val) F.POS_AX_ST_STOP = false then
            t.reg (R.POS_AX_SPD a.val) = 0 ∧ t.bit (R.POS_AX_ST a.val) F.POS_AX_ST_STOP = true ∧ s.fires t [162]
              ∧ s.sameBut t [R.POS_AX_SPD a.val, R.POS_AX_ST a.val] [.latches, .pending]
           else t = s))
      ∧ (∃ t, exec .travelUpdate s = .next t ∧ t.pos.axis = s.pos.axis
        ∧ s.sameBut t [R.POS_TRV_L, R.POS_TRV_R, R.POS_TRV_C, R.POS_TRVSTAT, R.POS_STAT, R.POS_EMU_LAG 0, R.POS_EMU_LAG 1]
            [.pos, .latches, .pending])
      ∧ (s.bit R.POS_TRVSRC F.POS_TRVSRC_SEL = false →
        let l := s.fld R.POS_TRVSRC F.POS_TRVSRC_LPRIM
        let r := s.fld R.POS_TRVSRC F.POS_TRVSRC_RPRIM
        let move (a : Nat) (was : Word) (inv : Bool) : Int :=
          (if inv then -(s.reg (R.POS_AX_POS a) - was).toInt else (s.reg (R.POS_AX_POS a) - was).toInt)
            * (s.reg R.POS_TRVCOEF).toNat
        let nl := s.pos.remL + move l s.pos.refL (s.bit R.POS_TRVSRC F.POS_TRVSRC_LPINV)
        let nr := s.pos.remR + move r s.pos.refR (s.bit R.POS_TRVSRC F.POS_TRVSRC_RPINV)
        l ≤ 10 → r ≤ 10 → (l = 1 → s.hasB = true) → (r = 1 → s.hasB = true) →
        s.bit (R.POS_AX_ST r) F.POS_AX_ST_INVALID = false → s.bit R.POS_TRVSTAT F.POS_TRVSTAT_RFRZ = false →
        s.bit R.POS_TRVSTAT F.POS_TRVSTAT_LFRZ = false →
        ∃ t, exec .travelUpdate s = .next t
          ∧ t.reg R.POS_TRV_R = s.reg R.POS_TRV_R + BitVec.ofInt 32 (nr / 2 ^ 24) ∧ t.pos.remR = nr % 2 ^ 24
          ∧ t.pos.refR = s.reg (R.POS_AX_POS r)
          ∧ (if s.bit (R.POS_AX_ST l) F.POS_AX_ST_INVALID = false then
              t.reg R.POS_TRV_L = s.reg R.POS_TRV_L + BitVec.ofInt 32 (nl / 2 ^ 24) ∧ t.pos.remL = nl % 2 ^ 24
                ∧ t.reg R.POS_TRV_C =
                    s.reg R.POS_TRV_C + BitVec.ofInt 32 ((s.pos.remC + nl / 2 ^ 24 + nr / 2 ^ 24) / 2)
             else t.reg R.POS_TRV_L = s.reg R.POS_TRV_L ∧ t.bit R.POS_TRVSTAT F.POS_TRVSTAT_LFRZ = true
               ∧ t.bit R.POS_STAT F.POS_STAT_TRVFRZ = true
               ∧ t.reg R.POS_TRV_C = s.reg R.POS_TRV_C + BitVec.ofInt 32 ((s.pos.remC + nr / 2 ^ 24) / 2))
          ∧ s.sameBut t [R.POS_TRV_L, R.POS_TRV_R, R.POS_TRV_C, R.POS_TRVSTAT, R.POS_STAT, R.POS_EMU_LAG 0, R.POS_EMU_LAG 1]
              [.pos, .latches, .pending]))

/-- R191 to R193, R199, R208, R209: probes, emulation outputs and command pads. -/
def Obligations.ProbesEmulationAndPads : Prop :=
  ∀ s : State, s.up = true →
    (∀ (p : Fin 4) (rising : Bool) (fine : BitVec 8),
      let cfg := R.POS_PRB_CFG p.val
      let taken := (s.fld cfg F.POS_PRB_CFG_EDGE).testBit (if rising then 0 else 1)
      let trv := s.fld cfg F.POS_PRB_CFG_TRV
      ∃ t, exec (.probeEdge p rising fine) s = .next t
        ∧ (taken = false → t = s)
        ∧ (taken = true → (s.pos.probe[p]).waiting = true → (t.pos.probe[p]) = { s.pos.probe[p] with ovr := true }
          ∧ t.bit R.POS_STAT F.POS_STAT_PRBOVR = true ∧ s.fires t [168]
          ∧ s.sameBut t [R.POS_STAT] [.pos, .latches, .pending])
        ∧ (taken = true → (s.pos.probe[p]).waiting = false →
          t.reg (R.POS_PRB_POS p.val) = s.reg (R.POS_AX_POS (s.fld cfg F.POS_PRB_CFG_AXIS))
          ∧ t.reg (R.POS_PRB_TRV p.val) =
              s.reg (if trv = 0 then R.POS_TRV_L else if trv = 1 then R.POS_TRV_R else R.POS_TRV_C)
          ∧ t.reg (R.POS_PRB_TIME p.val) = s.reg R.NET_TIME ∧ t.pos.probe[p] = ⟨true, rising, false, fine.toNat⟩
          ∧ s.fires t [164 + p.val]
          ∧ s.sameBut t [R.POS_PRB_POS p.val, R.POS_PRB_TRV p.val, R.POS_PRB_TIME p.val] [.pos, .latches, .pending]))
    ∧ (∀ m : Fin 2,
      let e := s.pos.emu[m]
      ∃ t, exec (.emulationEdge m) s = .next t
        ∧ (e.owed = 0 ∨ s.fld (R.POS_EMU_CFG m.val) F.POS_EMU_CFG_SRC = 3 ∨ s.clk.fault = true → t = s)
        ∧ (e.owed ≠ 0 → s.fld (R.POS_EMU_CFG m.val) F.POS_EMU_CFG_SRC ≠ 3 → s.clk.fault = false →
          (t.pos.emu[m]).owed = (if 0 < e.owed then e.owed - 1 else e.owed + 1)
          ∧ (t.pos.emu[m]).phase = (if 0 < e.owed then e.phase + 1 else e.phase + 3) % 4
          ∧ (t.pos.emu[m]).acc = e.acc ∧ (t.pos.emu[m]).forward = decide (0 < e.owed)
          ∧ (s.bit (R.POS_EMU_CFG m.val) F.POS_EMU_CFG_MODE = false → e.phase < 4 →
            ((t.emuPads m).1 = (s.emuPads m).1 ↔ (t.emuPads m).2.1 ≠ (s.emuPads m).2.1))
          ∧ (s.bit (R.POS_EMU_CFG m.val) F.POS_EMU_CFG_MODE = true → (t.emuPads m).2.1 = decide (0 < e.owed))
          ∧ t.reg (R.POS_EMU_LAG m.val) = BitVec.ofNat 32 (t.pos.emu[m]).owed.natAbs
          ∧ s.sameBut t [R.POS_EMU_LAG m.val] [.pos]))
    ∧ ∀ p : Fin 4,
      let form := s.fld (R.CLE_CMD_CFG p.val) F.CLE_CMD_CFG_FORM
      (∀ period high : Nat, high ≤ period →
        let h := if s.bit (R.CLE_CMD_CFG p.val) F.CLE_CMD_CFG_POL then period - high else high
        ∃ t, exec (.commandPadEdge p period high) s = .next t ∧ s.sameBut t [] [.cle]
          ∧ (form = 0 ∨ form = 3 → t = s)
          ∧ (form = 1 → 10000 ≤ period → period ≤ 2000000 →
            ((t.cle.pad[p]).value = min 65535 (h * 65536 / period) ∨ (t.cle.pad[p]).value = min 65535 (h * 65536 / period + 1))
            ∧ (t.cle.pad[p]).timedOut = false ∧ (t.cle.pad[p]).range = false)
          ∧ (form = 1 → period < 10000 ∨ 2000000 < period → (t.cle.pad[p]).value = 0 ∧ (t.cle.pad[p]).range = true)
          ∧ (form = 2 → 20000 ≤ period → period ≤ 200000000 →
            ((t.cle.pad[p]).value = min 16777215 (204800000000 / period)
              ∨ (t.cle.pad[p]).value = min 16777215 (204800000000 / period + 1))
            ∧ (t.cle.pad[p]).timedOut = false ∧ (t.cle.pad[p]).range = false))
      ∧ ∃ t, exec (.commandPadTimeout p) s = .next t
        ∧ (if form = 1 ∨ form = 2 then t.cle.pad[p] = { s.cle.pad[p] with value := 0, timedOut := true }
            ∧ t.bit R.CLE_STAT F.CLE_STAT_CMDTO = true ∧ s.fires t [70]
            ∧ s.sameBut t [R.CLE_STAT] [.cle, .latches, .pending]
           else t = s)

/-! ### Control engine and the sample boundary -/

/-- R205, R212, R218, R223: slot requests wait for the boundary; a capture starts in SERVICE alone, and ends by writing the means
of its bins. -/
def Obligations.CaptureAndSlotRequests : Prop :=
  ∀ s : State,
    (∀ n : Fin 64,
      (∃ t, exec (.slotReset n) s = .next t ∧ t.cle.slot[n] = { s.cle.slot[n] with rst := true }
        ∧ (∀ x : Fin 64, x ≠ n → t.cle.slot[x] = s.cle.slot[x]) ∧ s.sameBut t [] [.cle])
      ∧ (∃ t, exec (.slotAltA n) s = .next t ∧ t.cle.slot[n] = { s.cle.slot[n] with altA := true }
        ∧ (∀ x : Fin 64, x ≠ n → t.cle.slot[x] = s.cle.slot[x]) ∧ s.sameBut t [] [.cle])
      ∧ (∃ t, exec (.slotAltB n) s = .next t ∧ t.cle.slot[n] = { s.cle.slot[n] with altB := true }
        ∧ (∀ x : Fin 64, x ≠ n → t.cle.slot[x] = s.cle.slot[x]) ∧ s.sameBut t [] [.cle]))
    ∧ (∀ (m : Master) (value : Word),
      if value &&& 0x7F0000C0 ≠ 0 then exec (.captureStart m value) s = .fault .hostMistake
      else ∃ t, exec (.captureStart m value) s = .next t
        ∧ (s.lockInForce = true → t.lastStatus m = .locked ∧ s.sameBut t [] [.bus])
        ∧ (s.lockInForce = false → s.modePermits .stageTest = true → t.lastStatus m = .ok
          ∧ t.shadowOf R.CLE_CAP = some value ∧ s.sameBut t [] [.bus, .shadow])
        ∧ (s.lockInForce = false → s.modePermits .stageTest = false → s.refusedFor t m R.CLE_CAP))
    ∧ (s.cle.capture = none → exec .captureEnd s = .next s)
    ∧ ∀ c, s.cle.capture = some c →
      let revs := if s.fld R.CLE_CAP F.CLE_CAP_REVS = 0 then 256 else s.fld R.CLE_CAP F.CLE_CAP_REVS
      let base := 0x22000000 + 1024 * s.fld R.CLE_CAP F.CLE_CAP_PAGE
      (c.travelled < revs * 65536 → exec .captureEnd s = .next s)
      ∧ (revs * 65536 ≤ c.travelled → (∀ b ∈ c.bins, b.1 < 256) →
        ∃ t, exec .captureEnd s = .next t ∧ t.cle.capture = none
          ∧ ((c.bins.map (·.1)).Nodup → ∀ b ∈ c.bins, t.word (base + 4 * b.1) = BitVec.ofInt 32 (b.2.1 / (b.2.2 : Int)))
          ∧ t.bit R.CLE_CAP F.CLE_CAP_EN = false ∧ t.bit R.CLE_CAPST F.CLE_CAPST_DONE = true
          ∧ t.fld R.CLE_CAPST F.CLE_CAPST_EMPTY = 256 - c.bins.length ∧ s.fires t [71]
          ∧ s.leaves t (fun r => r = R.CLE_CAP ∨ r = R.CLE_CAPST) [.cle, .latches, .pending]
              (fun a => base ≤ a ∧ a < base + 1024))

/-- R204: whatever a slot's operands are, its output lies within OMIN and OMAX, an integrator within its limits stays there, and a
first-order filter law leaves it alone. -/
def Obligations.SlotOutputsStayWithinLimits : Prop :=
  ∀ p : SlotIn, p.omin ≤ p.omax → p.imin ≤ p.imax →
    let o := slotEval p
    p.omin ≤ o.y ∧ o.y ≤ p.omax ∧ (p.imin ≤ p.i → p.i ≤ p.imax → p.imin ≤ o.i ∧ o.i ≤ p.imax)
      ∧ (p.law = 3 → o.i = p.i) ∧ (o.lim = false → o.y ≤ p.omax ∧ p.omin ≤ o.y)
      ∧ -2147483648 ≤ o.e ∧ o.e ≤ 2147483647 ∧ -2147483648 ≤ o.v ∧ o.v ≤ 2147483647

/-- R21, R24, R30, R34, R49, R66, R69, R220, R222, R223, R482: a boundary counts `SYS_SMPLCNT` and raises event 0; a control phase judges a
signature that has not come and raises event 68; `SYS_SMPL` is taken in IDLE and SERVICE alone. That settings which contradict each other fault at a boundary, and
which of the moments given is one, are the model's (log entries 1 and 10). -/
def Obligations.BoundaryAndControlPhase : Prop :=
  ∀ s : State,
    (∀ c0 c1 c2 c3 : BitVec 12,
      let falls := s.clk.started = true ∧ s.clk.clocked = true ∧ s.mode ≠ .off ∧ s.boundaryDue = true
      (¬ falls → exec (.sampleBoundary c0 c1 c2 c3) s = .next s)
      ∧ (falls → s.settingsBad = true → exec (.sampleBoundary c0 c1 c2 c3) s = .fault .hostMistake)
      ∧ (falls → s.settingsBad = false → ∃ t, exec (.sampleBoundary c0 c1 c2 c3) s = .next t
        ∧ t.reg R.SYS_SMPLCNT = s.reg R.SYS_SMPLCNT + 1 ∧ t.evt.pend.getLsbD 0 = true ∧ t.pending = s.pending
        ∧ t.variant = s.variant ∧ t.clk.reloads = 0 ∧ t.clk.due = false ∧ (∀ a, a < 0x22000000 → t.byte a = s.byte a)))
    ∧ (s.clk.smplEff.bit 12 = false ∨ s.tbRunning 0 = false → s.boundaryDue = true)
    ∧ (∃ t, exec .controlPhase s = .next t
      ∧ (if s.up = true then t.evt.pend.getLsbD 68 = true ∧ t.pending = s.pending ∧ t.clk = s.clk ∧ t.twn.sigWait = false
            ∧ (s.twn.sigWait = false → t.mod = s.mod ∧ ∀ a, t.byte a = s.byte a)
            ∧ (∀ a, a < 0x24010000 ∨ 0x24020000 ≤ a → t.byte a = s.byte a)
         else t = s))
    ∧ ∀ (m : Master) (value : Word),
      if value.bits 31 13 ≠ 0 then exec (.sysSmplWrite m value) s = .fault .hostMistake
      else ∃ t, exec (.sysSmplWrite m value) s = .next t ∧ t.lastStatus m = .ok
        ∧ (if s.mode = .idle ∨ s.mode = .service then
            t.reg R.SYS_SMPL = value ∧ t.shadowOf R.SYS_SMPL = some value ∧ t.clk = s.clk
              ∧ s.sameBut t [R.SYS_SMPL] [.bus, .shadow]
           else t.bit R.SYS_STAT F.SYS_STAT_SMPL_IGN = true ∧ s.sameBut t [R.SYS_STAT] [.bus])

/-! ### Modes, lock-out and resets -/

/-- R54, R55, R57, R60, R62, R78, R86, R148: a mode request, of a master or of an engine, is judged in the order of R55. Taken, it
waits for the next boundary; in a pair the quiet module forwards it instead. -/
def Obligations.ModeRequestsAreJudged : Prop :=
  (∀ (s : State) (tgt : BitVec 4),
    (∀ m : Master, ∃ t, exec (.modeRequest m tgt) s = .next t ∧ t.mode = s.mode ∧ t.pending = s.pending
      ∧ (∀ a, t.byte a = s.byte a))
    ∧ ∀ e : Fin 8, s.mayIssue e 1 → ∃ t, exec (.mreq e tgt) s = .next t ∧ t.mode = s.mode
      ∧ (t.engine e).pc = (s.engine e).pc + 1 ∧ t.fld (R.SEQ_LAST e.val) F.SEQ_LAST_OPCODE = 0x1B
      ∧ t.pending = s.pending ∧ (∀ a, t.byte a = s.byte a))
  ∧ ∀ (s : State) (tgt : BitVec 4), s.quiet = false → s.twn.forwarded = none → tgt ≠ 11 →
    let n := tgt.toNat
    let g := match Mode.ofCode n with | some m => s.guardCode s.mode m | none => 0
    let toLimp := s.mode = .parked ∧ (n = 5 ∨ n = 6) ∧ s.degraded = true
    let took (t : State) (src : ReqSource) (addr : Nat) : Prop :=
      t.mod = { s.mod with
          trans := some ⟨src, (if toLimp then .limp else ((Mode.ofCode n).getD .off)), decide toLimp, false, addr⟩ }
        ∧ t.requestRecorded false src (if toLimp then 10 else n) 0 .ok
        ∧ t.bit R.MOD_STAT F.MOD_STAT_REDIRECT = (decide toLimp || s.bit R.MOD_STAT F.MOD_STAT_REDIRECT)
    let ended (t : State) (src : ReqSource) (st : Status) (refused : List Nat) : Prop :=
      t.mod = s.mod
        ∧ (if s.mod.trans = none then t.requestRecorded true src n (if st = .outOfRange then g else 0) st
           else t.reg R.MOD_REQSTAT = s.reg R.MOD_REQSTAT)
        ∧ t.bit R.MOD_STAT F.MOD_STAT_UNREC =
            ((s.mod.trans.isSome && decide (src.code < 3)) || s.bit R.MOD_STAT F.MOD_STAT_UNREC)
        ∧ s.fires t ((if s.mod.trans = none then [17] else []) ++ (if st = .outOfRange then [18] else [])
            ++ (if st = .wrongMode then refused else []))
    (∀ m : Master, ∃ t, exec (.modeRequest m tgt) s = .next t
      ∧ (match s.judged n with
        | some st => ended t (masterSource m) st [(State.refusalOf m).2.2] ∧ t.lastStatus m = st
            ∧ (st = .wrongMode → t.bit (State.refusalOf m).1 F.HPT_REF_REFUSED = true)
            ∧ s.sameBut t [R.MOD_REQSTAT, R.MOD_STAT, (State.refusalOf m).1, (State.refusalOf m).2.1]
                [.bus, .latches, .pending, .free]
        | none => took t (masterSource m) 0 ∧ s.sameBut t [R.MOD_REQSTAT, R.MOD_STAT] [.mod, .free]))
    ∧ ∀ e : Fin 8, s.mayIssue e 1 → ∃ t, exec (.mreq e tgt) s = .next t
      ∧ (t.engine e).pc = (s.engine e).pc + 1 ∧ (t.engine e).state = .running
      ∧ t.fld (R.SEQ_LAST e.val) F.SEQ_LAST_OPCODE = 0x1B
      ∧ t.fld (R.SEQ_LAST e.val) F.SEQ_LAST_STATUS = ((s.judged n).getD .ok).code
      ∧ s.sameBut t [R.SEQ_LAST e.val, R.SEQ_REF e.val, R.SEQ_EXC e.val, R.SEQ_CNT e.val, R.MOD_REQSTAT, R.MOD_STAT]
          [.engines, .latches, .pending, .mod, .free]
      ∧ (match s.judged n with
        | some st => t.mod = s.mod
            ∧ (s.mod.trans = none → t.requestRecorded true (.engine e) n (if st = .outOfRange then g else 0) st)
            ∧ (st = .wrongMode → t.bit (R.SEQ_REF e.val) F.SEQ_REF_REFUSED = true)
        | none => took t (.engine e) (s.engine e).pc)

/-- R57, R58, R73, R78, R84, R86, R517, R579: a request for LOCKOUT, the sequence of R73, and a transition whose entry action is
not confirmed in time. -/
def Obligations.LockoutAndTimeout : Prop :=
  ∀ s : State,
    (∀ m : Master, ∃ t, exec (.lockoutRequest m) s = .next t
      ∧ (if s.mod.lock ≠ .none then t.lastStatus m = .locked ∧ t.mod = s.mod
         else if s.up = true then t.lastStatus m = .ok ∧ s.lockedOut t 9 0 ∧ t.requestRecorded true (masterSource m) 11 0 .ok
           ∧ t.evt.pend.getLsbD 17 = true
         else t.lastStatus m = .wrongMode ∧ t.mod = s.mod)
      ∧ s.sameBut t (R.MOD_LOCKCAUSE :: State.requestRegs) [.mod, .saf, .twn, .bus, .latches, .pending])
    ∧ (∃ t, exec .lockoutSequence s = .next t
      ∧ (if s.mod.lock = .inForce ∧ s.mod.lockDone = false then
          t.gdp.en = 0 ∧ t.reg R.SAF_EN = 0 ∧ t.fld R.SAF_OUT F.SAF_OUT_CMD = 0
            ∧ (∀ j : Fin 8, t.saf.out[j] = if s.saf.out[j] = .off then .off else .falling)
            ∧ t.mod.lockDone = true ∧ t.mod.lock = .inForce
            ∧ t.mode = (if (s.clk.started = false ∨ s.clk.fault = true) then .lockout else s.mode)
            ∧ t.pending = s.pending ∧ (∀ a, t.byte a = s.byte a) ∧ t.clk = s.clk
         else t = s))
    ∧ ∃ t, exec .transitionTimeout s = .next t
      ∧ (match s.mod.trans with
        | none => t = s
        | some x =>
          if x.pend = true ∧ s.entryDone s.mode x.tgt = false then
            t.mod = { s.mod with trans := none, suspended := some x.tgt } ∧ t.bit R.MOD_STAT F.MOD_STAT_TRANS_TO = true
              ∧ t.requestRecorded true x.src x.tgt.code 0 .timeout ∧ s.fires t [17, 22]
              ∧ (∀ m, x.src = masterSource m → t.lastStatus m = .timeout)
              ∧ s.sameBut t [R.MOD_REQSTAT, R.MOD_STAT] [.mod, .bus, .twn, .latches, .pending]
          else t = s)

/-- R33, R34, R45, R70, R73, R84, R302: supply and clock faults. -/
def Obligations.SupplyAndClockFaults : Prop :=
  ∀ s : State,
    (∃ t, exec .vinLow s = .next t
      ∧ (if s.mode = .off then t = s else s.fires t [3] ∧ s.sameBut t [] [.latches, .pending]))
    ∧ (∃ t, exec .vinHigh s = .next t
      ∧ (if s.mode = .off then t = s else s.fires t [4] ∧ s.sameBut t [] [.latches, .pending]))
    ∧ (∃ t, exec .overVoltage s = .next t
      ∧ (if s.mode = .off then t = s
         else s.lockedOut t 3 0
           ∧ s.sameBut t (R.MOD_LOCKCAUSE :: State.requestRegs) [.mod, .saf, .twn, .bus, .latches, .pending]))
    ∧ (∀ rail : BitVec 8, ∃ t, exec (.railFault rail) s = .next t
      ∧ (if s.mode = .off then t = s
         else s.lockedOut t 2 rail.toNat ∧ t.evt.pend.getLsbD 5 = true
           ∧ s.sameBut t (R.MOD_LOCKCAUSE :: State.requestRegs) [.mod, .saf, .twn, .bus, .latches, .pending]))
    ∧ (∃ t, exec .driverSupplyDipExpiry s = .next t
      ∧ (if s.gdp.dip = false then t = s
         else t.gdp = { s.gdp with dip := false } ∧ t.evt.pend.getLsbD 5 = true
           ∧ (s.mode ≠ .off → t.mod.lock ≠ .none ∧ (t.reg R.MOD_LOCKCAUSE).bit 17 = true)
           ∧ s.sameBut t (R.MOD_LOCKCAUSE :: State.requestRegs) [.gdp, .mod, .saf, .twn, .bus, .latches, .pending, .free]))
    ∧ ∀ k : ClockFaultKind, ∃ t, exec (.clockFault k) s = .next t
      ∧ (if s.mode = .off then t = s
         else s.lockedOut t 1 0 ∧ t.clk.fault = true ∧ t.gdp.en = 0 ∧ t.reg R.SAF_EN = 0 ∧ t.reg R.GTE_OUT = 0
           ∧ t.fld R.SAF_OUT F.SAF_OUT_CMD = 0 ∧ t.pending = s.pending ∧ (∀ a, t.byte a = s.byte a)
           ∧ (∀ m : Fin 16, t.secPad m = .low) ∧ (∀ j : Fin 4, t.xenPad j = .low) ∧ (∀ m : Fin 2, t.emuPads m = (false, false, false))
           ∧ (∀ c : Fin 8, t.canDrives c = false) ∧ t.pilotPad = .hiz ∧ t.switchPad = .hiz ∧ t.nFaultPad = .low
           ∧ (match k with
             | .lockLost => t.bit R.SYS_CLKSTAT F.SYS_CLKSTAT_LOCK_LOST = true
                 ∧ t.bit R.SYS_CLKSTAT F.SYS_CLKSTAT_PLL_LOCK = false
             | .crystalOutOfTolerance => t.bit R.SYS_CLKSTAT F.SYS_CLKSTAT_XTAL_FAIL = true
                 ∧ t.bit R.SYS_CLKSTAT F.SYS_CLKSTAT_XTAL_OK = false ∧ (s.clk.clocked = true → t.evt.pend.getLsbD 2 = true)
             | .crystalStopped => t.bit R.SYS_CLKSTAT F.SYS_CLKSTAT_XTAL_FAIL = true
                 ∧ t.bit R.SYS_CLKSTAT F.SYS_CLKSTAT_XTAL_OK = false))

/-- R65 to R69, R71, R74, R82, R83, R507, R530, R578: power-on, brown-out and nRESET put every unit into its reset state and start
the module in BOOT; a wake does so from OFF where its source is enabled. The lock-out record and what safety flash holds stay. The
value 0 of `MOD_WAKESRC` and the cause of a VCP outside its window are the model's (log entries 138 and 139). -/
def Obligations.ResetsStartInBoot : Prop :=
  ∀ (s : State) (b : BootIn),
    let set : List Nat := [R.SYS_ID, R.SYS_CAPS, R.SYS_UID0, R.SYS_UID1, R.MOD_WAKECFG, R.MOD_LOCKCAUSE, R.SAF_DISC, R.SYS_CLKSTAT,
      R.MOD_RSTCAUSE, R.MOD_WAKESRC, R.SAF_STATE, R.SAF_KEY, R.MOD_STAT, R.HPT_BOOTCTL, R.TWN_ST, R.MOD_DEG]
    let started (t : State) (cause wakesrc : Word) : Prop :=
      t.mode = .boot ∧ t.mod.trans = none ∧ t.reg R.MOD_RSTCAUSE = cause ∧ t.reg R.MOD_WAKESRC = wakesrc
        ∧ (∀ r, r ∉ set → t.reg r = regReset r) ∧ (∀ e, t.engine e = State.reset.engine e)
        ∧ t.gdp.en = 0 ∧ t.wfu = State.reset.wfu ∧ t.shadow = [] ∧ t.evt.pend.getLsbD 16 = false
        ∧ t.fld R.HPT_BOOTCTL F.HPT_BOOTCTL_BOOTSEL = b.straps.toNat
        ∧ t.fld R.HPT_BOOTCTL F.HPT_BOOTCTL_RELEASE = (if b.straps = 0 ∨ b.straps = 3 then 3 else 0)
        ∧ t.bit R.SAF_STATE F.SAF_STATE_SELFTEST = b.selfTest ∧ t.saf.block = s.saf.flash ∧ t.saf.flash = s.saf.flash
        ∧ t.variant = s.variant ∧ t.pending = s.pending ∧ (∀ a, a < 0x00400000 → t.byte a = s.byte a)
        ∧ (s.bit R.MOD_LOCKCAUSE F.MOD_LOCKCAUSE_LATCHED = true → t.mod.lock = .inForce
            ∧ t.bit R.MOD_LOCKCAUSE F.MOD_LOCKCAUSE_LATCHED = true)
        ∧ (b.selfTest = false → t.mod.lock = .inForce ∧ (t.reg R.MOD_LOCKCAUSE).bit 19 = true)
        ∧ (b.vcp = false → t.mod.lock = .inForce ∧ (t.reg R.MOD_LOCKCAUSE).bit 17 = true)
    let kept (w : WakeSource) : Word :=
      match w with | .pad => 1 | .pilot => 2 | .can c => BitVec.ofNat 32 (2 ^ (8 + c.val))
    (∃ t, exec (.powerOn b) s = .next t ∧ started t 1 0x80000000)
    ∧ (∃ t, exec (.brownOut b) s = .next t ∧ started t 2 0)
    ∧ (∃ t, exec (.nreset b) s = .next t ∧ started t 4 0)
    ∧ (∀ w : WakeSource, ∃ t, exec (.wake w b) s = .next t
      ∧ (if s.mode = .off ∧ s.reg R.MOD_WAKECFG &&& kept w ≠ 0 then
          (if s.mod.sleeping = true then
            t.mod = { s.mod with keptWake := s.mod.keptWake ||| kept w } ∧ s.sameBut t [] [.mod]
           else started t (s.reg R.MOD_RSTCAUSE) (kept w) ∧ t.reg R.MOD_WAKECFG = s.reg R.MOD_WAKECFG)
         else t = s))
    ∧ ∃ t, exec (.sleepEntryEnd b) s = .next t
      ∧ (if s.mod.sleeping = false then t = s
         else if s.mod.keptWake = 0 then t.mod = { s.mod with sleeping := false, keptWake := 0 } ∧ s.sameBut t [] [.mod]
         else started t (s.reg R.MOD_RSTCAUSE) s.mod.keptWake)

/-! ### Section gates -/

/-- R14, R62, R145, R397 to R399, R421: a gate appended by a master or by an engine is judged, then stands at the end of its course;
a gate word with reserved bits is a host mistake. -/
def Obligations.GateIsAppended : Prop :=
  ∀ (s : State) (rel : Bool),
    (∀ (m : Master) (sec : BitVec 8),
      let i := sec.toNat
      let w := s.reg R.GTE_ASTATE
      let p := if rel then s.secTravel i + s.reg R.GTE_APOS else s.reg R.GTE_APOS
      let st := s.appendStatus i p w
      (w.bits 15 11 ≠ 0 → exec (.gateAppend m sec rel) s = .fault .hostMistake)
      ∧ (w.bits 15 11 = 0 → ∃ t, exec (.gateAppend m sec rel) s = .next t ∧ t.lastStatus m = st
        ∧ t.fld R.GTE_ASTAT F.GTE_ASTAT_SEC = i ∧ t.fld R.GTE_ASTAT F.GTE_ASTAT_STATUS = st.code
        ∧ (st = .ok ∨ st = .late → s.appended t i p w [R.GTE_ASTAT] [.bus])
        ∧ (st = .locked ∨ st = .outOfRange ∨ st = .busy → s.sameBut t [R.GTE_ASTAT] [.bus])
        ∧ (st = .wrongMode → t.bit (State.refusalOf m).1 F.HPT_REF_REFUSED = true ∧ s.fires t [(State.refusalOf m).2.2]
          ∧ s.sameBut t [R.GTE_ASTAT, (State.refusalOf m).1, (State.refusalOf m).2.1] [.bus, .latches, .pending])))
    ∧ ∀ (e : Fin 8) (va vb vc : Fin 16), s.mayIssue e 1 →
      let i := (s.v e vc).bits 7 0
      let w := s.v e vb
      let p := if rel then s.secTravel i + s.v e va else s.v e va
      let st := s.appendStatus i p w
      let pc := (s.engine e).pc + 1
      (w.bits 15 11 ≠ 0 → exec (.gate e va vb vc rel) s = .fault .hostMistake)
      ∧ (w.bits 15 11 = 0 → ∃ t, exec (.gate e va vb vc rel) s = .next t
        ∧ t.fld (R.SEQ_LAST e.val) F.SEQ_LAST_OPCODE = 0x18 ∧ t.fld (R.SEQ_LAST e.val) F.SEQ_LAST_STATUS = st.code
        ∧ (st = .ok → t.engine e = { s.engine e with pc := pc }
          ∧ s.appended t i p w [R.SEQ_LAST e.val] [.engines, .latches])
        ∧ (st = .late → (t.engine e).pc = pc ∧ s.fires t [35 + 4 * e.val]
          ∧ s.appended t i p w [R.SEQ_LAST e.val, R.SEQ_EXC e.val, R.SEQ_CNT e.val] [.engines, .latches, .pending])
        ∧ (st = .locked ∨ st = .outOfRange ∨ st = .busy → s.engineExcept t e 0x18 st pc [])
        ∧ (st = .wrongMode → (t.engine e).pc = pc ∧ t.bit (R.SEQ_REF e.val) F.SEQ_REF_REFUSED = true
          ∧ s.fires t [34 + 4 * e.val]
          ∧ s.sameBut t [R.SEQ_LAST e.val, R.SEQ_REF e.val, R.SEQ_CNT e.val] [.engines, .latches, .pending]))

/-- R407, R409, R410, R412, R414: frames of the section nodes, their timeouts, flushes and repeated HALTs. -/
def Obligations.SectionNodesConverse : Prop :=
  ∀ s : State, s.up = true →
    (∀ sec : BitVec 8, ∃ t, exec (.courseFlush sec) s = .next t ∧ t.sec sec.toNat = { s.sec sec.toNat with flush := true }
      ∧ (∀ j, j < 256 → j ≠ sec.toNat → t.sec j = s.sec j) ∧ s.sameBut t [] [.gte])
    ∧ (∃ t, exec .haltRepeat s = .next t ∧ (s.gte.halting = false ∨ s.quiet = true → t = s) ∧ t.gte = s.gte
      ∧ s.sameBut t [R.CNV_CNT2, R.CNV_STAT] [.net, .cnv, .latches, .pending])
    ∧ (∀ f : NodeMsg,
      (∃ t, exec (.conf f) s = .next t
        ∧ (match s.nodeSection f with
          | none => t.bit R.GTE_STAT F.GTE_STAT_UNK = true ∧ s.sameBut t [R.GTE_STAT] []
          | some i =>
            match (s.sec i).conv with
            | none => t.fld R.GTE_CNT F.GTE_CNT_DUPCNT = min (s.fld R.GTE_CNT F.GTE_CNT_DUPCNT + 1) 255
                ∧ s.sameBut t [R.GTE_CNT] []
            | some x =>
              (f.seq ≠ x.seq → t.fld R.GTE_CNT F.GTE_CNT_DUPCNT = min (s.fld R.GTE_CNT F.GTE_CNT_DUPCNT + 1) 255
                ∧ s.sameBut t [R.GTE_CNT] [])
              ∧ (f.seq = x.seq → f.state.toNat = x.word.bits 7 0 → f.time = (if x.fire then 0 else x.ta) → x.confirmed = false →
                i < 256 → (t.sec i).conv = some { x with confirmed := true }
                  ∧ t.fld (R.GTE_SEC_ST i) F.GTE_SEC_ST_ARM = 2 ∧ s.sameBut t [R.GTE_SEC_ST i] [.gte])))
      ∧ ∃ t, exec (.done f) s = .next t
        ∧ (match s.nodeSection f with
          | none => t.bit R.GTE_STAT F.GTE_STAT_UNK = true ∧ s.sameBut t [R.GTE_STAT] []
          | some i =>
            match (s.sec i).conv with
            | none => t.fld R.GTE_CNT F.GTE_CNT_DUPCNT = min (s.fld R.GTE_CNT F.GTE_CNT_DUPCNT + 1) 255
                ∧ s.sameBut t [R.GTE_CNT] []
            | some x => f.seq = x.seq → f.state.toNat = x.word.bits 7 0 → x.served = true → x.retried = false → i < 256 →
                (t.sec i).conv = none ∧ t.fld (R.GTE_SEC_ST i) F.GTE_SEC_ST_ARM = 0
                  ∧ t.fld (R.GTE_SEC_ST i) F.GTE_SEC_ST_CONF = f.state.toNat
                  ∧ s.sameBut t [R.GTE_SEC_ST i, R.GTE_STAT] [.gte]))
    ∧ ∀ i : Fin 256,
      let again (t : State) (x : GateConv) : Prop :=
        (∃ y, (t.sec i.val).conv = some y ∧ y.fire = true ∧ y.retried = true ∧ y.served = true ∧ y.confirmed = false
            ∧ y.word = x.word)
          ∧ t.fld (R.GTE_SEC_ST i.val) F.GTE_SEC_ST_SEQ = (s.fld (R.GTE_SEC_ST i.val) F.GTE_SEC_ST_SEQ + 1) % 256
          ∧ t.fld (R.GTE_SEC_ST i.val) F.GTE_SEC_ST_ARM = 3
          ∧ (if x.late = true then t.reg R.GTE_CNT = s.reg R.GTE_CNT ∧ t.reg R.GTE_STAT = s.reg R.GTE_STAT
             else t.bit (R.GTE_SEC_ST i.val) F.GTE_SEC_ST_LATE = true ∧ t.bit R.GTE_STAT F.GTE_STAT_LATE = true
               ∧ t.fld R.GTE_CNT F.GTE_CNT_LATECNT = min (s.fld R.GTE_CNT F.GTE_CNT_LATECNT + 1) 255)
          ∧ s.sameBut t [R.GTE_SEC_ST i.val, R.GTE_STAT, R.GTE_CNT, R.CNV_CNT2, R.CNV_STAT] [.gte, .net, .cnv, .latches, .pending]
      let lasting (t : State) : Prop :=
        (t.sec i.val).conv = none ∧ t.bit (R.GTE_SEC_ST i.val) F.GTE_SEC_ST_NFAIL = true
          ∧ t.fld (R.GTE_SEC_ST i.val) F.GTE_SEC_ST_ARM = 0 ∧ t.evt.pend.getLsbD 178 = true
          ∧ t.fld R.GTE_CNT F.GTE_CNT_FAILCNT = min (s.fld R.GTE_CNT F.GTE_CNT_FAILCNT + 1) 255
          ∧ s.sameBut t [R.GTE_SEC_ST i.val, R.GTE_STAT, R.GTE_CNT] [.gte, .latches, .pending]
      (s.up = false → exec (.confTimeout i) s = .next s ∧ exec (.doneTimeout i) s = .next s)
      ∧ (s.up = true → ∃ t, exec (.confTimeout i) s = .next t
        ∧ (match (s.sec i.val).conv with
          | none => t = s
          | some x => (x.confirmed = true → t = s)
              ∧ (x.confirmed = false → x.served = true → (x.retried = false → again t x) ∧ (x.retried = true → lasting t))))
      ∧ (s.up = true → ∃ t, exec (.doneTimeout i) s = .next t
        ∧ (match (s.sec i.val).conv with
          | none => t = s
          | some x =>
            if x.fire = true ∨ 0 ≤ (s.reg R.NET_TIME - x.ta).toInt then
              (x.served = true → (x.retried = false → again t x) ∧ (x.retried = true → lasting t))
            else t = s))

/-- R188, R400, R402 to R405, R412 to R415: every evaluation takes the travel, the frames received and the flushes asked for; the
travel of an enabled section advances; a section without a node whose head gate is then due serves it; a held section serves
nothing; a section that is off does nothing. -/
def Obligations.EvaluationServesDueGates : Prop :=
  ∀ s : State, s.up = true →
    ∃ t, exec .gateEvaluation s = .next t ∧ (∀ a, t.byte a = s.byte a) ∧ t.mod = s.mod ∧ t.clk = s.clk
      ∧ t.gte.inbox = [] ∧ t.gte.last = some (s.reg R.POS_TRV_L, s.reg R.POS_TRV_R, s.reg R.POS_TRV_C)
      ∧ (∀ i, i < 256 → (t.sec i).flush = false)
      ∧ ((∀ r, r / 0x10000 = 9 → s.shadowOf r = none) →
        (∀ j, j < 256 → (s.sec j).on = s.bit (R.GTE_SEC_CFG j) F.GTE_SEC_CFG_EN) →
      (∀ i, i < 256 → (s.sec i).on = true → s.mode ≠ .service → s.gte.service = false → ∀ l r c, s.gte.last = some (l, r, c) →
        let x := (s.reg (R.GTE_SEC_K i)).toInt
            * ((s.reg R.POS_TRV_R - r).toInt - (s.reg R.POS_TRV_L - l).toInt) + (s.sec i).rem
        t.reg (R.GTE_SEC_TRV i) = s.reg (R.GTE_SEC_TRV i) + (s.reg R.POS_TRV_C - c) + BitVec.ofInt 32 (x / 65536)
          ∧ (t.sec i).rem = x % 65536)
      ∧ ((∀ j, j < 256 → (s.sec j).on = false ∧ (s.sec j).flush = false) → s.mode ≠ .service → s.gte.inbox = [] → s.sameBut t [] [.gte])
      ∧ ∀ i, i < 256 → (s.sec i).flush = false → (∀ j, j < 256 → j ≠ i → (s.sec j).on = false) → (s.sec i).on = true →
        let st := R.GTE_SEC_ST i
        let ptr := R.GTE_SEC_PTR i
        let u := s.gteAdvance
        ((s.sec i).held = true ∨ s.secHeldBy i = true → s.secTgt i ≠ 2 → t.reg ptr = s.reg ptr ∧ t.reg R.GTE_OUT = s.reg R.GTE_OUT)
        ∧ ∀ g, s.gateAt i 0 = some g → s.secCount i = 1 → u.gateDue i g = true → (s.sec i).held = false → s.secHeldBy i = false →
          (s.sec i).restore = false → s.secTgt i ≠ 2 →
          t.fld ptr F.GTE_SEC_PTR_COUNT = 0
            ∧ t.fld ptr F.GTE_SEC_PTR_HEAD =
                (s.fld ptr F.GTE_SEC_PTR_HEAD + 1) % s.fld (R.GTE_SEC_CRS i) F.GTE_SEC_CRS_LEN % 32768
            ∧ t.fld st F.GTE_SEC_ST_CMD = g.2.bits 7 0 ∧ t.evt.pend.getLsbD 180 = true
            ∧ (s.secTgt i = 1 → (t.reg R.GTE_OUT).bit (s.fld (R.GTE_SEC_CFG i) F.GTE_SEC_CFG_OUT) =
                ((s.reg R.GTE_OUTPOL).bit (s.fld (R.GTE_SEC_CFG i) F.GTE_SEC_CFG_OUT) ^^ (g.2.bits 7 0 % 2 == 1)))
            ∧ (u.gateLate i g = true → t.bit st F.GTE_SEC_ST_LATE = true ∧ t.bit R.GTE_STAT F.GTE_STAT_LATE = true
              ∧ t.fld R.GTE_CNT F.GTE_CNT_LATECNT = min (s.fld R.GTE_CNT F.GTE_CNT_LATECNT + 1) 255
              ∧ t.evt.pend.getLsbD 177 = true)
            ∧ t.bit st F.GTE_SEC_ST_NVALID = false)

/-! ### Conversations -/

/-- R146, R450, R455, R456, R472: a session starts by a command or by `send`, or is turned away with its status. -/
def Obligations.SessionsStart : Prop :=
  ∀ (s : State) (ses : BitVec 8),
    let n := ses.toNat
    (let st := s.startJudged n false
      ∃ t, exec (.cnvStart ses) s = .next t
      ∧ t.fld R.CNV_CMDST F.CNV_CMDST_SES = n ∧ t.fld R.CNV_CMDST F.CNV_CMDST_STATUS = st.code ∧ s.fires t [232]
      ∧ (st = .ok → s.sessionStarted t n
        ∧ s.leaves t (fun r => r = R.CNV_CMDST) [.cnv, .net, .latches, .pending] (State.inRecord n))
      ∧ (st ≠ .ok → s.sameBut t [R.CNV_CMDST] [.latches, .pending]))
    ∧ ∀ (e : Fin 8) (p : Bool) (va : Fin 16) (widx : BitVec 9), s.mayIssue e 1 →
      let st := s.startJudged n true
      let a := 0x23000000 + 2048 * s.recBits n 4 7 0 + 4 * widx.toNat
      ∃ t, exec (.send e p va widx ses) s = .next t
        ∧ (st = .ok → s.sessionStarted t n ∧ t.engine e = { s.engine e with pc := (s.engine e).pc + 1 }
          ∧ t.fld (R.SEQ_LAST e.val) F.SEQ_LAST_OPCODE = 0x19 ∧ t.fld (R.SEQ_LAST e.val) F.SEQ_LAST_STATUS = 0
          ∧ (p = true → t.word a = s.v e va)
          ∧ s.leaves t (fun r => r = R.SEQ_LAST e.val) [.cnv, .net, .engines, .latches]
              (fun b => State.inRecord n b ∨ (p = true ∧ a ≤ b ∧ b < a + 4)))
        ∧ (st ≠ .ok → s.engineExcept t e 0x19 st ((s.engine e).pc + 1) [])

/-- R452, R459, R463, R464, R466, R470, R472: aborts, releases, the engine's enable, and a change of address. -/
def Obligations.SessionCommands : Prop :=
  ∀ s : State,
    (∀ ses : BitVec 8,
      let n := ses.toNat
      let live := (s.recState n ≠ 0 ∧ s.recState n ≠ 6) ∧ s.recBits n 5 7 7 = 0
      (∃ t, exec (.cnvAbort ses) s = .next t ∧ t.fld R.CNV_CMDST F.CNV_CMDST_SES = n
        ∧ t.fld R.CNV_CMDST F.CNV_CMDST_STATUS = 0 ∧ t.evt.pend.getLsbD 232 = true
        ∧ (¬ live → s.sameBut t [R.CNV_CMDST] [.latches, .pending])
        ∧ (live → t.recState n = 0 ∧ t.recTimer n = 0
          ∧ s.leaves t (fun r => r = R.CNV_CMDST ∨ r = R.CNV_STAT ∨ r = R.CNV_CNT) [.cnv, .net, .latches, .pending]
              (State.inRecord n)))
      ∧ ∃ t, exec (.cnvRelease ses) s = .next t ∧ t.fld R.CNV_CMDST F.CNV_CMDST_SES = n
        ∧ t.fld R.CNV_CMDST F.CNV_CMDST_STATUS = 0 ∧ s.fires t [232]
        ∧ (s.recState n = 6 → t.recState n = 0
          ∧ s.leaves t (fun r => r = R.CNV_CMDST) [.latches, .pending] (State.inRecord n))
        ∧ (s.recKind n = 2 → s.recState n = 3 → s.recBits n 5 7 7 = 0 → t.recState n = 5
          ∧ s.leaves t (fun r => r = R.CNV_CMDST) [.cnv, .net, .latches, .pending] (State.inRecord n)))
    ∧ (∃ t, exec .cnvEnable s = .next t ∧ t.bit R.CNV_CFG F.CNV_CFG_EN = true
      ∧ (∀ n, n < 256 → ∀ k, 5 ≤ k → k ≤ 11 → t.ctx n k = 0)
      ∧ s.leaves t (fun r => r = R.CNV_CFG) [.cnv, .net] (fun a => 0x23080000 ≤ a ∧ a < 0x23084000))
    ∧ (∃ t, exec .cnvDisable s = .next t ∧ t.bit R.CNV_CFG F.CNV_CFG_EN = false
      ∧ (∀ n, n < 256 → t.recState n = (if s.recState n = 6 then 6 else 0))
      ∧ (∀ c : Fin 8, (t.net.chan[c]).control = [])
      ∧ s.leaves t (fun r => r = R.CNV_CFG) [.cnv, .net] (fun a => 0x23080000 ≤ a ∧ a < 0x23084000))
    ∧ ∀ (c : Fin 8) (addr : BitVec 8), ∃ t, exec (.addressChange c addr) s = .next t ∧ t.ownSa c.val = addr.toNat
      ∧ (s.ownSa c.val = addr.toNat → t = s)
      ∧ (s.ownSa c.val ≠ addr.toNat →
        (∀ n, n < 256 → s.recCh n = c.val → s.recState n ≠ 6 → t.recState n = 0)
        ∧ (∀ n, n < 256 → s.recCh n ≠ c.val → ∀ k, k < 16 → t.ctx n k = s.ctx n k)
        ∧ s.leaves t (fun r => r = R.CNV_SA0 ∨ r = R.CNV_SA1 ∨ r = R.CNV_STAT) [.cnv, .net, .latches, .pending]
            (fun a => 0x23080000 ≤ a ∧ a < 0x23084000))

/-- R422, R452, R457 to R463, R466: the frames of the transport protocol at a session in progress, or at a context that matches. A
channel that is off hears none, and one without an address of its own none but broadcasts. -/
def Obligations.TransportFramesMoveSessions : Prop :=
  ∀ (s : State) (c : Fin 8) (p : BitVec 8) (etp : Bool) (g : BitVec 18),
    (∀ (size : Word) (b16 : BitVec 16) (m count pkts seq : BitVec 8) (next : BitVec 24) (data : Vector Byte 7),
      let deaf := s.bit R.CNV_CFG F.CNV_CFG_EN = false ∨ s.canOn c = false
      (deaf ∨ s.ownSa c.val = 0xFE → exec (.rts c p etp size m g) s = .next s ∧ exec (.cts c p etp count next g) s = .next s
          ∧ exec (.eoma c p etp size pkts g) s = .next s ∧ exec (.tpAbort c p etp m g) s = .next s
          ∧ exec (.dpo c p count next g) s = .next s ∧ exec (.dataFrame c p false etp seq data) s = .next s)
        ∧ (deaf → exec (.bam c p b16 g) s = .next s ∧ exec (.dataFrame c p true etp seq data) s = .next s)) ∧
    (s.mode ≠ .off → s.bit R.CNV_CFG F.CNV_CFG_EN = true → s.bit R.CNV_CFG F.CNV_CFG_QUIET = false → s.canOn c = true →
    let own := s.ownSa c.val ≠ 0xFE
    let peer := p.toNat
    let pgn := g.toNat
    let proto := if etp then 3 else 1
    let bad (t : State) : Prop :=
      t.fld R.CNV_CNT2 F.CNV_CNT2_BAD = min (s.fld R.CNV_CNT2 F.CNV_CNT2_BAD + 1) 255 ∧ s.sameBut t [R.CNV_CNT2] []
    let frame (t : State) (n : Nat) : Prop :=
      s.leaves t (fun r => r = R.CNV_CNT ∨ r = R.CNV_STAT) [.cnv, .net, .latches, .pending] (State.inRecord n)
    let oversize (t : State) : Prop :=
      t.fld R.CNV_CNT2 F.CNV_CNT2_OVSZ = min (s.fld R.CNV_CNT2 F.CNV_CNT2_OVSZ + 1) 255 ∧ t.evt.pend.getLsbD 230 = true
    (own → ∀ (size : Word) (maxPkts : BitVec 8),
      ∃ t, exec (.rts c p etp size maxPkts g) s = .next t
        ∧ (let begins (n : Nat) : Prop :=
            (size.toNat ≤ s.recRoom n → n < 256 → size ≠ 0 → size.toNat < 2 ^ 20 →
              t.recState n = 5 ∧ t.recProto n = proto ∧ t.recPeer n = peer ∧ t.recSize n = size.toNat ∧ t.recNext n = 1
                ∧ t.recEnd n = min (min (s.recWin n) (if maxPkts = 0 then 255 else maxPkts.toNat)) ((size.toNat + 6) / 7)
                ∧ frame t n)
              ∧ (s.recRoom n < size.toNat → oversize t
                ∧ t.fld R.CNV_CNT F.CNV_CNT_ABTX = min (s.fld R.CNV_CNT F.CNV_CNT_ABTX + 1) 255)
          match s.rxEarlier c peer proto pgn with
          | some n => begins n ∧ (n < 256 → s.recRoom n < size.toNat → t.recState n = 0)
          | none =>
            match s.rxMatch c peer proto pgn with
            | none => t.fld R.CNV_CNT2 F.CNV_CNT2_NOCTX = min (s.fld R.CNV_CNT2 F.CNV_CNT2_NOCTX + 1) 255
                ∧ t.fld R.CNV_CNT F.CNV_CNT_ABTX = min (s.fld R.CNV_CNT F.CNV_CNT_ABTX + 1) 255
                ∧ t.bit R.CNV_STAT F.CNV_STAT_NOCTX = true ∧ s.fires t [230]
                ∧ s.sameBut t [R.CNV_CNT, R.CNV_CNT2, R.CNV_STAT] [.cnv, .net, .latches, .pending]
            | some n => begins n))
    ∧ (∀ size : BitVec 16, ∀ m, s.rxSession c peer 2 none = some m → ∃ t, exec (.bam c p size g) s = .next t
      ∧ t.evt.pend.getLsbD 228 = true ∧ (m < 256 → t.recState m = 0 ∨ (t.recState m = 5 ∧ t.recProto m = 2 ∧ t.recNext m = 1)))
    ∧ (∀ size : BitVec 16, s.rxSession c peer 2 none = none → ∃ t, exec (.bam c p size g) s = .next t
      ∧ (∀ n, s.rxMatch c peer 2 pgn = some n → s.recRoom n < size.toNat → oversize t)
      ∧ (match s.rxMatch c peer 2 pgn with
        | none => t.fld R.CNV_CNT2 F.CNV_CNT2_NOCTX = min (s.fld R.CNV_CNT2 F.CNV_CNT2_NOCTX + 1) 255 ∧ s.fires t [230]
            ∧ s.sameBut t [R.CNV_CNT2, R.CNV_STAT] [.latches, .pending]
        | some n => size.toNat ≤ s.recRoom n → n < 256 →
            t.recState n = 5 ∧ t.recProto n = 2 ∧ t.recSize n = size.toNat ∧ t.recEnd n = (size.toNat + 6) / 7
              ∧ s.leaves t (fun _ => False) [.cnv] (State.inRecord n)))
    ∧ (own → ∀ (count : BitVec 8) (next : BitVec 24), ∃ t, exec (.cts c p etp count next g) s = .next t
      ∧ (match s.txSession c peer etp pgn with
        | none => bad t
        | some n =>
          (n < 256 → s.recState n ≠ 2 → count = 0 → t.recState n = 3 ∧ t.recTimer n = 6
            ∧ s.leaves t (fun _ => False) [.cnv] (State.inRecord n))
          ∧ (n < 256 → s.recState n ≠ 2 → count ≠ 0 → (s.ses n).cts ≠ some (count.toNat, next.toNat) →
            next.toNat = s.recNext n → next.toNat + count.toNat ≤ s.recTotal n + 1 → 0 < next.toNat →
            t.recState n = 2 ∧ t.recNext n = next.toNat ∧ t.recEnd n = next.toNat + count.toNat - 1
              ∧ (etp = true → t.recBits n 10 23 0 = next.toNat - 1) ∧ frame t n)
          ∧ (n < 256 → s.recState n ≠ 2 → count ≠ 0 → (s.ses n).cts ≠ some (count.toNat, next.toNat) →
            next.toNat < s.recNext n → 0 < next.toNat → s.recBits n 5 6 6 = 0 →
            t.recState n = 2 ∧ t.recNext n = next.toNat ∧ t.recEnd n = min (next.toNat + count.toNat - 1) (s.recTotal n)
              ∧ t.recBits n 5 6 6 = 1 ∧ t.evt.pend.getLsbD 229 = true ∧ frame t n)))
    ∧ (own → ∀ (size : Word) (pkts : BitVec 8), ∃ t, exec (.eoma c p etp size pkts g) s = .next t
      ∧ (match s.txSession c peer etp pgn with
        | none => bad t
        | some n => n < 256 → size.toNat = s.recSize n → (etp = true ∨ pkts.toNat = s.recTotal n) →
            t.recState n = 0 ∧ t.recTimer n = 0 ∧ t.evt.pend.getLsbD 226 = true
              ∧ t.recBits n 5 31 24 = (if s.recBits n 5 6 6 = 1 then 6 else 0) ∧ frame t n))
    ∧ (own → ∀ reason : BitVec 8, ∃ t, exec (.tpAbort c p etp reason g) s = .next t
      ∧ (match (match s.txSession c peer etp pgn with
          | some n => some n
          | none => s.rxSession c peer proto (some pgn)) with
        | none => bad t
        | some n => n < 256 → t.recState n = 0 ∧ t.recBits n 5 23 16 = reason.toNat ∧ t.evt.pend.getLsbD 228 = true
            ∧ t.fld R.CNV_CNT F.CNV_CNT_ABRX = min (s.fld R.CNV_CNT F.CNV_CNT_ABRX + 1) 255 ∧ frame t n))
    ∧ (∀ (global : Bool) (seq : BitVec 8) (data : Vector Byte 7), global = true ∨ own → ∃ t, exec (.dataFrame c p global etp seq data) s = .next t
      ∧ (match s.rxSession c peer (if global then 2 else proto) none with
        | none => bad t
        | some n =>
          let k := if etp then s.recBits n 10 23 0 + seq.toNat else seq.toNat
          let a := s.msgAddr n (7 * (k - 1))
          n < 256 → s.recState n = 5 → s.recBits n 5 7 7 = 0 → (s.ses n).ignoring = false → k = s.recNext n → 0 < k →
            k < s.recTotal n → k < s.recEnd n → a + 7 ≤ 0x23080000 →
            t.recNext n = k + 1 ∧ t.recTimer n = 3 ∧ (∀ j : Fin 7, t.byte (a + j.val) = data[j]) ∧ t.recState n = 5
              ∧ s.leaves t (fun _ => False) [.cnv] (fun b => State.inRecord n b ∨ (a ≤ b ∧ b < a + 7))))
    ∧ (own → ∀ (count : BitVec 8) (offset : BitVec 24), ∃ t, exec (.dpo c p count offset g) s = .next t
      ∧ (match s.rxSession c peer 3 (some pgn) with
        | none => bad t
        | some n => n < 256 → t.recBits n 10 23 0 = offset.toNat
            ∧ t.recTimer n = (if s.recTimer n = 4 then 0 else s.recTimer n)
            ∧ s.leaves t (fun _ => False) [] (State.inRecord n))))

/-- R456, R459 to R461, R463: the timers of transport sessions, the repeats of CTS(0), and the gaps of a broadcast. -/
def Obligations.TransportTimersExpire : Prop :=
  ∀ (s : State) (ses : Fin 256),
    s.mode ≠ .off → s.bit R.CNV_CFG F.CNV_CFG_EN = true → s.bit R.CNV_CFG F.CNV_CFG_QUIET = false →
    let n := ses.val
    let timer := s.recTimer n
    let live := s.recState n ≠ 0 ∧ s.recState n ≠ 6 ∧ s.recBits n 5 7 7 = 0
    let frame (t : State) : Prop :=
      s.leaves t (fun r => r = R.CNV_CNT ∨ r = R.CNV_STAT) [.cnv, .net, .latches, .pending, .free] (State.inRecord n)
    (∃ t, exec (.transportTimerExpiry ses) s = .next t
      ∧ (¬ live → t = s)
      ∧ (live → timer = 0 ∨ timer = 2 → t = s)
      ∧ (live → (timer = 3 ∨ timer = 4) → s.recProto n = 2 → t.recState n = 0 ∧ t.recBits n 5 31 24 = 5
        ∧ t.evt.pend.getLsbD 228 = true ∧ frame t)
      ∧ (live → (timer = 5 ∨ timer = 6) → s.recProto n = 0 → t.recState n = 0 ∧ t.recBits n 5 31 24 = 5
        ∧ t.evt.pend.getLsbD 228 = true ∧ frame t)
      ∧ (live → (timer = 1 ∨ ((timer = 3 ∨ timer = 4) ∧ s.recProto n ≠ 2 ∧ (s.ses n).ignoring = false)
          ∨ ((timer = 5 ∨ timer = 6) ∧ s.recProto n ≠ 0)) →
        (if s.recBits n 5 6 6 = 1 then
          t.recState n = 0 ∧ t.recBits n 5 31 24 = 7 ∧ t.recBits n 5 23 16 = 3 ∧ t.evt.pend.getLsbD 228 = true ∧ frame t
         else t.recBits n 5 6 6 = 1 ∧ t.fld R.CNV_CNT F.CNV_CNT_RETRY = min (s.fld R.CNV_CNT F.CNV_CNT_RETRY + 1) 255
          ∧ t.bit R.CNV_STAT F.CNV_STAT_RETRY = true ∧ s.fires t [229] ∧ frame t)))
    ∧ (∃ t, exec (.cts0Repeat ses) s = .next t
      ∧ (if s.recKind n = 2 ∧ s.recState n = 3 ∧ s.recBits n 5 7 7 = 0 then
          t.recTimer n = 1 ∧ t.recState n = 3 ∧ s.leaves t (fun _ => False) [.cnv, .net] (State.inRecord n)
         else t = s))
    ∧ ∃ t, exec (.bamGapExpiry ses) s = .next t
      ∧ (if s.recKind n = 1 ∧ s.recProto n = 2 ∧ s.recState n = 2 ∧ s.recBits n 5 7 7 = 0 then
          ((t.ses n).ready = true ∨ ∃ x, (t.chan (s.sesChan n)).buf[1] = some x ∧ x.src = .bulk n)
            ∧ s.sameBut t [] [.cnv, .net]
         else t = s)

/-! ### Field network -/

/-- R34, R422, R423, R425, R428 to R434, R443, R449, R453, R468, R501: the transmit queue and its buffers, cancels, the start, the loss and the end of a frame. -/
def Obligations.CanTransmission : Prop :=
  ∀ (s : State) (c : Fin 8),
    let h := s.chan c
    let words := h.txq.words + h.push.length
    (∀ w : Word,
      let f := pushedFrame (h.push ++ [w])
      let paired := s.quiet = true ∧ f.ext = true ∧ s.ownSa c.val ≠ 0xFE ∧ f.id.toNat % 256 = s.ownSa c.val
      (w.bit 30 = true → h.dropping = false → words < 256 → pushedOk (h.push ++ [w]) = false ∨ paired →
        exec (.txqPush c w) s = .fault .hostMistake)
      ∧ (w.bit 30 = false ∨ h.dropping = true ∨ 256 ≤ words ∨ (pushedOk (h.push ++ [w]) = true ∧ ¬ paired) →
        ∃ t, exec (.txqPush c w) s = .next t
          ∧ (h.dropping = true → t.chan c = { h with dropping := !w.bit 30 } ∧ s.sameBut t [] [.net])
          ∧ (h.dropping = false → 256 ≤ words → (t.chan c).push = [] ∧ (t.chan c).dropping = !w.bit 30
            ∧ t.bit (R.NET_CH_FLG c.val) F.NET_CH_FLG_TXQOVF = true ∧ t.bit R.NET_STAT F.NET_STAT_TXQOVF = true
            ∧ s.fires t [213] ∧ s.sameBut t [R.NET_CH_FLG c.val, R.NET_STAT] [.net, .latches, .pending])
          ∧ (h.dropping = false → words < 256 → w.bit 30 = false → t.chan c = { h with push := h.push ++ [w] }
            ∧ s.sameBut t [] [.net])
          ∧ (h.dropping = false → words < 256 → w.bit 30 = true → (t.chan c).push = []
            ∧ (s.busOff c = true → (t.chan c).txq = h.txq.push ⟨((h.push ++ [w]).headD 0).bits 27 24, h.push ++ [w]⟩)
            ∧ s.sameBut t [] [.net, .cnv])))
    ∧ (∀ mask : BitVec 3, ∃ t, exec (.txCancel c mask) s = .next t
      ∧ (∀ b : Fin 3, ∀ x, h.buf[b] = some x → x.active = true →
          (t.chan c).buf[b] = some { x with cancel := x.cancel || (mask.getLsbD b.val && x.src != .reference) })
      ∧ (mask = 0 → s.busOff c = true → t = s)
      ∧ s.sameBut t [R.NET_CH_CNT c.val, R.CNV_CNT2, R.CNV_STAT] [.net, .cnv, .latches, .pending])
    ∧ ∀ b : Fin 3,
      (h.buf[b] = none → exec (.canStartOfFrame c b) s = .next s ∧ exec (.canFrameSent c b) s = .next s
        ∧ exec (.arbitrationLoss c b) s = .next s)
      ∧ ∀ x, h.buf[b] = some x →
        let fits (y : TxBuf) : Prop := (y.frame.fdf = true → s.bit (R.NET_CH_CFG c.val) F.NET_CH_CFG_FDE = true)
          ∧ ¬ (s.bit R.CNV_CFG F.CNV_CFG_QUIET = true ∧ State.txTransport y = true)
        let first : Prop := fits x ∧ ∀ (k : Fin 3) (y : TxBuf), h.buf[k] = some y → y.active = false
          ∧ (¬ fits y ∨ if s.bit (R.NET_CH_CFG c.val) F.NET_CH_CFG_ORDER = true then b ≤ k
             else arbKey x.frame < arbKey y.frame ∨ (arbKey x.frame = arbKey y.frame ∧ b ≤ k))
        (¬ first → exec (.canStartOfFrame c b) s = .next s)
        ∧ (first → s.canOn c = true → s.busOff c = false → s.clk.fault = false →
          s.bit (R.NET_CH_CFG c.val) F.NET_CH_CFG_LOM = false →
          ∃ t, exec (.canStartOfFrame c b) s = .next t
            ∧ (t.chan c).buf[b] = some { x with active := true, sof := s.reg R.NET_TIME }
            ∧ (match x.src with
              | .control n => s.leaves t (fun _ => False) [.net] (State.inRecord n)
              | _ => s.sameBut t [] [.net]))
        ∧ (s.canOn c = true → x.active = true → x.cancel = false → ∃ t, exec (.arbitrationLoss c b) s = .next t
          ∧ (s.busOff c = true ∨ b ≠ 1 ∨ h.gate = [] ∨ State.txTransport x = false →
              (t.chan c).buf[b] = some { x with active := false })
          ∧ (s.busOff c = false → b = 1 → State.txTransport x = true → ∀ y l, h.gate = y :: l →
              (t.chan c).buf[b] = some ⟨y.2, .gate, false, 0, false⟩ ∧ (t.chan c).gate = l)
          ∧ s.sameBut t [] [.net, .cnv])
        ∧ (s.canOn c = true → x.active = true → x.cancel = true → ∃ t, exec (.arbitrationLoss c b) s = .next t
          ∧ t.fld (R.NET_CH_CNT c.val) F.NET_CH_CNT_CANCNT = min (s.fld (R.NET_CH_CNT c.val) F.NET_CH_CNT_CANCNT + 1) 255
          ∧ (s.busOff c = true → (t.chan c).buf[b] = none)
          ∧ s.sameBut t [R.NET_CH_CNT c.val, R.CNV_CNT2, R.CNV_STAT] [.net, .cnv, .latches, .pending])
        ∧ (s.canOn c = false → exec (.arbitrationLoss c b) s = .next s ∧ exec (.canFrameSent c b) s = .next s
          ∧ exec (.canStartOfFrame c b) s = .next s)
        ∧ (s.clk.fault = true → exec (.canStartOfFrame c b) s = .next s ∧ exec (.canFrameSent c b) s = .next s)
        ∧ (x.active = true → s.clk.fault = false → s.canOn c = true → ∃ t, exec (.canFrameSent c b) s = .next t
          ∧ (x.src = .queue → t.evt.pend.getLsbD 214 = true)
          ∧ (x.src = .reference → t.reg (R.NET_CH_REFT c.val) = x.sof ∧ (t.chan c).refSof = some x.sof)
          ∧ t.fld (R.NET_CH_ST c.val) F.NET_CH_ST_TEC = s.fld (R.NET_CH_ST c.val) F.NET_CH_ST_TEC - 1
          ∧ (s.busOff c = true → (t.chan c).buf[b] = none)
          ∧ s.leaves t (fun r => r = R.NET_CH_ST c.val ∨ r = R.NET_CH_FLG c.val ∨ r = R.NET_CH_REFT c.val ∨ r = R.CNV_STAT)
              [.net, .cnv, .latches, .pending] (fun a => 0x23080000 ≤ a ∧ a < 0x23084000))
        ∧ (x.active = false → exec (.arbitrationLoss c b) s = .next s ∧ exec (.canFrameSent c b) s = .next s)

/-- R422, R423, R425 to R429, R434, R443, R449: received frames, errors, bus-off and its end. How an error counts is that of ISO
11898-1 (log entry 63). -/
def Obligations.CanReceptionAndErrors : Prop :=
  ∀ (s : State) (c : Fin 8),
    (∀ (f : CanFrame) (sof : Word), s.refClash c f = true → s.timeMaster = true
      ∧ f.id.toNat / 2 ^ 18 = s.fld R.NET_TM F.NET_TM_ID * 8 + s.fld R.NET_TM F.NET_TM_PRIO
      ∧ exec (.canFrameReceived c f sof) s = .fault .hostMistake)
    ∧ (∀ (f : CanFrame) (sof : Word), s.refClash c f = false → ∃ t, exec (.canFrameReceived c f sof) s = .next t
      ∧ (s.canOn c = false ∨ s.busOff c = true ∨ (f.fdf = true ∧ s.bit (R.NET_CH_CFG c.val) F.NET_CH_CFG_FDE = false) →
        t = s)
      ∧ (s.canOn c = true → s.busOff c = false → (f.fdf = true → s.bit (R.NET_CH_CFG c.val) F.NET_CH_CFG_FDE = true) →
        s.gateChan c = false → f.ext = true → s.fld (R.NET_CH_ST c.val) F.NET_CH_ST_REC ≤ 127 →
        (match firstN 16 (s.filterHit c f) with
         | none => s.bit (R.NET_CH_CFG c.val) F.NET_CH_CFG_NOMATCH = false →
             s.sameBut t [R.NET_CH_ST c.val, R.NET_CH_FLG c.val] [.latches, .pending]
         | some k => s.fld (R.NET_FLT_MSK (16 * c.val + k)) F.NET_FLT_MSK_TGT = 1 → (
             let l := rxPacket c.val f sof (some k) (s.fld (R.NET_FLT_ID (16 * c.val + k)) F.NET_FLT_ID_PRI)
             (s.net.rxq.words + l.length ≤ 2048 → t.net.rxq = s.net.rxq.push
                 ⟨s.fld (R.NET_FLT_ID (16 * c.val + k)) F.NET_FLT_ID_PRI, l⟩
               ∧ s.sameBut t [R.NET_CH_ST c.val, R.NET_CH_FLG c.val] [.net, .latches, .pending])
             ∧ (2048 < s.net.rxq.words + l.length → t.net = s.net ∧ t.bit R.NET_STAT F.NET_STAT_RXQOVF = true
               ∧ t.evt.pend.getLsbD 212 = true)))))
    ∧ (∀ (step : CanStep) (b : Option (Fin 3)) (pxe : Bool),
      let tec := s.fld (R.NET_CH_ST c.val) F.NET_CH_ST_TEC + (match step with | .transmit => 8 | _ => 0)
      let rx := match step with
        | .receive => min 255 (s.fld (R.NET_CH_ST c.val) F.NET_CH_ST_REC + 1)
        | .receiveMore => min 255 (s.fld (R.NET_CH_ST c.val) F.NET_CH_ST_REC + 8)
        | .uncounted | .transmit => s.fld (R.NET_CH_ST c.val) F.NET_CH_ST_REC
      ∃ t, exec (.canError c step b pxe) s = .next t
      ∧ (s.canOn c = false ∨ s.busOff c = true → t = s)
      ∧ (s.canOn c = true → s.busOff c = false →
        t.fld (R.NET_CH_ST c.val) F.NET_CH_ST_REC = rx
        ∧ (tec < 256 → t.fld (R.NET_CH_ST c.val) F.NET_CH_ST_TEC = tec)
        ∧ t.bit (R.NET_CH_ST c.val) F.NET_CH_ST_PASSIVE = (decide (128 ≤ tec) || decide (128 ≤ rx))
        ∧ (pxe = true → s.bit (R.NET_CH_CFG c.val) F.NET_CH_CFG_PXE = true → t.evt.pend.getLsbD 218 = true)
        ∧ (256 ≤ tec → t.busOff c = true ∧ t.bit (R.NET_CH_FLG c.val) F.NET_CH_FLG_BUSOFF = true
          ∧ t.bit R.NET_STAT F.NET_STAT_BUSOFF = true ∧ t.evt.pend.getLsbD 215 = true
          ∧ (∀ k : Fin 3, (t.chan c).buf[k] = none) ∧ (t.chan c).gate = []
          ∧ (t.chan c).recovering = s.bit (R.NET_CH_CFG c.val) F.NET_CH_CFG_AUTOREC)
        ∧ (tec < 256 → t.busOff c = false)
        ∧ s.sameBut t [R.NET_CH_ST c.val, R.NET_CH_FLG c.val, R.NET_CH_CNT c.val, R.NET_STAT, R.CNV_CNT2, R.CNV_STAT]
            [.net, .cnv, .latches, .pending]))
    ∧ (∃ t, exec (.recoveryRequest c) s = .next t
      ∧ (if s.busOff c = true then (t.chan c) = { s.chan c with recovering := true } ∧ s.sameBut t [] [.net] else t = s))
    ∧ ∃ t, exec (.busOffRecoveryEnd c) s = .next t
      ∧ (if s.canOn c = true ∧ s.busOff c = true ∧ (s.chan c).recovering = true then
          t.busOff c = false ∧ t.fld (R.NET_CH_ST c.val) F.NET_CH_ST_TEC = 0 ∧ t.fld (R.NET_CH_ST c.val) F.NET_CH_ST_REC = 0
            ∧ (t.chan c).recovering = false ∧ s.fires t [216]
            ∧ s.sameBut t [R.NET_CH_ST c.val, R.NET_CH_FLG c.val] [.net, .cnv, .latches, .pending]
         else t = s)

/-- R435 to R438: the time master and its reference messages. -/
def Obligations.ReferenceMessages : Prop :=
  ∀ s : State,
    (∃ t, exec .referenceMessageDue s = .next t
      ∧ (if s.timeMaster = true ∧ s.mode ≠ .off then
          t.fld R.NET_TMST F.NET_TMST_CYCLE = (s.fld R.NET_TMST F.NET_TMST_CYCLE + 1) % 64
            ∧ t.net.unsent = (List.range 8).filter (fun c => (s.fld R.NET_TM F.NET_TM_CHMASK).testBit c)
            ∧ (∀ c : Fin 8, s.refChan c.val = true → s.busOff c = true → (s.chan c).buf[0] = none →
                (t.chan c).refWait = some (s.refFrame c))
            ∧ (∀ c : Fin 8, s.refChan c.val = false → t.chan c = s.chan c)
            ∧ s.sameBut t [R.NET_TMST, R.NET_STAT] [.net, .cnv]
         else t = s))
    ∧ (∃ t, exec .referenceSilenceTimeout s = .next t
      ∧ (if s.mode ≠ .off ∧ s.timeMaster = false ∧ (s.fld R.NET_TM F.NET_TM_ROLE = 2 ∨ s.net.stood = true) then
          t.timeMaster = true ∧ t.net.stood = false ∧ t.bit R.NET_STAT F.NET_STAT_TMTAKE = true ∧ s.fires t [209]
            ∧ s.sameBut t [R.NET_TMST, R.NET_STAT] [.net, .cnv, .latches, .pending]
         else t = s))
    ∧ (∀ w : Word, w.bits 29 27 ≠ 0 → exec (.timeMasterWrite w) s = .fault .hostMistake)
    ∧ ∀ w : Word, w.bits 29 27 = 0 → ∃ t, exec (.timeMasterWrite w) s = .next t ∧ t.reg R.NET_TM = w ∧ t.net.stood = false
      ∧ (w.bits F.NET_TM_ROLE.hi F.NET_TM_ROLE.lo = 1 → t.timeMaster = true)
      ∧ (w.bits F.NET_TM_ROLE.hi F.NET_TM_ROLE.lo = 0 → t.timeMaster = false)
      ∧ (∀ (c : Fin 8) (x : TxBuf), (w.bits F.NET_TM_CHMASK.hi F.NET_TM_CHMASK.lo).testBit c.val = false →
          (t.chan c).buf[0] = some x → x.src = .reference → x.active = true)
      ∧ (t.timeMaster ≠ s.timeMaster → s.fires t [209])
      ∧ (t.timeMaster = s.timeMaster → s.fires t [])
      ∧ s.sameBut t [R.NET_TM, R.NET_TMST, R.NET_STAT] [.net, .cnv, .latches, .pending]

/-- R34, R439 to R443: the Ethernet ports. The order of an address's bytes in its registers, what a longer frame does, and SPD100
while the link is down are the model's (log entries 173 and 174). -/
def Obligations.EthernetFrames : Prop :=
  ∀ (s : State) (p : Fin 2),
    let on := s.mode ≠ .off ∧ s.clk.fault = false ∧ s.bit (R.NET_ETH_CFG p.val) F.NET_ETH_CFG_EN = true
    let mac : List Byte := (List.range 6).map fun k =>
      BitVec.ofNat 8 ((s.nreg (R.NET_ETH_MAC0 p.val) + s.nreg (R.NET_ETH_MAC1 p.val) % 65536 * 2 ^ 32) / 2 ^ (8 * k))
    (∀ f : EthFrame,
      let takes := f.bytes.length ≤ 2000 ∧ (f.bytes.take 6 = mac ∨ f.bytes.take 6 = List.replicate 6 0xFF
        ∨ ((f.bytes.getD 0 0).getLsbD 0 = true ∧ s.bit (R.NET_ETH_CFG p.val) F.NET_ETH_CFG_MCAST = true)
        ∨ s.bit (R.NET_ETH_CFG p.val) F.NET_ETH_CFG_PROM = true)
      let timed := (f.bytes.getD 12 0) = 0x88 ∧ (f.bytes.getD 13 0) = 0xF7 ∧ (f.bytes.getD 14 0).toNat % 16 ≤ 3
      let i := s.fld (R.NET_ETH_IDX p.val) F.NET_ETH_IDX_RXNEXT
      let ring := R.NET_ETH_RXR p.val
      let d := s.ringAddr ring i
      let w1 := s.word (d + 4)
      let dst := (s.word d).toNat
      ∃ t, exec (.ethFrameReceived p f) s = .next t
        ∧ (¬ (on ∧ takes) → t = s)
        ∧ (on → takes → f.err = false → timed → (s.net.eth[p]).tag = none →
          t.reg (R.NET_ETH_TSUS p.val) = f.sfd ∧ t.evt.pend.getLsbD 222 = true
            ∧ ∃ tag, (t.net.eth[p]).tag = some tag ∧ tag.bits 25 16 = 8 * f.ns8.val ∧ tag.bit 30 = false)
        ∧ (on → takes → f.err = true ∨ ¬ timed → t.reg (R.NET_ETH_TSUS p.val) = s.reg (R.NET_ETH_TSUS p.val)
            ∧ (t.net.eth[p]).tag = (s.net.eth[p]).tag)
        ∧ (on → takes → s.ringLen ring = 0 ∨ w1.bit 31 = false →
          t.fld (R.NET_ETH_CNT p.val) F.NET_ETH_CNT_RXDROP = min (s.fld (R.NET_ETH_CNT p.val) F.NET_ETH_CNT_RXDROP + 1) 65535
            ∧ t.evt.pend.getLsbD 223 = true
            ∧ s.sameBut t [R.NET_ETH_CNT p.val, R.NET_ETH_TSUS p.val] [.net, .latches, .pending])
        ∧ (on → takes → 0 < s.ringLen ring → w1.bit 31 = true → (dst + f.bytes.length ≤ d ∨ d + 8 ≤ dst) →
          t.word d = s.word d ∧ (t.word (d + 4)).bit 31 = false ∧ (t.word (d + 4)).bits 15 0 = f.bytes.length
            ∧ (t.word (d + 4)).bit 29 = (f.err || decide (w1.bits 15 0 < f.bytes.length))
            ∧ (∀ k, k < f.bytes.length → k < w1.bits 15 0 → t.byte (dst + k) = f.bytes.getD k 0)
            ∧ t.fld (R.NET_ETH_IDX p.val) F.NET_ETH_IDX_RXNEXT = (i + 1) % s.ringLen ring ∧ t.evt.pend.getLsbD 220 = true
            ∧ s.leaves t (fun r => r = R.NET_ETH_CNT p.val ∨ r = R.NET_ETH_TSUS p.val ∨ r = R.NET_ETH_IDX p.val)
                [.net, .latches, .pending]
                (fun b => (d + 4 ≤ b ∧ b < d + 8) ∨ (dst ≤ b ∧ b < dst + min f.bytes.length (w1.bits 15 0)))))
    ∧ (∃ t, exec (.ethTxgo p) s = .next t
      ∧ ((t.net.eth[p]).sending = true ↔ on ∧ s.ethOwned p = true) ∧ s.sameBut t [] [.net])
    ∧ (∀ (ns8 : Fin 125) (sfd : Word),
      let i := s.fld (R.NET_ETH_IDX p.val) F.NET_ETH_IDX_TXNEXT
      let d := s.ringAddr (R.NET_ETH_TXR p.val) i
      ∃ t, exec (.ethFrameSent p ns8 sfd) s = .next t
        ∧ (if (s.net.eth[p]).sending = true ∧ s.ethOwned p = true ∧ on ∧ (s.word (d + 4)).bits 15 0 ≤ 2000 then
            t.word (d + 4) = (s.word (d + 4)).setBits 31 31 0 ∧ t.evt.pend.getLsbD 221 = true
              ∧ t.fld (R.NET_ETH_IDX p.val) F.NET_ETH_IDX_TXNEXT = (i + 1) % s.ringLen (R.NET_ETH_TXR p.val)
              ∧ s.leaves t (fun r => r = R.NET_ETH_TSUS p.val ∨ r = R.NET_ETH_IDX p.val) [.net, .latches, .pending]
                  (fun b => d + 4 ≤ b ∧ b < d + 8)
           else t = s))
    ∧ (∀ spd100 : Bool,
      let st := R.NET_ETH_ST p.val
      let speed := s.fld (R.NET_ETH_CFG p.val) F.NET_ETH_CFG_SPEED
      let seeks := if speed = 0 then false else if speed = 1 then true else (s.net.eth[p]).try100
      (∃ t, exec (.ethLinkChange p true spd100) s = .next t
        ∧ (if on ∧ spd100 = seeks then t.bit st F.NET_ETH_ST_LINK = true ∧ t.bit st F.NET_ETH_ST_SPD100 = spd100
            ∧ s.fires t (if s.bit st F.NET_ETH_ST_LINK = true then [] else [219]) ∧ s.sameBut t [st] [.latches, .pending]
           else t = s))
      ∧ ∃ t, exec (.ethLinkChange p false spd100) s = .next t
        ∧ (if s.mode = .off then t = s
           else t.bit st F.NET_ETH_ST_LINK = false ∧ t.net.eth[p] = { s.net.eth[p] with try100 := false }
             ∧ t.bit st F.NET_ETH_ST_SPD100 = s.bit st F.NET_ETH_ST_SPD100
             ∧ s.fires t (if s.bit st F.NET_ETH_ST_LINK = true then [219] else [])
             ∧ s.sameBut t [st] [.net, .latches, .pending]))
    ∧ ∃ t, exec (.ethSpeedFallback p) s = .next t
      ∧ (if on ∧ s.fld (R.NET_ETH_CFG p.val) F.NET_ETH_CFG_SPEED = 2 ∧ s.bit (R.NET_ETH_ST p.val) F.NET_ETH_ST_LINK = false then
          t.net.eth[p] = { s.net.eth[p] with try100 := !(s.net.eth[p]).try100 }
            ∧ (∀ q : Fin 2, q ≠ p → t.net.eth[q] = s.net.eth[q]) ∧ s.sameBut t [] [.net]
         else t = s)

/-! ### Waveforms and legs -/

/-- R92, R229 to R231, R238, R152, R251: timebases start with a reload, stop at one, and commit their registers at it. -/
def Obligations.TimebasesRun : Prop :=
  ∀ s : State,
    (s.up = true →
      (∀ mask : BitVec 10, ∃ t, exec (.timebaseStart mask) s = .next t
        ∧ (∀ b : Fin 10, (t.wfu.tb[b]).running = ((s.wfu.tb[b]).running || mask.getLsbD b.val)
          ∧ (t.wfu.tb[b]).stopping = ((s.wfu.tb[b]).stopping && !mask.getLsbD b.val)
          ∧ (mask.getLsbD b.val = true → (s.wfu.tb[b]).running = false → t.evt.pend.getLsbD (96 + b.val) = true
            ∧ (t.wfu.tb[b]).k = ((s.wfu.tb[b]).k + 1) % 16))
        ∧ t.pending = s.pending ∧ (∀ a, t.byte a = s.byte a)
        ∧ (mask.getLsbD 0 = false ∨ (s.wfu.tb[0]).running = true → t.clk = s.clk))
      ∧ ∀ mask : BitVec 10, ∃ t, exec (.timebaseStop mask) s = .next t
        ∧ (∀ b : Fin 10, t.wfu.tb[b] = { s.wfu.tb[b] with
            stopping := (s.wfu.tb[b]).stopping || (mask.getLsbD b.val && (s.wfu.tb[b]).running) })
        ∧ t.wfu.leg = s.wfu.leg ∧ s.sameBut t [] [.wfu])
    ∧ ∀ b : Fin 10,
      (∃ t, exec (.timebaseReload b) s = .next t
        ∧ ((s.wfu.tb[b]).running = false ∨ s.up = false → t = s)
        ∧ ((s.wfu.tb[b]).running = true → s.up = true →
          (b = 0 → s.clk.smplEff.bit 12 = true → s.clk.fallback = false →
              (s.clk.aligned = true →
                t.clk = { s.clk with reloads := s.clk.reloads + 1, due := s.clk.due || decide (s.smplDiv ≤ s.clk.reloads + 1) })
              ∧ (s.clk.aligned = false → 10000 ≤ s.sampleAge → t.clk
                = { s.clk with reloads := s.clk.reloads + 1, aligned := true, due := true, cut := some s.sampleAge })
              ∧ (s.clk.aligned = false → s.sampleAge < 10000 → t.clk = { s.clk with reloads := s.clk.reloads + 1 }))
            ∧ (b ≠ 0 → t.clk = s.clk)
            ∧ (t.wfu.tb[b]).running = !(s.wfu.tb[b]).stopping ∧ (t.wfu.tb[b]).stopping = false
            ∧ (t.wfu.tb[b]).down = false ∧ (t.wfu.tb[b]).k = ((s.wfu.tb[b]).k + 1) % 16
            ∧ t.evt.pend.getLsbD (96 + b.val) = true
            ∧ ((s.wfu.tb[b]).stopping = true → t.evt.pend.getLsbD 110 = true)
            ∧ (match s.shadowOf (R.WFU_TB_CFG b.val) with
              | some w => t.reg (R.WFU_TB_CFG b.val) = w ∧ t.shadowOf (R.WFU_TB_CFG b.val) = none
              | none => t.reg (R.WFU_TB_CFG b.val) = s.reg (R.WFU_TB_CFG b.val))
            ∧ (∀ y, y ≠ b → t.wfu.tb[y] = s.wfu.tb[y]) ∧ t.pending = s.pending ∧ (∀ a, t.byte a = s.byte a)))
      ∧ ∃ t, exec (.timebasePeak b) s = .next t
        ∧ ((s.wfu.tb[b]).running = false ∨ s.up = false → t = s)
        ∧ ((s.wfu.tb[b]).running = true → s.up = true → t.wfu.tb[b] = { s.wfu.tb[b] with down := true }
          ∧ (∀ y, y ≠ b → t.wfu.tb[y] = s.wfu.tb[y]) ∧ t.wfu.leg = s.wfu.leg
          ∧ s.leaves t (fun r => r / 65536 = 7) [.wfu, .acq, .latches, .pending] (fun _ => False))

/-- R234, R236, R240, R241, R289, R291: a compare edge turns a leg's conducting switch off and starts the other's dead time, at
whose end that switch turns on; both pads of a leg are never high together, and no other leg moves. The guards beside the dead
time are the model's (log entry 151). -/
def Obligations.LegsFollowTheirCompares : Prop :=
  ∀ (s : State) (n : Fin 42),
    let x := s.leg n.val
    let one (t : State) : Prop :=
      (∀ m, m < 42 → m ≠ n.val → t.leg m = s.leg m)
        ∧ ((x.hi && x.lo) = false → ((t.leg n.val).hi && (t.leg n.val).lo) = false)
        ∧ s.sameBut t [R.WFU_LEG_ST n.val, R.WFU_STAT, R.GDP_LEG_ST n.val, R.GDP_STAT] [.wfu, .latches, .pending]
    (∃ t, exec (.deadTimeExpiry n) s = .next t ∧ one t
      ∧ (match x.dead with
        | none => t.leg n.val = { x with guardH := false, guardL := false } ∧ s.sameBut t [] [.wfu]
        | some .high => (t.leg n.val).cmdH = true ∧ (t.leg n.val).cmdL = x.cmdL ∧ (t.leg n.val).dead = none
            ∧ (x.cmdL = false → s.legPresent n.val = true → s.legEnabled n.val = true → n.val < 27 → (t.leg n.val).hi = true)
        | some .low => (t.leg n.val).cmdL = true ∧ (t.leg n.val).cmdH = x.cmdH ∧ (t.leg n.val).dead = none
            ∧ (x.cmdH = false → s.legPresent n.val = true → s.legEnabled n.val = true → n.val < 27 →
              (t.leg n.val).lo = true)))
    ∧ ∀ p : LegPoint, ∃ t, exec (.legCompareEdge n p) s = .next t ∧ one t
      ∧ (s.up = false ∨ s.legPresent n.val = false ∨ s.tbRunning (s.legTb n.val) = false → t = s)
      ∧ (s.up = true → s.legPresent n.val = true → s.tbRunning (s.legTb n.val) = true →
        (p ≠ .valley → s.legRow n.val ≠ .wave ∨ x.resume = true → t = s)
        ∧ (s.legRow n.val = .wave → x.resume = false → s.legIndependent n.val = false →
          (p = .aUp → 0 < s.legTH n.val → x.supH = false → x.cmdH = false → x.dead = none → (t.leg n.val).cmdH = false
            ∧ (t.leg n.val).cmdL = false ∧ (t.leg n.val).dead = some .high ∧ (t.leg n.val).lo = false)
          ∧ (p = .bDown → x.supL = false → x.supH = false → 0 < x.b → x.cmdL = false → (t.leg n.val).cmdH = false
            ∧ (t.leg n.val).cmdL = false ∧ (t.leg n.val).dead = some .low ∧ (t.leg n.val).hi = false)
          ∧ (p = .aDown ∨ p = .bUp → t = s))
        ∧ (p = .valley → s.fld (R.WFU_LEG_CFG n.val) F.WFU_LEG_CFG_PHS % (2 * s.tbPeriod (s.legTb n.val)) = 0 → t = s))

/-- R241, R243 to R245, R253, R254: a trip input latches where its trip is enabled and takes its legs to their safe levels; a clear
releases the trips whose inputs have gone, and is refused for the others. -/
def Obligations.TripsHoldTheirLegs : Prop :=
  ∀ s : State, s.up = true →
    (∀ (k : Fin 4) (level : Bool),
      let active := level != s.bit (R.WFU_TRIP_CFG k.val) F.WFU_TRIP_CFG_POL
      let rise := active && s.bit (R.WFU_TRIP_CFG k.val) F.WFU_TRIP_CFG_EN && !s.wfu.trip.getLsbD k.val
      ∃ t, exec (.tripInput k level) s = .next t
        ∧ (∀ j, j < 4 → t.wfu.tripPad.getLsbD j = (if j = k.val then level else s.wfu.tripPad.getLsbD j)
          ∧ t.wfu.trip.getLsbD j = (s.wfu.trip.getLsbD j || (decide (j = k.val) && rise)))
        ∧ (rise = true → t.bit R.WFU_STAT F.WFU_STAT_TRIP = true ∧ t.evt.pend.getLsbD 106 = true
          ∧ ∀ n, n < 42 → s.legPresent n = true → t.legTripped n = true → (t.leg n).hiz = false →
            t.bit (R.GDP_LEG_ST n) F.GDP_LEG_ST_ASC = false →
            ((t.reg (R.WFU_LEG_CFG n)).bit 25 = false → (t.leg n).hi = false)
              ∧ ((t.reg (R.WFU_LEG_CFG n)).bit 24 = false → (t.leg n).lo = false))
        ∧ s.leaves t State.powerReg State.powerParts (fun _ => False))
    ∧ ∀ mask : BitVec 4, ∃ t, exec (.tripClear mask) s = .next t ∧ t.wfu.tripPad = s.wfu.tripPad
      ∧ (∀ j, j < 4 → t.wfu.trip.getLsbD j = (s.wfu.trip.getLsbD j && (!mask.getLsbD j || s.tripLive.getLsbD j)))
      ∧ ((mask &&& s.tripLive) ≠ 0 → t.bit R.WFU_STAT F.WFU_STAT_CLEAR_REFUSED = true ∧ t.evt.pend.getLsbD 107 = true)
      ∧ s.leaves t State.powerReg State.powerParts (fun _ => False)

/-! ### Gate protection -/

/-- R289, R292 to R295, R299: a detection makes its legs high-impedance with their cause; blanking and soft turn-off end. -/
def Obligations.DetectionsMakeLegsHighImpedance : Prop :=
  ∀ s : State,
    let hit (t : State) (n cause : Nat) : Prop :=
      (t.leg n).hiz = true ∧ (t.leg n).hi = false ∧ (t.leg n).lo = false
        ∧ t.bit (R.GDP_LEG_ST n) F.GDP_LEG_ST_FAULT = true ∧ t.fld (R.GDP_LEG_ST n) F.GDP_LEG_ST_CAUSE = cause
        ∧ (t.bit (R.GDP_LEG_ST n) F.GDP_LEG_ST_LASTING = true ∨ t.bit (R.GDP_LEG_ST n) F.GDP_LEG_ST_COOL = true)
        ∧ t.bit R.GDP_STAT F.GDP_STAT_FAULT = true ∧ t.evt.pend.getLsbD 128 = true
    (∀ (j : Fin 15) (w : Switch),
      let n := 27 + j.val
      (∃ t, exec (.blankingExpiry j w) s = .next t
        ∧ t.leg n = (match w with | .high => { s.leg n with blankH := false } | .low => { s.leg n with blankL := false })
        ∧ (∀ m, m < 42 → m ≠ n → t.leg m = s.leg m) ∧ s.sameBut t [] [.wfu])
      ∧ (∃ t, exec (.softTurnOffEnd j) s = .next t ∧ t.leg n = { s.leg n with soft := none }
        ∧ (∀ m, m < 42 → m ≠ n → t.leg m = s.leg m) ∧ s.sameBut t [] [.wfu])
      ∧ (s.up = true → ∃ t, exec (.desaturationDetection j w) s = .next t
        ∧ (s.bit (R.GDP_DRV_CFG j.val) F.GDP_DRV_CFG_DSEN = true → (s.leg n).hiz = false →
          (match w with
            | .high => (s.leg n).hi = true ∧ (s.leg n).blankH = false
            | .low => (s.leg n).lo = true ∧ (s.leg n).blankL = false) →
          hit t n (match w with | .high => 1 | .low => 2))
        ∧ s.leaves t State.powerReg State.powerParts (fun _ => False)))
    ∧ (s.up = true →
      (∀ (c : Fin 9) (above : Bool), ∃ t, exec (.shuntDetection c above) s = .next t
        ∧ t.gdp.shunt.getLsbD c.val = above ∧ (∀ d, d < 9 → d ≠ c.val → t.gdp.shunt.getLsbD d = s.gdp.shunt.getLsbD d)
        ∧ (above = true → s.gdp.shunt.getLsbD c.val = false → s.bit (R.GDP_OC_CFG c.val) F.GDP_OC_CFG_EN = true →
          ∀ n ∈ (if c.val < 3 then [27 + 3 * c.val, 28 + 3 * c.val, 29 + 3 * c.val] else [33 + c.val]),
            (s.leg n).hiz = false → hit t n 3)
        ∧ s.leaves t State.powerReg State.powerParts (fun _ => False))
      ∧ (∀ (n : Fin 27) (active : Bool), ∃ t, exec (.faultLineDetection n active) s = .next t
        ∧ (s.legPresent n.val = false → t = s)
        ∧ (s.legPresent n.val = true → (t.leg n.val).line = active
          ∧ (active = true → (s.leg n.val).hiz = false → s.gdp.en.getLsbD (legStage n.val) = true →
            s.gdp.blank.getLsbD (legEnable n.val) = false → hit t n.val 4))
        ∧ s.leaves t State.powerReg State.powerParts (fun _ => False))
      ∧ ∀ x : Fin 4, ∃ t, exec (.enableBlankExpiry x) s = .next t ∧ t.gdp.blank.getLsbD x.val = false
        ∧ (∀ y, y < 4 → y ≠ x.val → t.gdp.blank.getLsbD y = s.gdp.blank.getLsbD y)
        ∧ (∀ n, n < 27 → legEnable n = x.val → s.legPresent n = true → (s.leg n).line = true → (s.leg n).hiz = false →
            s.gdp.en.getLsbD (legStage n) = true → (t.leg n).hiz = true
              ∧ (t.bit (R.GDP_LEG_ST n) F.GDP_LEG_ST_FAULT = true ∨ t.stageIsSafe (legStage n) = true))
        ∧ s.leaves t State.powerReg State.powerParts (fun _ => False))

/-- R299, R301, R302: the cool-off, the watch and the clear of a leg, and dips of the driver supplies. -/
def Obligations.LegsRetryAndClear : Prop :=
  ∀ s : State,
    (∀ n : Fin 42,
      let r := R.GDP_LEG_ST n.val
      (∃ t, exec (.coolOffEnd n) s = .next t
        ∧ (s.bit r F.GDP_LEG_ST_COOL = false → t.gdp = s.gdp ∧ (t.leg n.val).hiz = (s.leg n.val).hiz)
        ∧ (s.bit r F.GDP_LEG_ST_COOL = true → (s.leg n.val).group = false →
          t.bit r F.GDP_LEG_ST_COOL = false
          ∧ (if s.sourceActive n.val = true then
              t.bit r F.GDP_LEG_ST_LASTING = true ∧ t.fld r F.GDP_LEG_ST_STATUS = 7 ∧ t.fld r F.GDP_LEG_ST_CAUSE = 5
                ∧ t.evt.pend.getLsbD 130 = true ∧ (t.leg n.val).hiz = (s.leg n.val).hiz
             else t.bit r F.GDP_LEG_ST_WATCH = true ∧ (t.leg n.val).hiz = false ∧ (t.leg n.val).soft = none))
        ∧ s.leaves t State.powerReg State.powerParts (fun _ => False))
      ∧ ∃ t, exec (.watchEnd n) s = .next t
        ∧ (s.bit r F.GDP_LEG_ST_WATCH = false → t = s)
        ∧ (s.bit r F.GDP_LEG_ST_WATCH = true → (s.leg n.val).group = false →
          t.bit r F.GDP_LEG_ST_WATCH = false ∧ t.fld r F.GDP_LEG_ST_STATUS = 6
            ∧ t.fld r F.GDP_LEG_ST_TRANS = min (s.fld r F.GDP_LEG_ST_TRANS + 1) 255
            ∧ s.fires t [129] ∧ s.sameBut t [r] [.wfu, .latches, .pending]))
    ∧ (∀ (m : Master) (leg : BitVec 6),
      let n := leg.toNat
      if 41 < n then exec (.legClear m leg) s = .fault .hostMistake
      else ∃ t, exec (.legClear m leg) s = .next t
        ∧ t.lastStatus m = s.legClearStatus n ∧ t.fld R.GDP_CLRST F.GDP_CLRST_LEG = n
        ∧ t.fld R.GDP_CLRST F.GDP_CLRST_STATUS = (s.legClearStatus n).code ∧ t.evt.pend.getLsbD 136 = true
        ∧ (s.legPresent n = false → s.legClearStatus n = .notPresent)
        ∧ (s.legPresent n = true → s.mod.lock = .inForce → s.legClearStatus n = .locked)
        ∧ (s.legPresent n = true → s.mod.lock ≠ .inForce → s.mode ≠ .service → s.legModePermits n = true →
          s.legClearStatus n = .wrongMode)
        ∧ (s.legClearStatus n = .ok → (s.leg n).hiz = true →
          (t.leg n).hiz = false ∧ t.bit (R.GDP_LEG_ST n) F.GDP_LEG_ST_FAULT = false
            ∧ t.bit (R.GDP_LEG_ST n) F.GDP_LEG_ST_LASTING = false ∧ t.stageIsSafe (legStage n) = false)
        ∧ (s.legClearStatus n ≠ .ok → (t.leg n).hiz = (s.leg n).hiz ∧ t.gdp = s.gdp))
    ∧ (s.up = true →
      (∀ r : DriverRail, ∃ t, exec (.driverSupplyDip r) s = .next t ∧ t.gdp.dip = true
        ∧ (match r with
          | .vcp => t.gdp.vcpOk = false ∧ t.gdp.vdrvOk = s.gdp.vdrvOk
          | .vdrv => t.gdp.vdrvOk = false ∧ t.gdp.vcpOk = s.gdp.vcpOk)
        ∧ (∀ n, 27 ≤ n → n < 42 → (t.leg n).hi = false ∧ (t.leg n).lo = false)
        ∧ s.leaves t (fun r => r = R.GDP_STAT ∨ ∃ n, n < 42 ∧ r = R.GDP_LEG_ST n) [.wfu, .gdp, .latches, .pending]
            (fun _ => False))
      ∧ ∃ t, exec .driverSupplyRecovery s = .next t ∧ t.gdp = { s.gdp with dip := false, vcpOk := true, vdrvOk := true }
        ∧ (s.gdp.dip = true → t.fld R.GDP_SUPPLY F.GDP_SUPPLY_DIPCNT = min (s.fld R.GDP_SUPPLY F.GDP_SUPPLY_DIPCNT + 1) 255
          ∧ t.bit R.GDP_STAT F.GDP_STAT_SUPPLY_DIP = true ∧ t.evt.pend.getLsbD 135 = true)
        ∧ s.leaves t (fun r => r = R.GDP_STAT ∨ r = R.GDP_SUPPLY ∨ ∃ n, n < 42 ∧ r = R.GDP_LEG_ST n)
            [.wfu, .gdp, .latches, .pending] (fun _ => False))

/-- R240, R259 to R261, R265, R268, R281: table drive takes its inputs at a tick and decides; its decision reaches the legs. -/
def Obligations.TableDriveDecides : Prop :=
  ∀ (s : State) (x : Fin 2),
    let c := s.tdu[x]
    let runs := s.up = true ∧ (x = 0 ∨ s.hasB = true)
    let half (k e : Nat) : BitVec 16 :=
      (s.tableWord (s.fld (R.TDU_TBASE x.val) F.TDU_TBASE_TBASE + 36 * k + e / 2)).extractLsb' (16 * (e % 2)) 16
    let good (k : Nat) : Prop := ∀ e, e < 72 → ∀ j, j < 6 → ((half k e).getLsbD j = false ∨ (half k e).getLsbD (6 + j) = false)
      ∧ (k = j + 1 → (half k e).getLsbD j = false ∧ (half k e).getLsbD (6 + j) = false)
    (∃ t, exec (.tdTick x) s = .next t
      ∧ (¬ runs ∨ c.op = .off → t = s)
      ∧ (runs → c.op ≠ .off → t.tdu[x] = { c with ticked := true, got := [] } ∧ (∀ y, y ≠ x → t.tdu[y] = s.tdu[y])
        ∧ s.leaves t (fun r => r / 65536 = 7) [.tdu, .acq, .latches, .pending] (fun _ => False)))
    ∧ (∀ (tint : Nat) (ton toff : Vector Nat 6), (c.op = .table → ∀ k, k < 7 → good k) →
      ∃ t, exec (.tdInput x tint ton toff) s = .next t
      ∧ (¬ runs ∨ c.op = .off ∨ c.ticked = false → t = s)
      ∧ (runs → c.op ≠ .off → c.ticked = true →
        (t.tdu[x]).ticked = false ∧ (t.tdu[x]).deciding = true ∧ (t.tdu[x]).frame = none ∧ (t.tdu[x]).op = c.op
          ∧ (∀ j : Fin 6, (t.tdu[x]).hiz.getLsbD j.val = true → (t.tdu[x]).cur[j] = 0)
          ∧ (∀ (j : Fin 6) (v : Nat), s.tdNamed x j.val = true → kvGet c.got (s.tdSelect x j.val) = some v →
              (t.tdu[x]).code[j.val] = some v
                ∧ ((t.tdu[x]).hiz.getLsbD j.val = false → (t.tdu[x]).cur[j] = s.tdCurrent x j.val v))
          ∧ (t.tdu[x]).scale = (if s.fld (R.TDU_FSW x.val) F.TDU_FSW_TLIM = 0 then 0
              else min 3 (c.trans / s.fld (R.TDU_FSW x.val) F.TDU_FSW_TLIM))
          ∧ (t.tdu[x]).cT = State.torqueState c.cT ((t.tdu[x]).val[10] - (t.tdu[x]).tq)
              (s.fld (R.TDU_BAND x.val) F.TDU_BAND_TB * 2 ^ (t.tdu[x]).scale)
          ∧ (t.tdu[x]).cPsi = State.fluxState c.cPsi (s.fld (R.TDU_FREF x.val) F.TDU_FREF_FREF - (t.tdu[x]).psm)
              (s.fld (R.TDU_BAND x.val) F.TDU_BAND_FB * 2 ^ (t.tdu[x]).scale)
          ∧ (t.tdu[x]).sector < 12
          ∧ ((t.tdu[x]).table = c.table
            ∨ (t.evt.pend.getLsbD (114 + 8 * x.val) = true
              ∧ ((t.tdu[x]).table = 7 → t.bit (R.TDU_ST x.val) F.TDU_ST_MULTI = true)))
          ∧ ((t.tdu[x]).hiz = 0 → (t.tdu[x]).table = 0)
          ∧ (∀ j : Fin 6, (t.tdu[x]).hiz = 1#6 <<< j.val → (t.tdu[x]).table = j.val + 1)
          ∧ (t.tdu[x]).applied = c.applied ∧ (t.tdu[x]).trans = c.trans ∧ (∀ y, y ≠ x → t.tdu[y] = s.tdu[y])
          ∧ s.leaves t (fun r => State.powerReg r ∨ r / 65536 = 5 ∨ r / 65536 = 0xF) (.tdu :: State.powerParts)
              (fun _ => False)))
    ∧ ∃ t, exec (.tdDecisionComplete x) s = .next t
      ∧ (¬ runs ∨ c.deciding = false → t = s)
      ∧ (runs → c.deciding = true → (t.tdu[x]).deciding = false ∧ (t.tdu[x]).next = none ∧ (t.tdu[x]).done = c.val
        ∧ (t.tdu[x]).op = c.op ∧ (t.tdu[x]).dwell = c.dwell
        ∧ (∀ y, y ≠ x → t.tdu[y] = s.tdu[y])
        ∧ (c.op ≠ .table ∨ c.next = none → s.sameBut t [] [.tdu])
        ∧ (c.op = .table → ∀ st, c.next = some st → (t.tdu[x]).applied = some st ∧ c.trans ≤ (t.tdu[x]).trans
          ∧ (t.tdu[x]).trans ≤ c.trans + 6
          ∧ (∀ was, c.applied = some was → was = st → (t.tdu[x]).trans = c.trans)
          ∧ (∀ j, j < 6 → s.legRow (6 * x.val + j) = .table → (s.leg (6 * x.val + j)).resume = false →
              let l := s.leg (6 * x.val + j)
              let m := t.leg (6 * x.val + j)
              (st.getLsbD (6 + j) = true → m.cmdL = false ∧ m.lo = false ∧ m.cmdH = l.cmdH
                ∧ m.dead = (if l.cmdH = true then none else some .high))
              ∧ (st.getLsbD (6 + j) = false → st.getLsbD j = true → m.cmdH = false ∧ m.hi = false ∧ m.cmdL = l.cmdL
                ∧ m.dead = (if l.cmdL = true then none else some .low))
              ∧ (st.getLsbD (6 + j) = false → st.getLsbD j = false →
                m.cmdH = false ∧ m.cmdL = false ∧ m.hi = false ∧ m.lo = false ∧ m.dead = none))
          ∧ (∀ n, n < 42 → n / 6 ≠ x.val ∨ s.legRow n ≠ .table ∨ (s.leg n).resume = true → t.leg n = s.leg n)
          ∧ s.leaves t State.powerReg [.tdu, .wfu, .gdp, .latches, .pending] (fun _ => False)))

/-! ### Actuators -/

/-- R316, R319, R322, R324, R326: the commands of a drive, the clear of its lasting fault, and a nudge. -/
def Obligations.ActuatorsTakeCommands : Prop :=
  ∀ s : State, s.up = true →
    (∀ d : Fin 5,
      let st := R.ACT_D_ST d.val
      let ended (t : State) (x : Status) : Prop :=
        t.actState d = 0 ∧ t.fld st F.ACT_D_ST_STATUS = x.code ∧ t.fld st F.ACT_D_ST_PAUSE = 0 ∧ (t.drive d).failed = none
          ∧ t.budgetWaits d.val = false
      let starts (t : State) (retry : Bool) : Prop :=
        if s.actBlocked d = true then t.actState d = 0 ∧ t.bit st F.ACT_D_ST_PAUSE = true
        else t.bit st F.ACT_D_ST_PAUSE = false ∧ (s.quiet = false → s.bit R.ENP_SBCFG F.ENP_SBCFG_EN = false →
            t.fld st F.ACT_D_ST_STATUS = Status.busy.code ∧ (t.drive d).retrying = retry
              ∧ t.actState d = (if s.fld (R.ACT_D_CFG d.val) F.ACT_D_CFG_ANG = 0 then 2 else 3))
          ∧ (s.quiet = true → t.actState d = 1 ∧ t.fld st F.ACT_D_ST_STATUS = Status.busy.code ∧ t.budgetWaits d.val = true)
      let noPark := d.val ≠ 1 ∨ (s.sreg R.POS_GSPD).natAbs < s.nreg R.ACT_PARKSPD
      let go (t : State) (w : Word) (move : Bool) : Prop :=
        t.reg (R.ACT_D_CMD d.val) = w
          ∧ (s.actState d = 7 → t.actState d = 7 ∧ t.reg st = s.reg st)
          ∧ (s.actState d ≠ 7 → s.permits (actFunc d.val) = false →
              ended t (if s.lockInForce = true then .locked else .wrongMode))
          ∧ (s.actState d ≠ 7 → s.permits (actFunc d.val) = true → move = true → (s.actCode d).2 = false →
              ended t .outOfRange)
          ∧ (s.permits (actFunc d.val) = true → (move = true → (s.actCode d).2 = true ∧ noPark) →
              (s.actState d = 0 → starts t false)
              ∧ (s.actState d = 6 → starts t (decide ((s.drive d).failed = some w)))
              ∧ (s.actState d ∈ [1, 2, 3] → w ≠ s.reg (R.ACT_D_CMD d.val) → starts t false)
              ∧ (s.actState d ∈ [4, 5] → t.actState d = 4
                ∧ t.fld st F.ACT_D_ST_STATUS
                    = (if move = true then Status.busy.code
                       else if (s.drive d).retrying = true then Status.retriedOk.code else Status.ok.code)))
          ∧ s.leaves t State.powerReg State.powerParts (fun _ => False)
      (∃ t, exec (.actStop d) s = .next t ∧ t.reg (R.ACT_D_CMD d.val) = 0 ∧ ended t .ok
        ∧ s.leaves t State.powerReg State.powerParts (fun _ => False))
      ∧ (∀ tgt : Fin 8, ∃ t, exec (.actMove d tgt) s = .next t
        ∧ go t (Word.field 31 30 1 ||| Word.field 2 0 tgt.val) true
        ∧ (d.val = 1 → s.actState d ≠ 7 → s.permits .parkLock = true → (s.actCode d).2 = true → s.targetKind d tgt.val = 4 →
            s.nreg R.ACT_PARKSPD ≤ (s.sreg R.POS_GSPD).natAbs →
            ended t .outOfRange ∧ t.bit R.ACT_STAT F.ACT_STAT_PARKREF = true))
      ∧ (∀ pad : Option (Fin 4), ∃ t, exec (.actSpeed d pad) s = .next t
        ∧ go t (Word.field 31 30 2 ||| (match pad with | some p => Word.field 9 9 1 ||| Word.field 5 4 p.val | none => 0)) false)
      ∧ ∃ t, exec (.actLastingClear d) s = .next t
        ∧ (s.bit st F.ACT_D_ST_LASTING = false → t = s)
        ∧ (s.bit st F.ACT_D_ST_LASTING = true → t.bit st F.ACT_D_ST_LASTING = false
          ∧ t.actState d = (if s.actState d = 7 then 0 else s.actState d)
          ∧ s.sameBut t [st, R.MOD_DEG] [.act, .mod, .latches, .pending]))
    ∧ ∀ (x : Fin 2) (n : BitVec 16), ∃ t, exec (.nudgeStart x n) s = .next t
      ∧ (x = 1 ∧ s.hasB = false → t = s)
      ∧ (x = 0 ∨ s.hasB = true →
        let ignored := s.bit R.ACT_SYNC F.ACT_SYNC_EN = false ∨ s.fld (R.CLE_SL_CFG (s.syncSlot x)) F.CLE_SL_CFG_LAW = 0
        (t.reg (State.nudgeReg x)).toNat = n.toNat
          ∧ (n = 0 ∨ ignored → t.act = s.act)
          ∧ (n ≠ 0 → ignored → t.bit R.ACT_STAT F.ACT_STAT_NUDGE_IGN = true)
          ∧ (n ≠ 0 → ¬ ignored → (t.act.nudge[x]).running = true ∧ (t.act.nudge[x]).p = 0
            ∧ (∀ y, y ≠ x → t.act.nudge[y] = s.act.nudge[y]) ∧ t.act.drive = s.act.drive)
          ∧ s.sameBut t [State.nudgeReg x, R.ACT_STAT] [.act])

/-- R312, R317 to R319, R321: a drive probes its rotor, starts, recognises a locked rotor and retries. -/
def Obligations.ActuatorsStartAndRetry : Prop :=
  ∀ (s : State) (d : Fin 5),
    let st := R.ACT_D_ST d.val
    let c := s.actState d
    let hall := s.fld (R.ACT_D_CFG d.val) F.ACT_D_CFG_ANG ≠ 0
    let runs (t : State) : Prop := t.actState d = 4
      ∧ (s.actCfg d F.ACT_D_CFG_EVEN = true → t.evt.pend.getLsbD 200 = true)
      ∧ (s.actOp d ≠ 1 → t.fld st F.ACT_D_ST_STATUS
          = (if (s.drive d).retrying = true then Status.retriedOk.code else Status.ok.code))
    let fails (t : State) : Prop :=
      t.bit st F.ACT_D_ST_LOCK = true ∧ t.bit R.ACT_STAT F.ACT_STAT_LOCK = true
        ∧ (s.actCfg d F.ACT_D_CFG_EVEN = true → t.evt.pend.getLsbD 201 = true)
        ∧ (if (s.drive d).retrying = true then
            t.actState d = 7 ∧ t.fld st F.ACT_D_ST_STATUS = Status.failedTwice.code ∧ t.bit st F.ACT_D_ST_LASTING = true
              ∧ (t.drive d).deg = s.actCfg d F.ACT_D_CFG_DEG
              ∧ (s.actCfg d F.ACT_D_CFG_EVEN = true → t.evt.pend.getLsbD 202 = true)
           else t.actState d = 6 ∧ (t.drive d).failed = some (s.reg (R.ACT_D_CMD d.val)))
    let keeps (t : State) : Prop := s.leaves t State.powerReg State.powerParts (fun _ => False)
    (∃ t, exec (.actProbePulseEnd d) s = .next t
      ∧ (c ≠ 2 ∨ (s.drive d).taken ≠ 0 → t = s)
      ∧ (c = 2 → (s.drive d).taken = 0 → t.drive d = { s.drive d with taken := 1 } ∧ t.actState d = 2
        ∧ ∀ n, n < 42 → n ∈ actLegs d.val → (t.leg n).forced = some (false, true)))
    ∧ (∃ t, exec (.probeDecayEnd d) s = .next t
      ∧ (c ≠ 2 ∨ (s.drive d).taken = 0 → t = s)
      ∧ (c = 2 → (s.drive d).taken ≠ 0 → (s.drive d).m.length < 11 → t.actState d = 2
        ∧ t.drive d = { s.drive d with m := (s.drive d).m ++ [s.probeCurrent d (s.drive d).m.length], taken := 0 })
      ∧ (c = 2 → (s.drive d).taken ≠ 0 → 11 ≤ (s.drive d).m.length →
        let l := (s.drive d).m ++ [s.probeCurrent d (s.drive d).m.length]
        let i := State.largestAt l
        t.fld (R.ACT_D_ANG d.val) F.ACT_D_ANG_PROBE = State.probeAngle l
          ∧ (if l.getD (i % 12) 0 - l.getD ((i + 6) % 12) 0 < (s.actParam d 11).bits 31 16 then fails t
             else t.actState d = 3))
      ∧ keeps t)
    ∧ (∀ obs : Word, ∃ t, exec (.actRampEnd d obs) s = .next t
      ∧ (c ≠ 3 ∨ hall → t = s)
      ∧ (c = 3 → ¬ hall →
        let v := if s.actForward d = true then obs.toInt else -obs.toInt
        t.reg (R.ACT_D_SPD d.val) = obs ∧ (if s.obsMin d ≤ 2 * v ∧ v ≤ 2 * s.obsMin d then runs t else fails t))
      ∧ keeps t)
    ∧ (∀ (obs : Word) (eang : BitVec 16), ∃ t, exec (.actCommutation d obs eang) s = .next t
      ∧ (c ∉ [3, 4, 5] → t = s)
      ∧ (c ∈ [3, 4, 5] → t.reg (R.ACT_D_SPD d.val) = obs ∧ t.fld (R.ACT_D_ANG d.val) F.ACT_D_ANG_EANG = eang.toNat
        ∧ (if c = 3 ∧ hall then runs t else t.actState d = c ∧ t.act = s.act))
      ∧ keeps t)
    ∧ (∃ t, exec (.actLockedRotor d) s = .next t
      ∧ (if c = 3 ∨ (c = 4 ∧ (s.actOp d = 1 ∨ s.obsMin d ≤ (s.drive d).ref.natAbs)) then fails t else t = s) ∧ keeps t)
    ∧ (∃ t, exec (.actRetryDelayExpiry d) s = .next t
      ∧ (c ≠ 6 ∨ s.actCfg d F.ACT_D_CFG_AUTO = false → t = s)
      ∧ (c = 6 → s.actCfg d F.ACT_D_CFG_AUTO = true → s.actBlocked d = false → s.quiet = false →
          s.bit R.ENP_SBCFG F.ENP_SBCFG_EN = false → (t.drive d).retrying = true
            ∧ t.fld st F.ACT_D_ST_STATUS = Status.busy.code ∧ t.actState d = (if hall then 3 else 2))
      ∧ keeps t)
    ∧ ∀ x : Fin 3, x.val = d.val → ∃ t, exec (.singleShuntSamplingPoint x) s = .next t
      ∧ (s.actDriving d = false ∨ (s.drive d).order = none → t = s) ∧ t.act = s.act ∧ t.wfu = s.wfu ∧ t.pending = s.pending

/-! ### The energy path -/

/-- R337, R348, R354 to R356: the commands of the energy path. -/
def Obligations.EnergyPathTakesCommands : Prop :=
  ∀ (s : State) (m : Master),
    let begun (t : State) : Prop :=
      t.fld R.ENP_STATE F.ENP_STATE_SESS = (s.fld R.ENP_STATE F.ENP_STATE_SESS + 1) % 256 ∧ t.enp.bmsSeq = none
        ∧ t.reg R.ENP_BMSST = 0
        ∧ (s.mode ≠ .supply → t.enp.exporting = false
          ∧ t.enp.phase = (if s.enpConn = true ∧ s.fld R.ENP_SRCST F.ENP_SRCST_PL ≠ 3 then .qualify else .detect)
          ∧ s.sameBut t [R.ENP_STATE, R.ENP_BMSST] [.enp, .bus, .latches, .pending])
        ∧ (s.mode = .supply → t.enp.exporting = true)
        ∧ (s.mode = .supply → s.bit R.ENP_CFG F.ENP_CFG_EXTOOL = false → t.enp.phase = .expWait
          ∧ t.enp.pilot = (if s.fld R.ENP_SRCST F.ENP_SRCST_PSTATE = 1 then 2 else 1))
        ∧ (s.mode = .supply → s.bit R.ENP_CFG F.ENP_CFG_EXTOOL = true → s.enp.asked = false → s.quiet = false →
            s.bit R.ENP_SBCFG F.ENP_SBCFG_EN = false → t.enp.phase = .precharge ∧ t.enp.pilot = 0
              ∧ (t.wfu.tb[s.enpTb true]).running = true)
    let judge (f : State → Prop) (o : Host.Outcome State Fault Refusal) : Prop :=
      ∃ t, o = .next t
        ∧ (s.hasCharger = false → t.lastStatus m = .notPresent ∧ s.sameBut t [] [.bus])
        ∧ (s.hasCharger = true → s.mod.lock = .inForce → t.lastStatus m = .locked ∧ s.sameBut t [] [.bus])
        ∧ (s.hasCharger = true → s.mod.lock ≠ .inForce → (s.mode ≠ .charge ∧ s.mode ≠ .supply) → s.refusedFor t m R.ENP_CMD)
        ∧ (s.hasCharger = true → s.mod.lock ≠ .inForce → (s.mode = .charge ∨ s.mode = .supply) → s.pendTarget = none →
            t.lastStatus m = .ok ∧ f t)
    let busy (t : State) : Prop := t.enp.cmdst = .busy ∧ t.enp.phase = s.enp.phase ∧ s.sameBut t [] [.enp, .bus]
    judge (fun t => if s.enp.phase = .idle then t.enp.cmdst = .ok ∧ begun t else busy t) (exec (.enpStart m) s)
    ∧ judge (fun t => if s.enp.phase = .halted then t.enp.cmdst = .ok ∧ begun t else busy t) (exec (.enpRestart m) s)
    ∧ judge (fun t => t.enp.cmdst = .ok
        ∧ (match s.enp.phase with
          | .idle => s.sameBut t [] [.enp, .bus] ∧ t.enp.phase = .idle
          | .fault => s.sameBut t [] [.enp, .bus] ∧ t.enp.phase = .idle ∧ t.enp.relay = false
          | .hinge => s.sameBut t [] [.enp, .bus] ∧ t.enp.phase = .hinge ∧ t.enp.ending.next = .idle
          | .run | .busHold | .expRun =>
            s.sameBut t [] [.enp, .bus] ∧ t.enp.phase = s.enp.phase ∧ t.enp.stopping = true
          | _ => if s.enpSafe = true then t.sessionEnded 1 .ok .idle else t.hinged 1 .ok .idle))
      (exec (.enpStop m) s)

/-- R338 to R341, R348, R352, R354, R358, R359: pilot, proximity and the watches of the energy path. -/
def Obligations.EnergyPathWatches : Prop :=
  ∀ s : State,
    let on := s.hasCharger = true ∧ s.up = true
    let ph := s.enp.phase
    let first (t : State) : EnpPhase := if t.enpConn = true ∧ t.fld R.ENP_SRCST F.ENP_SRCST_PL ≠ 3 then .qualify else .detect
    (∀ (hz : BitVec 16) (duty : BitVec 10) (up low : BitVec 9), ∃ t,
      exec (.pilotStateChange hz duty up low) s = .next t
      ∧ (¬ on → t = s)
      ∧ (on →
        let pwm := t.bit R.ENP_SRCST F.ENP_SRCST_PWM
        let ps := t.fld R.ENP_SRCST F.ENP_SRCST_PSTATE
        let was := s.fld R.ENP_SRCST F.ENP_SRCST_PSTATE
        let ranged (a b : Int) : Prop := a ≤ up.toInt ∧ up.toInt < b
        let loss := ps ≠ 1 ∧ ps ≠ 2
        t.fld R.ENP_SRCST F.ENP_SRCST_PL = (if pwm = true then 1 else if ps = 4 then 0 else if ps ≤ 2 then 2 else 3)
          ∧ (pwm = true ↔ 900 ≤ hz.toNat ∧ hz.toNat ≤ 1100)
          ∧ ((pwm = true ∧ low.toInt ≤ -105) ∨ hz = 0 →
            (ps = 0 ↔ ranged 105 136) ∧ (ps = 1 ↔ ranged 75 105) ∧ (ps = 2 ↔ ranged 45 75) ∧ (ps = 3 ↔ ranged 15 45)
              ∧ (ps = 4 ↔ ranged (-15) 15 ∧ -15 ≤ low.toInt) ∧ (ps = 5 ↔ pwm = false ∧ up.toInt ≤ -105))
          ∧ ((pwm = true ∧ -105 < low.toInt) ∨ (pwm = false ∧ hz ≠ 0) → ps = 7)
          ∧ t.fld R.ENP_PLTST F.ENP_PLTST_DUTY = duty.toNat
          ∧ (s.enp.exporting = false →
            t.fld R.ENP_LIM0 F.ENP_LIM0_PILOT
                = (let d := duty.toNat
                   if pwm = false ∨ d < 80 then 0 else if d < 100 then 16 * 6 else if d ≤ 850 then d * 96 / 100
                   else if d ≤ 960 then (d - 640) * 4 else if d ≤ 970 then 16 * 80 else 0)
            ∧ (pwm = true → 30 ≤ duty.toNat → duty.toNat < 80 → t.bit R.ENP_STAT F.ENP_STAT_DIGCOM = true)
            ∧ (ph = .detect → t.enp.phase = first t)
            ∧ (ph = .qualify → t.fld R.ENP_SRCST F.ENP_SRCST_PL ≠ s.fld R.ENP_SRCST F.ENP_SRCST_PL → t.enp.phase = first t)
            ∧ (ph ∈ [.precharge, .close, .mains] → loss → t.steppedBack)
            ∧ (ph = .mains → s.enp.asked = false → t.fld R.ENP_SRCST F.ENP_SRCST_PL ≠ s.fld R.ENP_SRCST F.ENP_SRCST_PL →
                t.steppedBack)
            ∧ (ph ∈ [.run, .busHold] → loss → t.hinged 3 .timeout .holdOff)
            ∧ (ph = .hinge → ¬ loss → was ≠ 1 → was ≠ 2 → t.bit R.ENP_STAT F.ENP_STAT_REPLUG = true)
            ∧ (ph = .hinge → loss ∨ was = 1 ∨ was = 2 →
                t.bit R.ENP_STAT F.ENP_STAT_REPLUG = s.bit R.ENP_STAT F.ENP_STAT_REPLUG)
            ∧ (ph = .hinge → t.enp = s.enp)
            ∧ (ph ∈ [.precharge, .close, .run, .busHold] ∨ (ph = .mains ∧ s.enp.asked = true) → ¬ loss → t.enp = s.enp)
            ∧ s.energyOnly t)
          ∧ (s.enp.exporting = true → s.bit R.ENP_CFG F.ENP_CFG_EXTOOL = false →
            (ph = .expWait → ps = 1 → t.enp.phase = .expWait ∧ t.enp.pilot = 2 ∧ t.enp.asked = false)
            ∧ (ph = .expWait → ps = 2 → s.enp.pilot ≠ 2 → t.enp = s.enp)
            ∧ (ph = .expWait → ps = 2 → s.enp.pilot = 2 → s.enp.asked = false → s.quiet = false →
                s.bit R.ENP_SBCFG F.ENP_SBCFG_EN = false → t.enp.phase = .precharge)
            ∧ (ph = .expWait → ps = 3 → t.enp = { s.enp with asked := false } ∧ t.bit R.ENP_STAT F.ENP_STAT_VENT = true
                ∧ t.evt.pend.getLsbD 198 = true)
            ∧ (ph = .expWait → ps = 0 ∨ 4 ≤ ps → t.enp = { s.enp with asked := false, pilot := 1 })
            ∧ (ph ∈ [.precharge, .close] → ps ≠ 2 → t.steppedBack
              ∧ t.enp.pilot = (if ps = 1 then 2 else if ps = 3 then s.enp.pilot else 1)
              ∧ (ps = 3 → t.bit R.ENP_STAT F.ENP_STAT_VENT = true ∧ t.evt.pend.getLsbD 198 = true))
            ∧ (ph = .hinge → t.bit R.ENP_STAT F.ENP_STAT_REPLUG
                = (s.bit R.ENP_STAT F.ENP_STAT_REPLUG || decide ((was = 0 ∨ 4 ≤ was) ∧ ps ≠ 0 ∧ ps < 4)))
            ∧ (ph = .expRun → ps = 1 → t.hinged 1 .ok .expWait)
            ∧ (ph = .expRun → ps = 0 ∨ 4 ≤ ps → t.hinged 3 .timeout .holdOff))))
    ∧ (∀ res : BitVec 16, ∃ t, exec (.proximityChange res) s = .next t
      ∧ (¬ on → t = s)
      ∧ (on →
        let conn := 75 ≤ res.toNat ∧ (res.toNat < 1000 ∨ (1000 ≤ res.toNat ∧ res.toNat ≤ 2700))
        t.fld R.ENP_PROX F.ENP_PROX_RES = res.toNat ∧ (t.enpConn = true ↔ conn)
          ∧ t.fld R.ENP_SRCST F.ENP_SRCST_PX
              = (let r := res.toNat
                 if 5000 < r then 0 else if 1000 ≤ r ∧ r ≤ 2700 then 1 else if 470 ≤ r ∧ r < 1000 then 2
                 else if 150 ≤ r ∧ r < 470 then 3 else if 75 ≤ r ∧ r < 150 then 4 else 5)
          ∧ t.fld R.ENP_LIM0 F.ENP_LIM0_CABLE
              = (if ¬ conn then 0 else if res.toNat < 150 then 16 * 63 else if res.toNat < 470 then 16 * 32
                 else if res.toNat < 1000 then 16 * 20 else 16 * 13)
          ∧ (ph = .detect → t.enp.phase = first t)
          ∧ (ph = .qualify → t.fld R.ENP_SRCST F.ENP_SRCST_PX ≠ s.fld R.ENP_SRCST F.ENP_SRCST_PX → t.enp.phase = first t)
          ∧ ((ph ∈ [.precharge, .close] ∧ s.enp.exporting = false) ∨ ph = .mains → ¬ conn → t.steppedBack)
          ∧ (ph = .mains → s.enp.asked = false → t.fld R.ENP_SRCST F.ENP_SRCST_PX ≠ s.fld R.ENP_SRCST F.ENP_SRCST_PX →
              t.steppedBack)
          ∧ (ph = .hinge → t.enp = s.enp ∧ (conn → s.enpConn = false → t.bit R.ENP_STAT F.ENP_STAT_REPLUG = true)
            ∧ (¬ conn ∨ s.enpConn = true → t.bit R.ENP_STAT F.ENP_STAT_REPLUG = s.bit R.ENP_STAT F.ENP_STAT_REPLUG))
          ∧ (ph ∈ [.run, .busHold, .expWait, .expRun] → t.enp = s.enp)
          ∧ s.energyOnly t))
    ∧ ∀ (half : BitVec 3) (v : Vector (BitVec 16) 3) (vpp : BitVec 16) (freq : BitVec 12), ∃ t,
      exec (.enpWatch half v vpp freq) s = .next t
      ∧ (¬ on → t = s)
      ∧ (on →
        let pres (s : State) (i : Fin 3) : Bool := (s.fld R.ENP_MAINSST F.ENP_MAINSST_PRES).testBit i.val
        let seen (i : Fin 3) : Bool := decide (s.fld R.ENP_MAINS F.ENP_MAINS_VMIN ≤ (v[i]).toNat)
        let miss (i : Fin 3) : Nat :=
          if half.getLsbD i.val = true then (if seen i = true then 0 else s.enp.miss[i] + 1) else s.enp.miss[i]
        let lost := ∃ i : Fin 3, s.enp.used.getLsbD i.val = true ∧ 2 ≤ miss i
        let peak := t.fld R.ENP_MAINSST F.ENP_MAINSST_PEAK
        (∀ i : Fin 3, t.enp.miss[i] = miss i
            ∧ pres t i = (if half.getLsbD i.val = true then seen i else pres s i)
            ∧ (half.getLsbD i.val = true → (t.enp.sumsq[i]) = 0 ∧ (t.enp.count[i]) = 0
              ∧ (0 < s.enp.count[i] → s.enp.sumsq[i] / s.enp.count[i] < 2 ^ 60 →
                  (t.enp.rms[i] * t.enp.rms[i] ≤ s.enp.sumsq[i] / s.enp.count[i]
                    ∨ (t.enp.rms[i] - 1) * (t.enp.rms[i] - 1) ≤ s.enp.sumsq[i] / s.enp.count[i])
                  ∧ s.enp.sumsq[i] / s.enp.count[i] < (t.enp.rms[i] + 1) * (t.enp.rms[i] + 1))))
          ∧ t.fld R.ENP_MAINSST F.ENP_MAINSST_FREQ = freq.toNat
          ∧ peak = (if t.fld R.ENP_MAINSST F.ENP_MAINSST_PRES = 1 then (v[0]).toNat else vpp.toNat)
          ∧ (ph = .detect → t.enp.phase = first t)
          ∧ (ph = .hinge → (∃ i : Fin 3, pres t i = true ∧ pres s i = false) → t.bit R.ENP_STAT F.ENP_STAT_REPLUG = true)
          ∧ (lost → s.enp.exporting = false → ph ∈ [.precharge, .close] ∨ (ph = .mains ∧ s.enp.asked = true) →
              t.steppedBack)
          ∧ (lost → s.enp.exporting = false → ph ∈ [.run, .busHold] → t.hinged 4 .timeout .holdOff)
          ∧ (¬ lost ∨ s.enp.exporting = true → ph = .precharge → s.enp.pause = false →
              let target := peak * s.fld R.ENP_LINK F.ENP_LINK_PREK / 256
              if 98 * target * 256 ≤ 100 * s.latchedOf (s.fld R.ENP_LINK F.ENP_LINK_LCH) * s.fld R.ENP_LGAIN F.ENP_LGAIN_GAIN then
                t.enp.phase = .close ∧ t.enp.relay = true
                  ∧ (s.enp.exporting = true → (t.wfu.tb[s.enpTb false]).running = true)
              else t.enp.phase = .precharge)
          ∧ (s.enp.exporting = false → s.energyOnly t))

/-- R342, R343, R348, R349, R358, R362: the start steps of a session and their retries. -/
def Obligations.EnergyPathStartSteps : Prop :=
  ∀ s : State,
    let on := s.hasCharger = true ∧ s.up = true
    let ph := s.enp.phase
    let noRelay := s.enp.confirmed = none
    (∃ t, exec .qualifyExpiry s = .next t
      ∧ (¬ on ∨ ph ≠ .qualify → t = s)
      ∧ (on → ph = .qualify → t.enp = { s.enp with phase := .mains, s2 := decide (s.fld R.ENP_SRCST F.ENP_SRCST_PL ≠ 0) }
        ∧ s.sameBut t [] [.enp]))
    ∧ (
      let pres := s.fld R.ENP_MAINSST F.ENP_MAINSST_PRES
      let freq := s.fld R.ENP_MAINSST F.ENP_MAINSST_FREQ
      let good := pres ≠ 0 ∧ 450 ≤ freq ∧ freq ≤ 650
      ∃ t, exec .mainsQualified s = .next t
      ∧ (¬ on ∨ ph ≠ .mains ∨ s.enp.pause = true ∨ s.enp.asked = true ∨ ¬ good → t = s)
      ∧ (on → ph = .mains → s.enp.pause = false → s.enp.asked = false → good →
          let n := s.fld R.ENP_SRCST F.ENP_SRCST_PH
          let w := s.tableWord (s.fld R.ENP_SRCTAB F.ENP_SRCTAB_TBASE + 32 * n + 4 * s.fld R.ENP_SRCST F.ENP_SRCST_PX
            + s.fld R.ENP_SRCST F.ENP_SRCST_PL)
          let live := s.fld R.ENP_BMSST F.ENP_BMSST_STATE = 1 ∧ s.bit R.ENP_BMSST F.ENP_BMSST_CONT = true
          let lim (on : Bool) (k : Nat) : Nat := if on = true then k else 256
          t.enp.source = w ∧ t.enp.used = BitVec.ofNat 3 pres ∧ t.fld R.ENP_SRCST F.ENP_SRCST_TYPE = w.bits 31 24
            ∧ t.fld R.ENP_LIM1 F.ENP_LIM1_ILIM
                = min 256 (min (lim (w.bit 14) (s.fld R.ENP_LIM0 F.ENP_LIM0_PILOT))
                    (min (lim (w.bit 13) (s.fld R.ENP_LIM0 F.ENP_LIM0_CABLE))
                      (lim (w.bit 12) (s.fld R.ENP_SRCTAB F.ENP_SRCTAB_SOCK))))
            ∧ (w.bit 15 = false → t.sessionEnded 10 .outOfRange .idle)
            ∧ (w.bit 15 = true → ¬ live → s.bit R.ENP_CFG F.ENP_CFG_BHOLD = false →
                t.sessionEnded 7 .outOfRange .halted ∧ t.bit R.ENP_STAT F.ENP_STAT_NOBAT = true)
            ∧ (w.bit 15 = true → live ∨ s.bit R.ENP_CFG F.ENP_CFG_BHOLD = true →
                (t.enp.toHold = true ↔ ¬ live) ∨ t.enp.phase = .idle)
            ∧ (w.bit 15 = true → live ∨ s.bit R.ENP_CFG F.ENP_CFG_BHOLD = true → s.quiet = true →
                t.enp.asked = true ∧ t.enp.phase = .mains ∧ t.budgetWaits 6 = true)
            ∧ (w.bit 15 = true → live ∨ s.bit R.ENP_CFG F.ENP_CFG_BHOLD = true → s.quiet = false →
                s.bit R.ENP_SBCFG F.ENP_SBCFG_EN = false →
                t.enp.phase = .precharge ∧ (t.wfu.tb[s.enpTb true]).running = true)))
    ∧ (∀ level : Bool,
      let fed := s.bit R.ENP_RLY F.ENP_RLY_FBEN = true
      let closed := level != s.bit R.ENP_RLY F.ENP_RLY_FBPOL
      ∃ t, exec (.relayConfirmed level) s = .next t
      ∧ (¬ on ∨ ¬ fed ∨ s.enp.relay ≠ closed → t = s)
      ∧ (on → fed → s.enp.relay = closed → t.enp.confirmed = some closed
        ∧ (closed = true → ph = .close → s.enp.exporting = true → s.fld R.ENP_BMSST F.ENP_BMSST_STATE ≠ 3 →
            s.enp.bmsSeq = none ∨ s.bit R.ENP_BMSST F.ENP_BMSST_CONT = true →
            t.enp.phase = .expRun ∧ t.evt.pend.getLsbD 192 = true)
        ∧ (closed = true → ph = .close → s.enp.exporting = true → s.enp.removal = false →
            s.fld R.ENP_BMSST F.ENP_BMSST_STATE = 3 ∨ (s.enp.bmsSeq ≠ none ∧ s.bit R.ENP_BMSST F.ENP_BMSST_CONT = false) →
            t.bit R.ENP_STAT F.ENP_STAT_BATRM = true ∧ t.evt.pend.getLsbD 196 = true ∧ t.enp.relayFailed = false
              ∧ t.hinged (if s.fld R.ENP_BMSST F.ENP_BMSST_STATE = 3 then 9 else 7)
                  (if s.fld R.ENP_BMSST F.ENP_BMSST_STATE = 3 then .timeout else .outOfRange) .halted)
        ∧ t.enp.relayFailed = false
        ∧ (closed = true → ph = .close → s.enp.exporting = false → s.enp.toHold = true →
            t.enp.phase = .busHold ∧ t.evt.pend.getLsbD 192 = true ∧ (t.wfu.tb[s.enpTb false]).running = true)
        ∧ (closed = true → ph = .close → s.enp.exporting = false → s.enp.toHold = false →
            s.fld R.ENP_BMSST F.ENP_BMSST_STATE = 1 → s.bit R.ENP_BMSST F.ENP_BMSST_CONT = true →
            t.enp.phase = .run ∧ t.evt.pend.getLsbD 192 = true ∧ (t.wfu.tb[s.enpTb false]).running = true)
        ∧ (closed = true → ph ≠ .close → s.sameBut t [] [.enp] ∧ t.enp.phase = ph)
        ∧ (closed = false → s.enp.hinge = 5 → s.enp.ending.cause < 16 →
            t.sessionEnded s.enp.ending.cause s.enp.ending.status s.enp.ending.next ∧ s.energyOnly t)))
    ∧ (∃ t, exec .relayConfirmTimeout s = .next t
      ∧ (¬ on ∨ ¬ noRelay → t = s)
      ∧ (on → noRelay → s.bit R.ENP_RLY F.ENP_RLY_FBEN = false → t.enp.confirmed = some s.enp.relay
        ∧ t.bit R.ENP_STAT F.ENP_STAT_RETRY = s.bit R.ENP_STAT F.ENP_STAT_RETRY)
      ∧ (on → noRelay → s.bit R.ENP_RLY F.ENP_RLY_FBEN = true →
        (s.enp.relay = true → s.enp.relayFailed = true → t.hinged 13 .failedTwice .fault)
        ∧ (s.enp.relay = false → s.enp.relayFailed = true → t.sessionEnded 13 .failedTwice .fault)
        ∧ (s.enp.relayFailed = false →
            t.enp = { s.enp with relayFailed := true, relayPad := some s.enp.relay }
              ∧ t.bit R.ENP_STAT F.ENP_STAT_RETRY = true)) ∧ s.energyOnly t)
    ∧ (∃ t, exec .mainsQualifyTimeout s = .next t
      ∧ (¬ on ∨ ph ≠ .mains ∨ s.enp.asked = true ∨ s.enp.pause = true → t = s)
      ∧ (on → ph = .mains → s.enp.asked = false → s.enp.pause = false →
        if s.enp.mainsFailed = true then t.hinged 11 .failedTwice .idle
        else t.enp = { s.enp with mainsFailed := true, pause := true, s2 := false } ∧ t.bit R.ENP_STAT F.ENP_STAT_RETRY = true)
      ∧ s.energyOnly t)
    ∧ (∃ t, exec .prechargeTimeout s = .next t
      ∧ (¬ on ∨ ph ≠ .precharge ∨ s.enp.pause = true → t = s)
      ∧ (on → ph = .precharge → s.enp.pause = false →
        if s.enp.linkFailed = true then t.hinged 12 .failedTwice .idle
        else t.enp = { s.enp with linkFailed := true, pause := true } ∧ t.bit R.ENP_STAT F.ENP_STAT_RETRY = true
          ∧ ((s.wfu.tb[s.enpTb true]).running = true → (t.wfu.tb[s.enpTb true]).stopping = true))
      ∧ s.energyOnly t)
    ∧ ∃ t, exec .enpRetryDelayExpiry s = .next t
      ∧ (¬ on ∨ s.enp.pause = false → t = s)
      ∧ (on → s.enp.pause = true → t.enp.pause = false ∧ t.enp.phase = ph
        ∧ (ph = .mains → t.enp.s2 = decide (s.fld R.ENP_SRCST F.ENP_SRCST_PL ≠ 0) ∧ s.sameBut t [] [.enp])
        ∧ (ph = .precharge → (t.wfu.tb[s.enpTb true]).running = true ∧ (t.wfu.tb[s.enpTb true]).stopping = false))

/-- R345 to R347, R350 to R352, R355, R356, R359: battery messages, bus hold, and what ends a session. -/
def Obligations.EnergyPathEnds : Prop :=
  ∀ s : State,
    let on := s.hasCharger = true ∧ s.up = true
    let ph := s.enp.phase
    let b := R.ENP_BMSST
    let count (f : Fld) (c : Bool) (t : State) : Prop := t.fld b f = (if c = true then min (s.fld b f + 1) 255 else s.fld b f)
    let removed (t : State) (cause : Nat) (st : Status) : Prop :=
      t.bit R.ENP_STAT F.ENP_STAT_BATRM = true ∧ t.evt.pend.getLsbD 196 = true
        ∧ (if s.bit R.ENP_CFG F.ENP_CFG_BHOLD = true then
            t.enp.removal = true ∧ t.enp.phase = .run ∧ t.fld R.ENP_STATE F.ENP_STATE_CAUSE = cause
              ∧ t.fld R.ENP_STATE F.ENP_STATE_STATUS = st.code
           else t.hinged cause st .halted)
    (∀ (m : Master) (value : BitVec 7), ∃ u, exec (.bmsMessage m value) s = .next u
      ∧ u.lastStatus m = (if s.hasCharger = true then .ok else .notPresent)
      ∧ (¬ on → s.sameBut u [] [.bus])
      ∧ (on →
        let t : State := { u with bus := s.bus }
        let seq := value.toNat % 16
        let cont := value.getLsbD 4
        let dup := s.enp.bmsSeq = some seq
        let oos : Bool := match s.enp.bmsSeq with | none => false | some l => decide (seq ≠ l ∧ seq ≠ (l + 1) % 16)
        (dup → t.enp = s.enp ∧ count F.ENP_BMSST_DUPCNT true t ∧ s.sameBut t [b] [])
          ∧ (¬ dup → t.enp.bmsSeq = some seq ∧ t.enp.bmsLim = s.fld R.ENP_BMSLIM F.ENP_BMSLIM_ICHG
            ∧ t.bit b F.ENP_BMSST_CONT = cont ∧ t.bit b F.ENP_BMSST_FULL = value.getLsbD 6
            ∧ t.bit b F.ENP_BMSST_FAULT = value.getLsbD 5 ∧ (t.enp.bmsOos = true ↔ oos = true ∨ (s.enp.bmsSeq = none ∧ s.enp.bmsOos = true))
            ∧ t.fld b F.ENP_BMSST_OOSCNT = min (s.fld b F.ENP_BMSST_OOSCNT + (if oos = true then 1 else 0)) 255
            ∧ t.fld b F.ENP_BMSST_STATE
                = (if s.fld b F.ENP_BMSST_STATE = 3 ∨ (oos = true ∧ s.enp.bmsOos = true) then 3 else 1)
            ∧ (s.fld b F.ENP_BMSST_STATE ≠ t.fld b F.ENP_BMSST_STATE → t.evt.pend.getLsbD 197 = true)
            ∧ (ph = .run → s.enp.removal = false → cont = false → s.fld b F.ENP_BMSST_STATE ≠ 3 → oos = false →
                removed t 7 .outOfRange)
            ∧ (ph = .hinge → cont = false → s.fld b F.ENP_BMSST_STATE ≠ 3 → oos = false →
                t.bit R.ENP_STAT F.ENP_STAT_BATRM = true ∧ t.enp.phase = .hinge
                  ∧ (s.enp.removal = false → s.enp.ending.cause < 7 ∨ 9 < s.enp.ending.cause → t.evt.pend.getLsbD 196 = true))
            ∧ (ph = .run → cont = true → s.fld b F.ENP_BMSST_STATE ≠ 3 → oos = false → t.enp.phase = .run)
            ∧ (ph = .busHold → t.enp.phase = .busHold)
            ∧ s.energyOnly t)))
    ∧ (∃ t, exec .bmsFreshnessTimeout s = .next t
      ∧ (¬ on ∨ s.fld b F.ENP_BMSST_STATE = 0 ∨ s.fld b F.ENP_BMSST_STATE = 3 → t = s)
      ∧ (on → s.fld b F.ENP_BMSST_STATE = 1 → t.fld b F.ENP_BMSST_STATE = 2 ∧ s.fires t [197]
        ∧ s.sameBut t [b] [.latches, .pending])
      ∧ (on → s.fld b F.ENP_BMSST_STATE = 2 → t.fld b F.ENP_BMSST_STATE = 3 ∧ t.evt.pend.getLsbD 197 = true
        ∧ (ph = .run → s.enp.removal = false → removed t 9 .timeout))
      ∧ s.energyOnly t)
    ∧ (∃ t, exec .busHoldRestart s = .next t
      ∧ (¬ on ∨ s.enp.removal = false ∨ ph ≠ .run → t = s)
      ∧ (on → s.enp.removal = true → ph = .run → t.enp = { s.enp with removal := false, phase := .busHold }
        ∧ (t.wfu.tb[s.enpTb true]).running = true ∧ (t.wfu.tb[s.enpTb false]).running = true ∧ t.evt.pend.getLsbD 192 = true))
    ∧ (∃ t, exec .holdoffEnd s = .next t
      ∧ (¬ on ∨ ph ≠ .holdOff → t = s)
      ∧ (on → ph = .holdOff → t.fld R.ENP_STATE F.ENP_STATE_SESS = (s.fld R.ENP_STATE F.ENP_STATE_SESS + 1) % 256
        ∧ t.enp.bmsSeq = none
        ∧ (s.enp.exporting = false →
            t.enp.phase = (if s.enpConn = true ∧ s.fld R.ENP_SRCST F.ENP_SRCST_PL ≠ 3 then .qualify else .detect))
        ∧ (s.enp.exporting = true → s.bit R.ENP_CFG F.ENP_CFG_EXTOOL = false → t.enp.phase = .expWait
          ∧ t.enp.pilot = (if s.fld R.ENP_SRCST F.ENP_SRCST_PSTATE = 1 then 2 else 1))
        ∧ (s.enp.exporting = true → s.bit R.ENP_CFG F.ENP_CFG_EXTOOL = true → s.enp.asked = false → s.quiet = false →
            s.bit R.ENP_SBCFG F.ENP_SBCFG_EN = false → t.enp.phase = .precharge))
      ∧ s.energyOnly t)
    ∧ (∃ t, exec .pilotZeroTimeout s = .next t
      ∧ (if on ∧ ph ∈ [.run, .busHold] ∧ s.fld R.ENP_LIM0 F.ENP_LIM0_PILOT = 0 then t.hinged 6 .ok .holdOff ∧ s.energyOnly t else t = s))
    ∧ (∃ t, exec .inputCurrentCollapse s = .next t
      ∧ (if on ∧ ph ∈ [.run, .busHold] ∧ 32 ≤ s.fld R.ENP_LIM1 F.ENP_LIM1_IREF
            ∧ (∀ i : Fin 3, s.enp.used.getLsbD i.val = true → s.enp.rms[i] < s.fld R.ENP_MAINS F.ENP_MAINS_ICOL) then
          t.hinged 5 .timeout .holdOff ∧ s.energyOnly t else t = s))
    ∧ (∃ t, exec .stopCurrentFall s = .next t
      ∧ (if on ∧ s.enp.stopping = true then t.hinged 1 .ok .idle ∧ s.energyOnly t else t = s))
    ∧ ∃ t, exec .exportOvercurrent s = .next t
      ∧ (if on ∧ ph = .expRun ∧ 11 * s.enp.adv < 10 * s.fld R.ENP_EXPST F.ENP_EXPST_IOUT then t.hinged 15 .outOfRange .halted ∧ s.energyOnly t else t = s)

/-! ### The start budget, the auxiliary converter, the thermal model -/

/-- R360 to R363, R488: requests of the start budget, their grants, withdrawals and timeouts. -/
def Obligations.StartBudgetGrants : Prop :=
  ∀ s : State,
    let en := s.bit R.ENP_SBCFG F.ENP_SBCFG_EN
    let cap := s.fld R.ENP_SBCFG F.ENP_SBCFG_CAP
    let full := if en = true then min (256000 * cap) (s.budget.tokens + (s.reg R.ENP_SBRATE).bits 15 0) else s.budget.tokens
    let due (q : BudgetReq) : Nat := if en = true then 256000 * q.cost else 0
    let cost (cls : BitVec 4) : Nat := (s.costWord cls.toNat).bits 15 0
    let queued (t : State) (r : BudgetReq) : Prop := t.budget =
      { s.budget with
        queue := s.budget.queue.takeWhile (fun q => decide (q.prio ≤ r.prio)) ++ r
          :: s.budget.queue.dropWhile (fun q => decide (q.prio ≤ r.prio)) }
    let result (t : State) (f : Fin 4) (cls : Nat) (st : Status) : Prop :=
      t.budget.res[f] = some (Word.field 31 31 1 ||| Word.field 11 8 cls ||| Word.field 7 0 st.code)
        ∧ (∀ g, g ≠ f → t.budget.res[g] = s.budget.res[g]) ∧ t.evt.pend.getLsbD 199 = true
    let got (t : State) (q : BudgetReq) : Prop :=
      (∀ d : Fin 5, q.port = d.val → s.actState d = 1 →
          t.actState d = (if s.fld (R.ACT_D_CFG d.val) F.ACT_D_CFG_ANG = 0 then 2 else 3))
        ∧ (q.port = 5 → s.aux.run = .wait → t.aux.run = .ramp)
        ∧ (q.port = 6 ∨ q.port = 7 → s.enp.asked = true → t.enp.phase = .precharge ∧ t.enp.asked = false)
        ∧ (∀ f : Fin 4, q.port = 8 + f.val → result t f q.cls .ok)
    (s.up = false → (exec .budgetTick s = .next s)
      ∧ (∀ port : Fin 12, exec (.budgetTimeout port) s = .next s) ∧ (∀ f : Fin 4, exec (.budgetFirmwareWithdraw f) s = .next s)
      ∧ ∀ (port : Fin 12) (cls : BitVec 4) (o : Option (BitVec 8)), exec (.budgetFrame port cls o) s = .next s)
    ∧ (s.up = true → ∃ t, exec .budgetTick s = .next t
      ∧ (s.budget.queue = [] → t.budget = { s.budget with tokens := full } ∧ s.sameBut t [] [.budget])
      ∧ (match s.budget.queue with
        | [] => True
        | q :: rest =>
          if full < due q then t.budget = { s.budget with tokens := full } ∧ s.sameBut t [] [.budget]
          else if (∃ r ∈ rest.head?.toList, due r ≤ full - due q) then True
          else (q.partner = true → t.budget = { s.budget with tokens := full - due q, queue := rest } ∧ s.sameBut t [] [.budget])
            ∧ (q.partner = false → t.budget.tokens = full - due q ∧ got t q)
            ∧ (q.partner = false → 8 ≤ q.port → t.budget.queue = rest)))
    ∧ (∀ port : Fin 12, s.up = true → ∃ t, exec (.budgetTimeout port) s = .next t
      ∧ (match s.budget.queue.find? fun q => q.port == port.val && q.wait != 0 with
        | none => t = s
        | some q =>
          (∀ p ∈ t.budget.queue, p ≠ q)
            ∧ (∀ p ∈ s.budget.queue, p.port ≠ port.val → p.port ≠ 6 → p.port ≠ 7 → p ∈ t.budget.queue)
            ∧ t.bit R.ENP_SBST F.ENP_SBST_TO = true
            ∧ t.fld R.ENP_SBST F.ENP_SBST_TOCNT = min (s.fld R.ENP_SBST F.ENP_SBST_TOCNT + 1) 255
            ∧ t.evt.pend.getLsbD 199 = true
            ∧ (q.partner = false →
              (∀ d : Fin 5, port.val = d.val → s.actState d = 1 → t.actState d = 0
                ∧ t.fld (R.ACT_D_ST d.val) F.ACT_D_ST_STATUS = Status.timeout.code)
              ∧ (port = 5 → s.aux.run = .wait → t.aux.run = .stopped ∧ t.aux.status = .timeout)
              ∧ (port = 6 ∨ port = 7 → s.enp.asked = true → t.sessionEnded 14 .timeout .idle)
              ∧ (∀ f : Fin 4, port.val = 8 + f.val → result t f q.cls .timeout)))
      ∧ s.leaves t State.powerReg State.powerParts (fun _ => False))
    ∧ (∀ (f : Fin 4) (cls : BitVec 4), s.up = true → ∃ t, exec (.budgetFirmwareRequest f cls) s = .next t
      ∧ (if s.budgetWaits (8 + f.val) = true then result t f cls.toNat .busy
         else if s.quiet = true then t.budget = { s.budget with sent := s.budget.sent ++ [(8 + f.val, cls.toNat)] }
         else if en = false ∨ cost cls = 0 then result t f cls.toNat .ok
         else if cap < cost cls then result t f cls.toNat .outOfRange ∧ t.bit R.ENP_SBST F.ENP_SBST_OOR = true
         else queued t ⟨8 + f.val, cls.toNat, cost cls, (s.costWord cls.toNat).bits 19 16,
            (s.costWord cls.toNat).bits 31 20, false⟩)
      ∧ s.sameBut t [R.ENP_SBST] [.budget, .latches, .pending])
    ∧ (∀ f : Fin 4, s.up = true → ∃ t, exec (.budgetFirmwareWithdraw f) s = .next t ∧ t.budgetWaits (8 + f.val) = false ∧ t.budget.res = s.budget.res
      ∧ (∀ p ∈ s.budget.queue, p.port ≠ 8 + f.val ∨ p.partner = true → p ∈ t.budget.queue)
      ∧ (∀ p ∈ t.budget.queue, p ∈ s.budget.queue) ∧ s.sameBut t [] [.budget])
    ∧ ∀ (port : Fin 12) (cls : BitVec 4), s.up = true →
      (∃ t, exec (.budgetFrame port cls none) s = .next t
        ∧ (if s.bit R.TWN_ST F.TWN_ST_ACTLEAD = false ∨ en = false ∨ cost cls = 0 then t = s
           else if cap < cost cls then t.bit R.ENP_SBST F.ENP_SBST_OOR = true ∧ s.sameBut t [R.ENP_SBST] []
           else queued t ⟨port.val, cls.toNat, cost cls, (s.costWord cls.toNat).bits 19 16,
             (s.costWord cls.toNat).bits 31 20, true⟩ ∧ s.sameBut t [] [.budget]))
      ∧ ∀ st : BitVec 8, ∃ t, exec (.budgetFrame port cls (some st)) s = .next t
        ∧ ((port.val, cls.toNat) ∉ s.budget.sent → t = s)
        ∧ ((port.val, cls.toNat) ∈ s.budget.sent →
          (st = 0 → got t ⟨port.val, cls.toNat, 0, 0, 0, false⟩)
          ∧ (st = 5 → t.bit R.ENP_SBST F.ENP_SBST_TO = true
            ∧ (port = 6 ∨ port = 7 → s.enp.asked = true → t.sessionEnded 14 .timeout .idle))
          ∧ (∀ f : Fin 4, port.val = 8 + f.val →
              result t f cls.toNat (if st = 0 then .ok else if st = 5 then .timeout else .outOfRange)))

/-- R370, R373, R377, R378: the commands of the auxiliary converter, and its hold-off. -/
def Obligations.AuxiliaryConverterCommands : Prop :=
  ∀ s : State,
    (∀ m : Master,
      let judge (f : State → Prop) (o : Host.Outcome State Fault Refusal) : Prop :=
        ∃ t, o = .next t
          ∧ (if s.mod.lock = .inForce then t.lastStatus m = .locked ∧ s.sameBut t [] [.bus]
             else if s.modePermits .aux = false ∨ s.mode = .service then s.refusedFor t m R.AUX_CTL
             else t.lastStatus m = .ok ∧ f t)
          ∧ s.leaves t (fun r => State.powerReg r ∨ r / 65536 = 3 ∨ r = (State.refusalOf m).1 ∨ r = (State.refusalOf m).2.1)
              (.bus :: State.powerParts) (fun _ => False)
      let off (t : State) : Prop := ∀ j, j < 8 → (t.leg (12 + j)).forced = some (false, false)
      judge (fun t =>
          if s.aux.run ≠ .stopped then t.aux = { s.aux with status := .busy } ∧ s.sameBut t [] [.aux, .bus]
          else (s.gdp.en.getLsbD 2 = false → t.aux.run ≠ .stopped → t.aux.pause = true ∧ t.budgetWaits 5 = false ∧ off t)
            ∧ (s.quiet = true → s.gdp.en.getLsbD 2 = true →
              t.aux.run = .wait ∧ t.aux.status = .busy ∧ t.budgetWaits 5 = true ∧ off t)
            ∧ (s.quiet = false → s.bit R.ENP_SBCFG F.ENP_SBCFG_EN = false → s.gdp.en.getLsbD 2 = true →
              t.aux.run = .ramp ∧ t.aux.status = .busy ∧ t.aux.vref = s.auxVolts * 10000
                ∧ (∀ j, j < 8 → t.phaseOn j = true → s.phaseAvail j = true)
                ∧ t.phasesOn.length ≤ s.fld R.AUX_PHC F.AUX_PHC_NMIN))
        (exec (.auxStart m) s)
      ∧ judge (fun t => t.aux.run = .stopped ∧ t.aux.status = .ok ∧ t.aux.vref = 0 ∧ t.aux.pause = false ∧ t.phasesOn = []
          ∧ t.budgetWaits 5 = false ∧ off t)
        (exec (.auxStop m) s))
    ∧ (s.up = false → exec .auxHoldoffExpiry s = .next s)
    ∧ (s.up = true → ∃ t, exec .auxHoldoffExpiry s = .next t ∧ t.aux = { s.aux with holdoff := false } ∧ s.sameBut t [] [.aux])

/-- R385 to R390: one update of the thermal model. -/
def Obligations.ThermalUpdateMoves : Prop :=
  ∀ (s : State) (pmod substrate : BitVec 16), ∃ t, exec (.thermalUpdate pmod substrate) s = .next t
    ∧ (s.mode = .off ∨ s.thOn = false → t = s)
    ∧ (s.mode ≠ .off → s.thOn = true → t.evt.pend.getLsbD 14 = true ∧ t.th.on = true
      ∧ (∀ q, q < 45 → s.nodePresent q = true →
        let p := if q = 44 then pmod.toNat else min 0xFFFF ((s.node q).energy / 409600000000000).toNat
        let stage (rho : Int) (r a : Nat) : Int :=
          if s.th.on = true then sat32 (rho + sat32 ((sat32 (sat32 (p * r / 4096) - rho) * a) / 65536)) else 0
        t.fld (R.SYS_THN q) F.SYS_THN_P = p ∧ (t.node q).energy = 0
          ∧ (t.node q).r1 = stage (s.node q).r1 ((s.thWord q 3).bits 31 16) ((s.thWord q 4).bits 15 0)
          ∧ (t.node q).r2 = stage (s.node q).r2 ((s.thWord q 3).bits 15 0) ((s.thWord q 5).bits 31 16)
          ∧ (t.node q).r3 = stage (s.node q).r3 ((s.thWord q 4).bits 31 16) ((s.thWord q 5).bits 15 0)
          ∧ ((s.thWord q 0).bits 5 0 = 63 →
            t.thTemp q = sat16 (substrate.toInt + (t.node q).r1 + (t.node q).r2 + (t.node q).r3)))
      ∧ (∀ q, q < 45 → s.nodePresent q = false → t.node q = s.node q ∧ t.reg (R.SYS_THN q) = s.reg (R.SYS_THN q))
      ∧ (∀ q, q < 6 → s.legPresent q = true → s.thWarn q < s.thTrip q → s.thTrip q ≤ t.thTemp q →
          t.fld R.SYS_THDER0 F.SYS_THDER0_FA = 0)
      ∧ ((∀ q, q < 6 → s.thWarn q < s.thTrip q ∧ t.thTemp q < s.thWarn q) →
          (s.thWarn 42 < s.thTrip 42 ∧ t.thTemp 42 < s.thWarn 42) → t.fld R.SYS_THDER0 F.SYS_THDER0_FA = 0xFFFF)
      ∧ ((∀ q ∈ [0, 1, 2, 3, 4, 5, 42], s.thWarn q < s.thTrip q) →
          let factor (q : Nat) : Nat := min 0xFFFF (65536 * (s.thTrip q - t.thTemp q) / (s.thTrip q - s.thWarn q)).toNat
          t.fld R.SYS_THDER0 F.SYS_THDER0_FA = ([0, 1, 2, 3, 4, 5, 42].map factor).foldl min 0xFFFF)
      ∧ (s.thTrip 44 ≤ t.thTemp 44 → t.fld R.SYS_THTHR F.SYS_THTHR_LEVEL = 2)
      ∧ (t.fld R.SYS_THTHR F.SYS_THTHR_LEVEL ≠ s.fld R.SYS_THTHR F.SYS_THTHR_LEVEL → t.evt.pend.getLsbD 13 = true)
      ∧ s.leaves t (fun r => r ∈ [R.SYS_THSTAT, R.SYS_THDER0, R.SYS_THDER1, R.SYS_THDER2, R.SYS_THTHR, R.SYS_THHOT]
            ∨ ∃ q, q < 45 ∧ r = R.SYS_THN q) [.th, .latches, .pending] (fun _ => False))

/-! ### The pairs link -/

/-- R476, R477, R480, R481, R488, R495: lanes train and fail, an identification forms a pair or refuses it, and a timing symbol
aligns the clocks. -/
def Obligations.PairFormsOnItsLanes : Prop :=
  ∀ s : State,
    let on := s.twnOn = true
    let lane (t : State) (f : Fld) (k : Nat) : Bool := (t.fld R.TWN_LANE f).testBit k
    let far := s.twn.heard.any fun h => h.acting
    let surv := match s.twn.heard with
      | some h => if h.acting = true ∧ s.twnPhase ≠ 5 then h.mode.toNat else s.mode.code
      | none => s.mode.code
    let lead (role : BitVec 2) : Bool := if s.twnPhase = 5 then !far || decide (role = 2) else !far && decide (role = 2)
    (∀ k : Fin 4,
      (∃ t, exec (.laneTrained k) s = .next t
        ∧ (if on ∧ (s.fld R.TWN_CFG F.TWN_CFG_LANES).testBit k.val = true ∧ lane s F.TWN_LANE_DOWN k.val = false then
            (∀ j, j < 4 → lane t F.TWN_LANE_UP j = (lane s F.TWN_LANE_UP j || decide (j = k.val)))
              ∧ t.fld R.TWN_LANE F.TWN_LANE_DOWN = s.fld R.TWN_LANE F.TWN_LANE_DOWN
              ∧ s.fires t [243] ∧ s.sameBut t [R.TWN_LANE] [.latches, .pending]
           else t = s))
      ∧ ∃ t, exec (.laneFailure k) s = .next t
        ∧ (¬ on ∨ lane s F.TWN_LANE_DOWN k.val = true → t = s)
        ∧ (on → lane s F.TWN_LANE_DOWN k.val = false →
          (∀ j, j < 4 → lane t F.TWN_LANE_UP j = (lane s F.TWN_LANE_UP j && decide (j ≠ k.val)))
            ∧ (match s.twn.failed[k] with
              | some t0 =>
                if (s.reg R.NET_TIME - t0).toNat ≤ 1000000 then
                  (∀ j, j < 4 → lane t F.TWN_LANE_DOWN j = (lane s F.TWN_LANE_DOWN j || decide (j = k.val)))
                    ∧ t.bit R.TWN_STAT F.TWN_STAT_LANEFAIL = true ∧ s.fires t [242] ∧ t.twn = s.twn
                else t.twn.failed[k] = some (s.reg R.NET_TIME) ∧ s.fires t []
                  ∧ t.fld R.TWN_LANE F.TWN_LANE_TRANS = min (s.fld R.TWN_LANE F.TWN_LANE_TRANS + 1) 255
              | none => t.twn.failed[k] = some (s.reg R.NET_TIME) ∧ s.fires t []
                  ∧ t.fld R.TWN_LANE F.TWN_LANE_TRANS = min (s.fld R.TWN_LANE F.TWN_LANE_TRANS + 1) 255)
            ∧ s.sameBut t [R.TWN_LANE, R.TWN_STAT] [.twn, .latches, .pending]))
    ∧ (∀ (m : Master) (mask : BitVec 4), s.hasPairs = false → ∃ t, exec (.laneClear m mask) s = .next t
      ∧ t.lastStatus m = .notPresent ∧ s.sameBut t [] [.bus])
    ∧ (∀ (m : Master) (mask : BitVec 4), s.hasPairs = true → s.up = true → ∃ t, exec (.laneClear m mask) s = .next t
      ∧ t.lastStatus m = .ok ∧ (∀ k : Fin 4, lane t F.TWN_LANE_DOWN k.val = (lane s F.TWN_LANE_DOWN k.val && !mask.getLsbD k.val)
        ∧ t.twn.failed[k]
          = (if mask.getLsbD k.val = true ∧ lane s F.TWN_LANE_DOWN k.val = true then none else s.twn.failed[k]))
      ∧ t.fld R.TWN_LANE F.TWN_LANE_UP = s.fld R.TWN_LANE F.TWN_LANE_UP ∧ s.sameBut t [R.TWN_LANE] [.twn, .bus])
    ∧ (∀ (u0 u1 : Word) (role : BitVec 2) (accepts : Bool), ∃ t, exec (.ident u0 u1 role accepts) s = .next t
      ∧ (¬ on ∨ (s.twnPhase ≠ 1 ∧ s.twnPhase ≠ 5) ∨ s.fld R.TWN_LANE F.TWN_LANE_UP = 0 → t = s)
      ∧ (on → s.twnPhase = 1 ∨ s.twnPhase = 5 → s.fld R.TWN_LANE F.TWN_LANE_UP ≠ 0 →
        t.reg (R.TWN_PUID 0) = u0 ∧ t.reg (R.TWN_PUID 1) = u1
          ∧ (if accepts = true ∧ u0 = s.saf.puid0 ∧ u1 = s.saf.puid1
                ∧ ((s.saf.role = 1 ∧ role = 2) ∨ (s.saf.role = 2 ∧ role = 1)) then
              if surv = 3 ∨ surv = 11 then t.twnPhase = s.twnPhase ∧ t.actLead = s.actLead ∧ s.fires t []
              else t.twnPhase = 2 ∧ t.actLead = lead role ∧ t.fld R.TWN_ST F.TWN_ST_WARMCNT = 0
                ∧ t.fld R.TWN_ST F.TWN_ST_SHARE = 0 ∧ s.fires t [248]
                ∧ t.bit R.CNV_CFG F.CNV_CFG_QUIET = (s.bit R.CNV_CFG F.CNV_CFG_QUIET || !t.actLead)
                ∧ (lead role = true → s.sameBut t [R.TWN_PUID 0, R.TWN_PUID 1, R.TWN_ST] [.twn, .latches, .pending])
                ∧ (lead role = false → t.budget.queue = []
                  ∧ t.budget.sent = s.budget.sent ++ s.budget.queue.map (fun q => (q.port, q.cls))
                  ∧ (∀ (c : Fin 8) (y : TxBuf), (t.chan c).buf[1] = some y → State.txTransport y = true → y.active = true)
                  ∧ (∀ c : Fin 8, (t.chan c).buf[0] = (s.chan c).buf[0] ∧ (t.chan c).buf[2] = (s.chan c).buf[2])
                  ∧ (far = true → surv ≠ s.mode.code → s.locking = false → t.twn.announced = Mode.ofCode surv))
             else t.twnPhase = 6 ∧ t.bit R.TWN_STAT F.TWN_STAT_FOREIGN = true ∧ s.fires t []
              ∧ s.sameBut t [R.TWN_PUID 0, R.TWN_PUID 1, R.TWN_ST, R.TWN_STAT] []))
      ∧ s.sameBut t [R.TWN_PUID 0, R.TWN_PUID 1, R.TWN_ST, R.TWN_STAT, R.CNV_CFG] [.twn, .budget, .net, .cnv, .latches, .pending])
    ∧ ∀ (err : BitVec 16) (lead : Word) (sub : Fin 250), ∃ t, exec (.timingSymbol err lead sub) s = .next t
      ∧ (¬ on ∨ s.quiet = false → t = s)
      ∧ (on → s.quiet = true → t.fld R.TWN_ALIGN F.TWN_ALIGN_ERR = err.toNat
        ∧ t.fld R.TWN_ALIGN F.TWN_ALIGN_MAX = max (s.fld R.TWN_ALIGN F.TWN_ALIGN_MAX) err.toInt.natAbs
        ∧ (s.twnPhase = 2 → s.twn.stepped = false → t.reg R.NET_TIME = lead ∧ t.clk = { s.clk with coreSub := sub.val }
          ∧ t.twn = { s.twn with stepped := true } ∧ t.wfu.tb[0] = { s.wfu.tb[0] with down := false }
          ∧ (∀ b : Fin 10, b ≠ 0 → t.wfu.tb[b] = s.wfu.tb[b]) ∧ t.wfu.leg = s.wfu.leg)
        ∧ (s.twnPhase ≠ 2 ∨ s.twn.stepped = true →
          let d := modDiff (s.reg R.NET_TIME) lead * 250 + s.clk.coreSub - sub.val
          s.sameBut t [R.TWN_ALIGN] [.clk]
            ∧ t.clk = { s.clk with
                coreSub := if 0 < d then s.clk.coreSub - 1 else if d < 0 then s.clk.coreSub + 1 else s.clk.coreSub }))
      ∧ s.sameBut t [R.TWN_ALIGN, R.NET_TIME] [.twn, .clk, .wfu]

/-- R276, R484 to R486, R491 to R494: heartbeats and their loss, agreed inputs, the partner's currents, signatures. -/
def Obligations.PairExchangesEachSample : Prop :=
  ∀ s : State,
    let on := s.twnOn = true
    let judged (t : State) : Prop := s.twn.sigWait = true → t.twn.sigWait = false
      ∧ (s.twn.sigAgain = false →
        t.twn.sigAgain = true ∧ t.bit R.TWN_STAT F.TWN_STAT_SIGMIS = true ∧ t.evt.pend.getLsbD 244 = true)
      ∧ (s.twn.sigAgain = true → t.twn.sigAgain = false ∧ t.twn.sigBad = s.twn.sigBad + 1
        ∧ t.fld R.TWN_SIGST F.TWN_SIGST_STATUS = Status.failedTwice.code
        ∧ (1 ≤ s.twn.sigBad → t.evt.pend.getLsbD 245 = true ∧ s.lockedOut t 8 0))
    let missed (t : State) (alive : Bool) : Prop :=
      t.bit R.TWN_ST F.TWN_ST_ALIVE = alive ∧ judged t
        ∧ (s.paired = false → s.twn.sigWait = false → s.sameBut t [R.TWN_ST] [])
        ∧ (s.paired = true → t.fld R.TWN_CNT F.TWN_CNT_HBMISS = min (s.fld R.TWN_CNT F.TWN_CNT_HBMISS + 1) 255
          ∧ t.twn.missed = s.twn.missed + 1
          ∧ (s.twn.missed < 2 → t.twnPhase = s.twnPhase
            ∧ (s.twn.sigWait = false → s.sameBut t [R.TWN_ST, R.TWN_CNT] [.twn]))
          ∧ (2 ≤ s.twn.missed → t.bit R.TWN_STAT F.TWN_STAT_LOST = true ∧ t.evt.pend.getLsbD 246 = true
            ∧ (s.fld R.NET_TM F.NET_TM_ROLE = 2 → t.timeMaster = true)
            ∧ (if s.saf.role = 2 ∧ alive = true then t.twnPhase = 1 ∧ t.mod.lock ≠ .none
                ∧ (s.twn.sigWait = false → s.lockedOut t 8 1)
               else t.twnPhase = 5 ∧ t.actLead = true ∧ t.twn.takeover = true ∧ t.twn.hold = true
                ∧ t.bit R.MOD_DEG F.MOD_DEG_PARTNER = true)))
    let yields (h : HeartbeatIn) : Prop :=
      s.twnPhase = 2 ∧ s.actLead = true ∧ h.acting = true ∧ s.bit R.MOD_DEG F.MOD_DEG_PARTNER = false
    let formed (t : State) : Prop :=
      (s.twn.owed = true → t.twn.owed = false ∧ (s.twn.sigWait = false → ∀ d : Fin 5,
        let ch := s.fld (R.ACT_D_ICH d.val) F.ACT_D_ICH_PCH
        ch < 48 → ((t.reg (R.ACT_D_POS d.val)).bits 11 0 = (t.latchedOf ch) % 4096
          ∧ (t.reg (R.ACT_D_POS d.val)).bit 31 = !s.chanInvalid ch)))
    (∀ h : HeartbeatIn, ∃ t, exec (.heartbeat h) s = .next t
      ∧ (¬ on → t = s)
      ∧ (on → h.aliveHigh = false → missed t false)
      ∧ (on → h.aliveHigh = true → t.bit R.TWN_ST F.TWN_ST_ALIVE = true ∧ t.twn.missed = 0 ∧ t.twn.heard = some h
        ∧ t.twn.ofs = h.smpl - s.reg R.SYS_SMPLCNT
        ∧ (yields h → t.actLead = false ∧ t.quiet = true ∧ t.bit R.CNV_CFG F.CNV_CFG_QUIET = true ∧ t.budget.queue = [])
        ∧ (¬ yields h → t.actLead = s.actLead)
        ∧ (s.paired = false → s.sameBut t [R.TWN_ST] [.twn])
        ∧ (s.quiet = true → (∀ m, h.announced = some m → t.twn.announced = Mode.ofCode m.toNat)
          ∧ (∀ st, h.status = some st → ∀ f, s.twn.forwarded = some f → t.twn.forwarded = none
            ∧ t.requestRecorded true f.1 f.2.1.toNat 0 (Status.ofCode st.toNat)))
        ∧ (s.paired = true → s.quiet = false → ¬ yields h →
          t.twn.warmed = (s.twn.warmed || (decide (s.twnPhase = 2) && (h.warmDone || decide (h.linkState = 3))))
          ∧ (h.request = none → s.sameBut t [R.TWN_ST] [.twn])
          ∧ (∀ code, h.request = some code → code ≠ 11 →
            (match s.judged code.toNat with
            | some st => t.twn.reply = some st
            | none => t.mod.trans.isSome = true)))))
    ∧ (∀ alive : Bool, ∃ t, exec (.heartbeatMiss alive) s = .next t ∧ (¬ on → t = s) ∧ (on → missed t alive))
    ∧ (∀ items : List AgreeItem, ∃ t, exec (.agree items) s = .next t
      ∧ (¬ on ∨ s.paired = false → t = s)
      ∧ (on → s.paired = true →
        let used := items.filter fun i => s.agreePolicy i.input.val != 0
        t.twn.agreed.map (·.input) = used.map (·.input)
          ∧ (∀ p ∈ t.twn.agreed.zip used,
            let own := s.agreeOwn p.2.input
            let d := (p.2.value - own.value).toInt
            if own.flagged = true ∧ p.2.flagged = true then p.1 = (if s.actLead = true then own else p.2)
            else if own.flagged = true then p.1 = p.2
            else if p.2.flagged = true then p.1 = own
            else
              (s.agreePolicy p.2.input.val = 1 → p.1.value = own.value + BitVec.ofInt 32 (d / 2))
              ∧ (s.agreePolicy p.2.input.val = 2 → p.1 = (if d < 0 then p.2 else own))
              ∧ (s.agreePolicy p.2.input.val = 3 → p.1 = (if d < 0 then own else p.2))
              ∧ (s.agreePolicy p.2.input.val = 4 → p.1 = (if s.actLead = true then own else p.2)))
          ∧ judged t ∧ formed t
          ∧ (s.twn.sigWait = false → s.twn.owed = false → s.sameBut t [] [.twn])))
    ∧ (∃ t, exec .agreeMiss s = .next t
      ∧ (if on ∧ s.paired = true then t.twn.agreed = []
          ∧ t.fld R.TWN_CNT F.TWN_CNT_AGMISS = min (s.fld R.TWN_CNT F.TWN_CNT_AGMISS + 1) 255 ∧ judged t ∧ formed t
          ∧ (s.twn.sigWait = false → s.twn.owed = false →
            t.twn = { s.twn with agreed := [] } ∧ s.sameBut t [R.TWN_CNT] [.twn])
         else t = s))
    ∧ (∀ (x : Fin 2) (d : DecIn), ∃ t, exec (.dec x d) s = .next t
      ∧ (if on ∧ s.paired = true ∧ (x = 0 ∨ s.hasB = true) then
          t.tdu[x] = { s.tdu[x] with frame := some d } ∧ (∀ y, y ≠ x → t.tdu[y] = s.tdu[y]) ∧ s.sameBut t [] [.tdu]
         else t = s))
    ∧ ∀ (win : BitVec 16) (sig : Word), ∃ t, exec (.sigFrame win sig) s = .next t
      ∧ (¬ on ∨ s.paired = false ∨ s.twn.sigWait = false ∨ win.toNat ≠ s.fld R.TWN_SIGST F.TWN_SIGST_WIN → t = s)
      ∧ (on → s.paired = true → s.twn.sigWait = true → win.toNat = s.fld R.TWN_SIGST F.TWN_SIGST_WIN →
        let a := 0x24010000 + 16 * (s.twn.hist % 4096)
        let closed (st : Status) : Prop := t.fld R.TWN_SIGST F.TWN_SIGST_STATUS = st.code ∧ t.word a = win.setWidth 32
          ∧ t.word (a + 4) = s.reg R.TWN_SIG ∧ t.word (a + 8) = sig ∧ (t.word (a + 12)).toNat = st.code
          ∧ t.twn.sigWait = false ∧ t.twn.sigAgain = false ∧ t.twn.hist = (s.twn.hist + 1) % 4096
        t.reg R.TWN_PSIG = sig
          ∧ (∀ b, b < a ∨ a + 16 ≤ b → t.byte b = s.byte b)
          ∧ (sig = s.reg R.TWN_SIG → closed (if s.twn.sigAgain = true then .retriedOk else .ok) ∧ t.twn.sigBad = 0
            ∧ t.fld R.TWN_SIGST F.TWN_SIGST_TRANS
                = (if s.twn.sigAgain = true then min (s.fld R.TWN_SIGST F.TWN_SIGST_TRANS + 1) 255
                   else s.fld R.TWN_SIGST F.TWN_SIGST_TRANS))
          ∧ (sig ≠ s.reg R.TWN_SIG → s.twn.sigAgain = false → t.twn = { s.twn with sigWait := false, sigAgain := true }
            ∧ t.bit R.TWN_STAT F.TWN_STAT_SIGMIS = true ∧ s.fires t [244]
            ∧ s.sameBut t [R.TWN_PSIG, R.TWN_STAT] [.twn, .latches, .pending])
          ∧ (sig ≠ s.reg R.TWN_SIG → s.twn.sigAgain = true → closed .failedTwice ∧ t.twn.sigBad = s.twn.sigBad + 1
            ∧ (1 ≤ s.twn.sigBad → t.evt.pend.getLsbD 245 = true ∧ s.lockedOut t 8 0)))

/-- R482, R489 to R491: snapshots are captured, sent in segments and closed. The places of their fields are the model's (log entry
70). -/
def Obligations.SnapshotsMirrorTheLead : Prop :=
  ∀ s : State,
    let on := s.twnOn = true ∧ s.paired = true
    let miss (t : State) : Prop := t.bit R.TWN_STAT F.TWN_STAT_SNAPMISS = true ∧ t.evt.pend.getLsbD 241 = true
      ∧ t.fld R.TWN_CNT F.TWN_CNT_SNAPMISS = min (s.fld R.TWN_CNT F.TWN_CNT_SNAPMISS + 1) 255
    (∀ (segment : BitVec 6) (data : List Byte) (ok : Bool), ∃ t, exec (.snap segment data ok) s = .next t
      ∧ (s.twnOn = false ∨ s.quiet = false → t = s)
      ∧ (s.twnOn = true → s.quiet = true →
        let a := 0x24008000 + 256 * segment.toNat
        (ok = true → t.twn = { s.twn with got := segment.toNat :: s.twn.got }
          ∧ (∀ k : Fin 256, ∀ b ∈ data[k.val]?.toList, t.byte (a + k.val) = b)
          ∧ s.leaves t (fun _ => False) [.twn] (fun b => a ≤ b ∧ b < a + min 256 data.length))
        ∧ (ok = false → t.twn = { s.twn with broken := true } ∧ s.sameBut t [] [.twn])))
    ∧ (∃ t, exec .snapshotCapture s = .next t
      ∧ (¬ on → t = s)
      ∧ (on → s.quiet = true → t.twn = { s.twn with sc := s.travel 2, got := [], broken := false } ∧ s.sameBut t [] [.twn])
      ∧ (s.quiet = false → s.mode = .lockout → t = s)
      ∧ (on → s.quiet = false → s.mode ≠ .lockout → s.snapFits 0 = false → miss t ∧ t.bit R.TWN_SNAPST F.TWN_SNAPST_NOFIT = true)
      ∧ (on → s.quiet = false → s.mode ≠ .lockout → s.snapFits 0 = true →
        let n := t.fld R.TWN_SNAPST F.TWN_SNAPST_NSENT
        let l := s.snapSessions.length
        n ≤ l ∧ s.snapFits n = true ∧ (n < l → s.snapFits (n + 1) = false)
          ∧ t.bit R.TWN_SNAPST F.TWN_SNAPST_CUT = decide (n < l)
          ∧ t.fld R.TWN_SNAPST F.TWN_SNAPST_SIZE = 6336 + 64 * n ∧ t.twn = { s.twn with size := 6336 + 64 * n }
          ∧ t.word 0x24000000 = s.reg R.SYS_SMPLCNT ∧ t.word 0x24000004 = s.reg R.NET_TIME ∧ (t.word 0x2400000C).toNat = n
          ∧ s.leaves t (fun r => r = R.TWN_SNAPST) [.twn] (fun b => 0x24000000 ≤ b ∧ b < 0x24000000 + 6336 + 64 * n))
      ∧ s.leaves t (fun r => r ∈ [R.TWN_SNAPST, R.TWN_STAT, R.TWN_CNT, R.TWN_ST]) [.twn, .latches, .pending]
          (fun b => 0x24000000 ≤ b ∧ b < 0x24004000))
    ∧ ∃ t, exec .snapshotClose s = .next t
      ∧ (¬ on ∨ (s.quiet = false ∧ (s.twn.size = 0 ∨ s.mode = .lockout)) → t = s)
      ∧ (on → s.quiet = false → s.mode ≠ .lockout → (∀ k, k < min s.twn.size 0x4000 → t.byte (0x24004000 + k) = s.byte (0x24000000 + k))
        ∧ s.leaves t (fun _ => False) [] (fun b => 0x24004000 ≤ b ∧ b < 0x24004000 + s.twn.size))
      ∧ (on → s.quiet = true →
        let n := (s.word 0x2400800C).toNat
        let size := 6336 + 64 * n
        if s.twn.got.contains 0 = true ∧ s.twn.broken = false ∧ n ≤ 157
            ∧ ∀ k, k < (size + 255) / 256 → s.twn.got.contains k = true then
          t.twn = { s.twn with complete := true, stored := true, size := size, got := [] }
            ∧ (∀ k, k < min size 0x4000 → t.byte (0x2400C000 + k) = s.byte (0x24008000 + k))
            ∧ s.leaves t (fun _ => False) [.twn] (fun b => 0x2400C000 ≤ b ∧ b < 0x2400C000 + size)
        else miss t ∧ t.twn = { s.twn with got := [] }
          ∧ s.sameBut t [R.TWN_STAT, R.TWN_CNT, R.TWN_ST] [.twn, .latches, .pending])

/-! ### The safety controller -/

/-- R504, R506 to R509, R511, R515, R517, R518: input pairs, outputs, the end of a controlled stop, signature windows. -/
def Obligations.SafetyInputsAndOutputs : Prop :=
  ∀ s : State,
    let on := s.safOn = true
    let change (chanA toRun : Bool) (l : List Tumble) : List Tumble :=
      if ⟨!chanA, toRun⟩ ∈ l then l.erase ⟨!chanA, toRun⟩ else l ++ [⟨chanA, toRun⟩]
    (∀ (k : Fin 16) (a b : Bool), ∃ t, exec (.safetyInputChange k a b) s = .next t
      ∧ (¬ on → t = s)
      ∧ (on →
        let ty := s.saf.block.inType k.val
        let da := (s.reg R.SAF_INLVL).bit k.val ≠ a
        let db := (s.reg R.SAF_INLVL).bit (16 + k.val) ≠ b
        let toRun := b == (ty == 1)
        (t.reg R.SAF_INLVL).bit k.val = a ∧ (t.reg R.SAF_INLVL).bit (16 + k.val) = b
          ∧ (∀ j, j < 32 → j ≠ k.val → j ≠ 16 + k.val → (t.reg R.SAF_INLVL).bit j = (s.reg R.SAF_INLVL).bit j)
          ∧ (ty = 0 ∨ (¬ da ∧ ¬ db) → t.saf = s.saf)
          ∧ (ty ≠ 0 → da → ¬ db → t.saf.tumble[k] = change true a s.saf.tumble[k])
          ∧ (ty ≠ 0 → ¬ da → db → t.saf.tumble[k] = change false toRun s.saf.tumble[k])
          ∧ (ty ≠ 0 → da → db → t.saf.tumble[k] = change false toRun (change true a s.saf.tumble[k]))
          ∧ (∀ j, j ≠ k → t.saf.tumble[j] = s.saf.tumble[j]) ∧ s.sameBut t [R.SAF_INLVL] [.saf]))
    ∧ (∀ k : Fin 16, ∃ t, exec (.tumblerTimeout k) s = .next t
      ∧ (if on ∧ s.saf.tumble[k] ≠ [] then
          t.saf.tumble[k] = s.saf.tumble[k].tail ∧ (t.reg R.SAF_DISC).bit k.val = true ∧ s.lockedOut t 5 k.val
         else t = s))
    ∧ (∀ j : Fin 8,
      (∃ t, exec (.outputOnStep j) s = .next t
        ∧ (¬ on → t = s)
        ∧ (on → t.saf.out[j]
            = (if s.saf.out[j] = .lowHeld then .rising else if s.saf.out[j] = .lowOn then .unproved else s.saf.out[j])
          ∧ (∀ i, i ≠ j → t.saf.out[i] = s.saf.out[i]) ∧ s.sameBut t [] [.saf]))
      ∧ ∃ t, exec (.outputReadbackTimeout j) s = .next t
        ∧ (if on ∧ s.saf.block.outUse j.val = true ∧ s.saf.out[j] ∈ [.lowOn, .rising, .unproved, .falling] then
            s.lockedOut t 6 j.val
           else t = s))
    ∧ (∀ (j : Fin 2) (fell : Bool), ∃ t, exec (.offPulse j fell) s = .next t
      ∧ (if on ∧ s.saf.block.outOffp j.val = true ∧ s.saf.out[j.val] = .on ∧ fell = false then s.lockedOut t 6 j.val
         else t = s))
    ∧ (∃ t, exec .controlledStopDeadline s = .next t
      ∧ (¬ on ∨ s.saf.stop = none → t = s)
      ∧ (on → ∀ c, s.saf.stop = some c → t.saf.stop = none
        ∧ t.mod.lock = (if c.cause.isSome = true then .inForce else s.mod.lock)
        ∧ (∀ i, i < 9 → (t.reg R.SAF_EN).bit i = ((s.reg R.SAF_EN).bit i && !c.enmask.testBit i)
          ∧ (c.enmask.testBit i = true → t.saf.grant0.getLsbD i = false ∧ t.saf.grant1.getLsbD i = false))
        ∧ (t.reg R.SAF_EN ≠ s.reg R.SAF_EN → t.evt.pend.getLsbD 26 = true)))
    ∧ (∀ sig0 sig1 rep0 rep1 : Word, ∃ t, exec (.safetySignatureWindow sig0 sig1 rep0 rep1) s = .next t
      ∧ (¬ on → t = s)
      ∧ (on → t.fld R.SAF_SIGST F.SAF_SIGST_WIN = (s.fld R.SAF_SIGST F.SAF_SIGST_WIN + 1) % 65536
        ∧ (sig0 = sig1 → t.fld R.SAF_SIGST F.SAF_SIGST_STATUS = 0 ∧ t.saf = { s.saf with sigBad := 0 } ∧ s.fires t [])
        ∧ (sig0 ≠ sig1 → rep0 = rep1 → t.fld R.SAF_SIGST F.SAF_SIGST_STATUS = Status.retriedOk.code
          ∧ t.fld R.SAF_SIGST F.SAF_SIGST_TRANS = min (s.fld R.SAF_SIGST F.SAF_SIGST_TRANS + 1) 255
          ∧ t.saf = { s.saf with sigBad := 0 } ∧ s.fires t [28])
        ∧ (sig0 ≠ sig1 → rep0 ≠ rep1 → t.fld R.SAF_SIGST F.SAF_SIGST_STATUS = Status.failedTwice.code
          ∧ t.evt.pend.getLsbD 28 = true ∧ t.saf.sigBad = s.saf.sigBad + 1
          ∧ (if s.saf.sigBad = 0 then s.sameBut t [R.SAF_SIGST] [.saf, .latches, .pending] else s.lockedOut t 4 1))))
    ∧ ∃ t, exec .presenceWindowExpiry s = .next t ∧ t.saf = { s.saf with presence := false } ∧ s.sameBut t [] [.saf]

/-- R74, R505, R506, R508, R510, R511, R514, R515, R518, R523: a scan moves the functions, grants the enables and judges its
readbacks; the reset input clears latches or resets the module. -/
def Obligations.SafetyScanActs : Prop :=
  ∀ s : State,
    let on := s.safOn = true
    let b := s.saf.block
    (∀ i : ScanIn, ∃ t, exec (.safetyScan i) s = .next t
      ∧ (¬ on → t = s)
      ∧ (on →
        t.fld R.SAF_STATE F.SAF_STATE_SCAN = (s.fld R.SAF_STATE F.SAF_STATE_SCAN + 1) % 65536
          ∧ (∀ k, k < 16 → t.saf.demand.getLsbD k = !s.pairInRun k)
          ∧ (∀ f : Fin 16,
            let kind := b.fnKind f.val
            let prev := s.fnState f.val
            let in1 := b.fnIn1 f.val < 16 ∧ s.saf.demand.getLsbD (b.fnIn1 f.val) = true
            let fast : Prop := match s.mode with
              | .drive => b.vRoad < s.safeSpeed
              | .field => b.vField < s.safeSpeed
              | .limp => b.vLimp < s.safeSpeed
              | _ => False
            let dem : Prop :=
              if kind = 2 then in1 ∧ b.fnTdly f.val ≤ s.saf.count[f]
              else if kind = 3 then in1 ∨ b.vPark ≤ s.safeSpeed
              else if kind = 4 then fast ∧ b.tTol ≤ s.saf.count[f] else in1
            (kind = 0 → t.fnState f.val = 3)
              ∧ (kind ≠ 0 → dem → t.fnState f.val = 1)
              ∧ (kind ≠ 0 → ¬ dem → t.fnState f.val = (if (prev = 1 ∨ prev = 2) ∧ b.fnManrst f.val = true ∧ kind ≠ 3 then 2 else 0))
              ∧ (kind ≠ 0 → prev ≠ 1 → dem → t.evt.pend.getLsbD 24 = true)
              ∧ (kind ∈ [1, 2, 4] → b.fnReact f.val = 1 → prev ≠ 1 → prev ≠ 2 ∨ s.saf.withheld.getLsbD f.val = false → dem →
                  t.evt.pend.getLsbD 25 = true ∧ (t.saf.stop ≠ none ∨ t.mod.lock = .inForce))
              ∧ (kind ∈ [1, 2, 4, 5, 6] → b.fnReact f.val ≠ 1 ∨ kind ∈ [5, 6] → t.fnState f.val ∈ [1, 2] →
                  ∀ j, j < 9 → (b.fnEnmask f.val).testBit j = true → (t.reg R.SAF_EN).bit j = false))
          ∧ (∀ j, j < 9 → (t.reg R.SAF_EN).bit j = (t.saf.grant0.getLsbD j && t.saf.grant1.getLsbD j))
          ∧ (∀ j, j < 9 → s.saf.stop = none → s.mod.lock ≠ .inForce → s.enablePermitted s.mode j = true →
              (∀ f, f < 16 → t.saf.withheld.getLsbD f = false ∨ (b.fnEnmask f).testBit j = false) →
              (j = 5 → s.safeSpeed < b.vPark) →
              (t.saf.grant0.getLsbD j = !i.hold0.getLsbD j) ∧ (t.saf.grant1.getLsbD j = !i.hold1.getLsbD j))
          ∧ (∀ j, j < 9 → (t.reg R.SAF_EN).bit j = true → s.mod.lock ≠ .inForce
            ∧ i.hold0.getLsbD j = false ∧ i.hold1.getLsbD j = false
            ∧ (s.enablePermitted s.mode j = true ∨ ∃ m ∈ s.pendTarget.toList, s.enablePermitted m j = true))
          ∧ (∀ j : Fin 8, b.outUse j.val = false ∨ s.mod.lock = .inForce ∨ s.up = false →
              t.saf.out[j] ∈ [.off, .falling] ∧ (t.fld R.SAF_OUT F.SAF_OUT_CMD).testBit j.val = false)
          ∧ t.fld R.SAF_OUT F.SAF_OUT_RBH = i.rbh.toNat ∧ t.fld R.SAF_OUT F.SAF_OUT_RBL = i.rbl.toNat
          ∧ t.fld R.GDP_XEN F.GDP_XEN_PAD = i.xenPad.toNat
          ∧ (∀ j : Fin 8,
            let h := i.rbh.getLsbD j.val
            let lo := i.rbl.getLsbD j.val
            let fails := (t.saf.out[j] = .on ∧ (h = false ∨ lo = true)) ∨ (t.saf.out[j] = .off ∧ h = true)
            (b.outUse j.val = true → fails → t.mod.lock ≠ .none ∧ (t.reg R.MOD_LOCKCAUSE).bit 21 = true)
              ∧ (t.saf.out[j] = .lowOn → h = true ∨ lo = true)
              ∧ (t.saf.out[j] = .rising → h = false ∨ lo = true) ∧ (t.saf.out[j] = .falling → h = true))
          ∧ (∀ x, x < 4 → (x = 1 → s.hasB = true) → (x = 3 → s.hasCharger = true) → i.xenPad.getLsbD x = true →
              (t.reg R.SAF_EN).bit x = false → i.stuck.getLsbD x = true → t.mod.lock ≠ .none ∧ (t.reg R.MOD_LOCKCAUSE).bit 21 = true)
          ∧ (i.overrun = true → t.mod.lock = .inForce ∧ (t.reg R.MOD_LOCKCAUSE).bit 19 = true)
          ∧ (t.saf.invalid = true → b.tDisc ≤ s.saf.disagree → (t.reg R.MOD_LOCKCAUSE).bit 25 = true)
          ∧ t.pending = s.pending ∧ (∀ a, t.byte a = s.byte a)))
    ∧ ∀ (hold : Nat) (clk : BitVec 2) (rails vin : Bool) (boot : BootIn), ∃ t,
      exec (.resetRelease hold clk rails vin boot) s = .next t
      ∧ (¬ on → t = s)
      ∧ (on →
        let good := b.rstHold * 100 ≤ hold ∧ hold ≤ 10000
        let latched := s.bit R.MOD_LOCKCAUSE F.MOD_LOCKCAUSE_LATCHED = true
        let now : State :=
          if s.clk.fault = true then s.setReg R.SYS_CLKSTAT ((s.reg R.SYS_CLKSTAT).setBits 1 0 clk.toNat) else s
        let clks (l : List Nat) : List Nat := if s.clk.fault = true then R.SYS_CLKSTAT :: l else l
        (t.mode ≠ .boot → t.reg R.SYS_CLKSTAT = now.reg R.SYS_CLKSTAT) ∧
        (¬ good → t.bit R.SAF_RSTIN F.SAF_RSTIN_VALID = false ∧ t.bit R.SAF_RSTIN F.SAF_RSTIN_STUCK = decide (10000 < hold)
            ∧ t.bit R.SAF_RSTIN F.SAF_RSTIN_HELD = false ∧ s.sameBut t (clks [R.SAF_RSTIN]) [])
          ∧ (good → latched → now.causesGone rails vin = true → t.mode = .boot ∧ t.reg R.MOD_RSTCAUSE = 8
            ∧ t.bit R.SAF_RSTIN F.SAF_RSTIN_VALID = true ∧ t.bit R.SAF_RSTIN F.SAF_RSTIN_STUCK = false
            ∧ t.saf.presence = true ∧ t.evt.pend.getLsbD 27 = true
            ∧ (boot.selfTest = true → boot.vcp = true → boot.comparatorFail = none → s.saf.flash.bad s.variant.part.code = none →
                s.saf.flashKey = s.saf.flash.key → s.saf.confirmed = true → t.mod.lock = .none ∧ t.reg R.MOD_LOCKCAUSE = 0))
          ∧ (good → ¬ latched ∨ now.causesGone rails vin = false →
            t.bit R.SAF_RSTIN F.SAF_RSTIN_VALID = true ∧ t.bit R.SAF_RSTIN F.SAF_RSTIN_STUCK = false ∧ t.saf.presence = true
              ∧ (latched → t.bit R.MOD_STAT F.MOD_STAT_RESET_IGN = true)
              ∧ (∀ f, f < 16 →
                let clears := s.fnState f = 2 ∧ (16 ≤ b.fnIn1 f ∨ s.saf.demand.getLsbD (b.fnIn1 f) = false)
                  ∧ (16 ≤ b.fnIn2 f ∨ s.saf.demand.getLsbD (b.fnIn2 f) = false) ∧ s.saf.fresh.getLsbD f = false
                if clears then t.fnState f = 0 ∧ t.saf.withheld.getLsbD f = false
                else t.fnState f = s.fnState f ∧ t.saf.withheld.getLsbD f = s.saf.withheld.getLsbD f)
              ∧ s.fires t [27]
              ∧ s.sameBut t (clks [R.SAF_RSTIN, R.MOD_STAT, R.SAF_FUNC]) [.saf, .latches, .pending]))

/-- R62, R521: the commissioning commands of the safety block, judged in the order of their steps. -/
def Obligations.SafetyBlockIsCommissioned : Prop :=
  ∀ (s : State) (m : Master),
    let on := s.safOn = true
    let clash := ∃ y, s.saf.cargBy = some y ∧ y ≠ m
    let only := s.fld R.MOD_LOCKCAUSE F.MOD_LOCKCAUSE_ALL = 64
    let locked := s.mod.lock = .inForce ∧ ¬ only
    let wrong := ¬ locked ∧ s.mode ≠ .commission ∧ (s.mode ≠ .lockout ∨ ¬ only)
    let open' := ¬ locked ∧ ¬ wrong
    let arg := s.nreg R.SAF_CARG
    let outcome (t : State) (op detail : Nat) (st : Status) : Prop :=
      t.bit R.SAF_CMDST F.SAF_CMDST_DONE = true ∧ t.fld R.SAF_CMDST F.SAF_CMDST_OP = op
        ∧ t.fld R.SAF_CMDST F.SAF_CMDST_DETAIL = detail ∧ t.fld R.SAF_CMDST F.SAF_CMDST_STATUS = st.code
        ∧ t.evt.pend.getLsbD 30 = true
    let turned (t : State) (op : Nat) (st : Status) : Prop :=
      outcome t op 0 st ∧ t.lastStatus m = st
        ∧ s.sameBut t [R.SAF_CMDST, (State.refusalOf m).1, (State.refusalOf m).2.1] [.bus, .latches, .pending]
    let judged (t : State) (op : Nat) : Prop :=
      (locked → turned t op .locked)
        ∧ (wrong → turned t op .wrongMode ∧ t.bit (State.refusalOf m).1 F.HPT_REF_REFUSED = true)
    (if on ∧ (clash ∨ (open' ∧ arg % 4 = 0 ∧ 0x100000 < arg + 2048)) then exec (.safetyLoad m) s = .fault .hostMistake
     else ∃ t, exec (.safetyLoad m) s = .next t ∧ (¬ on → t = s) ∧ (on → judged t 1)
      ∧ (on → open' → arg % 4 ≠ 0 → turned t 1 .outOfRange)
      ∧ (on → open' → arg % 4 = 0 → s.saf.loading ≠ none → turned t 1 .busy)
      ∧ (on → open' → arg % 4 = 0 → s.saf.loading = none → t.saf = { s.saf with loading := some arg, loadAge := 0 }
        ∧ t.lastStatus m = .ok ∧ t.bit R.SAF_CMDST F.SAF_CMDST_DONE = false ∧ t.fld R.SAF_CMDST F.SAF_CMDST_OP = 1
        ∧ s.sameBut t [R.SAF_CMDST] [.saf, .bus]))
    ∧ (∃ t, exec .safetyLoadComplete s = .next t
      ∧ (s.safOn = false ∨ s.saf.loading = none → t = s)
      ∧ (s.safOn = true → ∀ o, s.saf.loading = some o →
        let blk := SafBlock.ofBytes (s.bytes (0x20000000 + o) 2048)
        t.saf.loading = none
          ∧ (match blk.bad s.variant.part.code with
            | some off => outcome t 1 off .outOfRange ∧ t.saf.loaded = s.saf.loaded
            | none => outcome t 1 0 .ok ∧ t.saf.loaded = some blk ∧ t.saf.sinceLoad = s.saf.loadAge ∧ t.reg R.SAF_PKEY = blk.key
                ∧ t.bit R.SAF_STATE F.SAF_STATE_LOADED = true ∧ t.evt.pend.getLsbD 29 = true)
          ∧ t.saf.block = s.saf.block ∧ t.saf.flash = s.saf.flash
          ∧ s.sameBut t [R.SAF_CMDST, R.SAF_PKEY, R.SAF_STATE] [.saf, .latches, .pending]))
    ∧ (if on ∧ clash then exec (.safetyConfirm m) s = .fault .hostMistake
       else ∃ t, exec (.safetyConfirm m) s = .next t ∧ (¬ on → t = s) ∧ (on → judged t 2)
      ∧ (on → open' → s.saf.loaded = none → s.saf.loading ≠ none → turned t 2 .busy)
      ∧ (on → open' → s.saf.loaded = none → s.saf.loading = none → t.saf = s.saf ∧ t.freeCount = s.freeCount + 1
        ∧ (outcome t 2 0 .timeout ∨ outcome t 2 0 .outOfRange))
      ∧ (on → open' → ∀ blk, s.saf.loaded = some blk →
        if s.saf.loading = none ∧ (600000 < s.saf.sinceLoad ∨ s.saf.presence = false) then turned t 2 .timeout
        else if s.reg R.SAF_CARG ≠ blk.key then
          outcome t 2 0 .outOfRange ∧ t.lastStatus m = .outOfRange ∧ t.saf = { s.saf with loaded := none }
            ∧ t.bit R.SAF_STATE F.SAF_STATE_LOADED = false
        else if s.saf.loading ≠ none then turned t 2 .busy
        else outcome t 2 0 .ok ∧ t.lastStatus m = .ok ∧ t.bit R.SAF_STATE F.SAF_STATE_PENDING = true
          ∧ t.saf = { s.saf with flash := blk, flashKey := blk.key, confirmed := true })
      ∧ s.sameBut t [R.SAF_CMDST, R.SAF_STATE, (State.refusalOf m).1, (State.refusalOf m).2.1]
          [.saf, .bus, .latches, .pending, .free])
    ∧ ∃ t, exec (.safetyDiscard m) s = .next t ∧ (¬ on → t = s) ∧ (on → judged t 3)
      ∧ (on → open' → s.saf.loading ≠ none → turned t 3 .busy)
      ∧ (on → open' → s.saf.loading = none → outcome t 3 0 .ok ∧ t.lastStatus m = .ok ∧ t.saf = { s.saf with loaded := none }
        ∧ t.bit R.SAF_STATE F.SAF_STATE_LOADED = false ∧ t.bit R.SAF_STATE F.SAF_STATE_PENDING = false)

/-! ### Events, cores, flash and the host port -/

/-- R532, R535, R538 to R541, R543: the winner of the arbitration is delivered, and what ends a delivery, a hold-off and a core's wait for
its release. What the core saves of its own, its pc among it, is free (log entry 80). -/
def Obligations.EventsReachTheCores : Prop :=
  ∀ (s : State) (c : Fin 2),
    let x := s.core c
    let runs := s.mode ≠ .off ∧ x.released = true ∧ x.halted = false
    let mip := s.coreMip c
    let ready := runs ∧ x.active = none
    let on := s.mode ≠ .off
    let cand (n : Nat) : Prop :=
      s.evt.pend.getLsbD n = true ∧ s.bit (R.EVT_SRC_CFG n) F.EVT_SRC_CFG_EN = true
        ∧ s.fld (R.EVT_SRC_CFG n) F.EVT_SRC_CFG_CORE = c.val ∧ s.evt.hold.getLsbD (n / 16) = false
    let prio (n : Nat) : Nat := s.fld (R.EVT_SRC_CFG n) F.EVT_SRC_CFG_PRIO
    (∃ t, exec (.eventDelivery c) s = .next t
      ∧ (¬ ready ∨ (∀ n, n < 256 → ¬ cand n) → t = s)
      ∧ (ready → ∀ n : Fin 256, cand n.val →
          (∀ m, m < 256 → cand m → prio n.val < prio m ∨ (prio n.val = prio m ∧ n.val ≤ m)) →
        (∀ m, m < 256 → t.evt.pend.getLsbD m = (s.evt.pend.getLsbD m && decide (m ≠ n.val))
          ∧ t.evt.act.getLsbD m = (s.evt.act.getLsbD m || decide (m = n.val)))
          ∧ (∀ g, g < 16 → t.evt.hold.getLsbD g = (s.evt.hold.getLsbD g
              || (decide (g = n.val / 16) && decide (s.fld (R.EVT_GRP_HOLD g) F.EVT_GRP_HOLD_HOLD ≠ 0))))
          ∧ (∃ a ∈ [(t.core c).mepc], t.core c =
              { x with active := some (BitVec.ofNat 8 n.val), depth := 0, machine := true, pc := s.reg (R.EVT_SRC_VEC n.val)
                       mepc := a, mcause := BitVec.ofNat 32 (0x80000010 + n.val), mie := false, mpie := true
                       mppMachine := x.machine, reservation := none })
          ∧ (∀ d, d ≠ c → t.core d = s.core d) ∧ s.sameBut t [] [.cores, .pending, .free]))
    ∧ (∃ t, exec (.mret c) s = .next t
      ∧ (¬ runs → t = s)
      ∧ (runs → let y := { x with pc := x.mepc, mie := x.mpie, mpie := true, machine := x.mppMachine, mppMachine := false }
         match x.active with
         | none => t.core c = y ∧ t.evt.act = s.evt.act
         | some n =>
           if 0 < x.depth then t.core c = { y with depth := x.depth - 1 } ∧ t.evt.act = s.evt.act
           else t.core c = { y with active := none }
             ∧ ∀ m, m < 256 → t.evt.act.getLsbD m = (s.evt.act.getLsbD m && decide (m ≠ n.toNat)))
      ∧ (∀ d, d ≠ c → t.core d = s.core d) ∧ (runs → (t.own c).minstret = (s.own c).minstret + 1)
      ∧ s.sameBut t [] [.bus, .cores])
    ∧ (mip.bit 7 = false ∧ mip.bit 3 = false ∧ (mip.bit 11 = true ↔ ∃ n, n < 256 ∧ cand n))
    ∧ (∃ t, exec (.synchronousException c) s = .next t
      ∧ (¬ runs → t = s)
      ∧ (runs → (t.core c).active = x.active ∧ (t.core c).depth = (if x.active.isSome = true then x.depth + 1 else x.depth)
        ∧ (t.core c).machine = true ∧ (t.core c).mppMachine = x.machine ∧ (t.core c).mie = false ∧ (t.core c).mpie = x.mie
        ∧ (t.core c).reservation = none ∧ (t.core c).released = x.released ∧ (t.core c).halted = x.halted
        ∧ (∀ d, d ≠ c → t.core d = s.core d) ∧ s.sameBut t [] [.cores, .free]))
    ∧ (∀ (k : Fin 8) (mask : Word), ∃ t, exec (.eventPendingClear k mask) s = .next t
      ∧ (¬ on → t = s)
      ∧ (on → ∀ n, n < 256 → t.evt.pend.getLsbD n
          = (s.evt.pend.getLsbD n && !(decide (n / 32 = k.val) && mask.getLsbD (n % 32) && !s.evt.act.getLsbD n)))
      ∧ s.sameBut t [] [.pending])
    ∧ (∀ g : Fin 16, ∃ t, exec (.groupHoldoffExpiry g) s = .next t
      ∧ (¬ on → t = s)
      ∧ (on → ∀ h, h < 16 → t.evt.hold.getLsbD h = (s.evt.hold.getLsbD h && decide (h ≠ g.val)))
      ∧ t.evt.core0 = s.evt.core0 ∧ t.evt.core1 = s.evt.core1 ∧ t.evt.act = s.evt.act ∧ s.sameBut t [] [.cores])
    ∧ ∀ mask : BitVec 2, ∃ t, exec (.coreRelease mask) s = .next t
      ∧ (¬ on ∨ s.fld R.HPT_BOOTCTL F.HPT_BOOTCTL_BOOTSEL ≠ 1 → t = s)
      ∧ (on → s.fld R.HPT_BOOTCTL F.HPT_BOOTCTL_BOOTSEL = 1 →
        t.core c = (if mask.getLsbD c.val = true ∧ x.released = false then
            { x with released := true, pc := s.reg (R.HPT_BOOT c.val) } else x)
          ∧ (mask.getLsbD c.val = true → x.released = false →
              (t.fld R.HPT_BOOTCTL F.HPT_BOOTCTL_RELEASE).testBit c.val = true)
          ∧ s.sameBut t [R.HPT_BOOTCTL] [.cores])

/-- R62, R536, R537, R550: operations of code flash, doorbells and the flags of `HP_IRQ`. -/
def Obligations.FlashRunsItsOperations : Prop :=
  ∀ s : State,
    let on := s.mode ≠ .off
    (∀ (m : Master) (key : Byte),
      let may (x : Mode) : Prop := x = .idle ∨ x = .service
      let st : Status :=
        if s.mod.lock = .inForce then .locked
        else if ¬ may s.mode ∨ (∃ x ∈ s.pendTarget.toList, ¬ may x) then .wrongMode
        else if key ≠ 0x5A then .outOfRange
        else if s.flash ≠ none then .busy else .ok
      let judge (erase : Bool) (o : Host.Outcome State Fault Refusal) : Prop :=
        ∃ t, o = .next t ∧ (¬ on → t = s) ∧ (on → t.lastStatus m = st ∧ t.fld R.HPT_FLCTL F.HPT_FLCTL_STATUS = st.code
          ∧ (st = .ok → t.flash = some ⟨erase, s.nreg R.HPT_FLADDR, false⟩ ∧ t.bit R.HPT_FLCTL F.HPT_FLCTL_BUSY = true
            ∧ s.sameBut t [R.HPT_FLCTL] [.flash, .bus])
          ∧ (st = .locked ∨ st = .outOfRange ∨ st = .busy → s.sameBut t [R.HPT_FLCTL] [.bus])
          ∧ (st = .wrongMode → t.bit (State.refusalOf m).1 F.HPT_REF_REFUSED = true ∧ s.fires t [(State.refusalOf m).2.2]
            ∧ s.sameBut t [R.HPT_FLCTL, (State.refusalOf m).1, (State.refusalOf m).2.1] [.bus, .latches, .pending]))
      judge false (exec (.flashProgram m key) s) ∧ judge true (exec (.flashErase m key) s))
    ∧ (∀ ok : Bool, ∃ t, exec (.flashOperationComplete ok) s = .next t
      ∧ (¬ on ∨ s.flash = none → t = s)
      ∧ (on → ∀ op, s.flash = some op →
        let a := if op.erase = true then op.addr / 8192 * 8192 else op.addr
        let n := if op.erase = true then 8192 else 16
        let ended (st : Status) : Prop := t.flash = none ∧ t.bit R.HPT_FLCTL F.HPT_FLCTL_BUSY = false
          ∧ t.fld R.HPT_FLCTL F.HPT_FLCTL_STATUS = st.code ∧ t.bit R.HPT_IRQST F.HPT_IRQST_FLDONE = true
        (ok = true → ended (if op.retry = true then .retriedOk else .ok)
          ∧ (op.erase = true → ∀ k, k < 8192 → t.byte (a + k) = 0xFF)
          ∧ (op.erase = false → ∀ k, k < 4 → t.word (a + 4 * k) = s.reg (R.HPT_FLBUF k))
          ∧ ((∀ c : Fin 2, (s.own c).wait = none) → t.freeCount = s.freeCount))
          ∧ (ok = false → op.retry = false → t.flash = some { op with retry := true } ∧ ∀ r, t.reg r = s.reg r)
          ∧ (ok = false → op.retry = true → ended .failedTwice)
          ∧ ((∀ c : Fin 2, (s.own c).wait = none) →
              s.leaves t (fun r => r = R.HPT_FLCTL ∨ r = R.HPT_IRQST) [.flash, .free] (fun b => a ≤ b ∧ b < a + n))
          ∧ (ok = true ∨ op.retry = true → ∀ (c : Fin 2) rd adr, (s.own c).wait = some ⟨adr, .load rd, .good⟩ →
              region? adr = some .flash → (∀ d, d ≠ c → (s.own d).wait = none) →
              (t.own c).wait = none ∧ (rd ≠ 0 → t.xReg c rd = t.word adr)
                ∧ s.leaves t (fun r => r = R.HPT_FLCTL ∨ r = R.HPT_IRQST) [.flash, .free, .bus] (fun b => a ≤ b ∧ b < a + n))))
    ∧ (∀ mask : BitVec 2, ∃ t, exec (.doorbell mask) s = .next t
      ∧ (¬ on → t = s)
      ∧ (on → s.fires t ((if mask.getLsbD 0 = true then [252] else []) ++ (if mask.getLsbD 1 = true then [253] else []))
        ∧ s.sameBut t [] [.latches, .pending]))
    ∧ ∀ mask : BitVec 16, ∃ t, exec (.irqSet mask) s = .next t
      ∧ (¬ on → t = s)
      ∧ (on → ∀ i, i < 32 → (t.reg R.HPT_IRQST).bit i = ((s.reg R.HPT_IRQST).bit i || (decide (i < 16) && mask.getLsbD i)))
      ∧ (on → s.reg R.HPT_IRQEN &&& mask.setWidth 32 ≠ 0 → t.hpIrqLow = true) ∧ s.sameBut t [R.HPT_IRQST] []

/-- R34, R36, R37, R49, R534, R537, R546 to R549, R553: frames of the host port, which answers nothing after a clock fault. -/
def Obligations.HostPortFrames : Prop :=
  ∀ s : State,
    (∃ t, exec .hostPortBadCommand s = .next t
      ∧ (s.mode = .off → t = s)
      ∧ (s.mode ≠ .off → t.bit R.HPT_STAT F.HPT_STAT_BADCMD = true ∧ s.sameBut t [R.HPT_STAT] []))
    ∧ ∀ (size : BitVec 2) (inc : Bool) (addr : Word),
      let a := addr.toNat
      let w := 2 ^ size.toNat
      let bad := size = 3 ∨ a % w ≠ 0 ∨ ((busReg? a).isSome = true ∧ size ≠ 2)
      let item (i : Nat) : Nat := if inc = true then a + i * w else a
      let refused (t : State) : Prop := t.bit R.HPT_STAT F.HPT_STAT_ACCERR = true ∧ t.evt.pend.getLsbD 255 = true
      (∀ (n : Nat) (ecc : List Ecc),
        let guarded := region? a = some .sram ∨ region? a = some .flash
        let at' (i : Nat) : Ecc := ecc.getD i .good
        let lost (i : Nat) : Prop := at' i = .double ∧ guarded
        let marked (t : State) : Prop := t.bit R.HPT_ECC F.HPT_ECC_DBL = true ∧ t.bit R.HPT_STAT F.HPT_STAT_ECC2 = true
        (s.mode = .off → exec (.hostPortRead size inc addr n ecc) s = .next s)
        ∧ (s.mode ≠ .off → bad → exec (.hostPortRead size inc addr n ecc) s = .fault .hostMistake)
        ∧ (s.mode ≠ .off → s.clk.fault = true → ¬ bad → ∃ t, exec (.hostPortRead size inc addr n ecc) s = .next t
          ∧ t.bus.hostResponse = s.bus.hostResponse ∧ t.bus.hostData = s.bus.hostData)
        ∧ (s.mode ≠ .off → s.clk.fault = false → ¬ bad → ∃ t, exec (.hostPortRead size inc addr n ecc) s = .next t
          ∧ t.bus.hostData.length = n
          ∧ (region? a = none → busReg? a = none → t.bus.hostResponse = 1 ∧ t.bus.hostData = List.replicate n 0
            ∧ refused t ∧ t.reg R.HPT_ERRADDR = addr
            ∧ s.sameBut t [R.HPT_STAT, R.HPT_ERRADDR] [.bus, .latches, .pending])
          ∧ ((region? a).isSome = true → region? a = some .flash → s.flash ≠ none →
              t.bus.hostResponse = 2 ∧ t.bus.hostData = List.replicate n 0 ∧ s.sameBut t [] [.bus])
          ∧ ((region? a).isSome = true → region? a ≠ some .flash ∨ s.flash = none → lost 0 → t.bus.hostResponse = 1
            ∧ t.bus.hostData = List.replicate n 0 ∧ refused t ∧ marked t ∧ t.reg R.HPT_ECCADDR = addr
            ∧ t.bit R.HPT_ECC F.HPT_ECC_SRC = decide (region? a = some .flash)
            ∧ s.sameBut t [R.HPT_STAT, R.HPT_ERRADDR, R.HPT_ECC, R.HPT_ECCADDR] [.bus, .latches, .pending])
          ∧ ((region? a).isSome = true → region? a ≠ some .flash ∨ s.flash = none → ¬ lost 0 → t.bus.hostResponse = 0
            ∧ (∀ i, i < n → t.bus.hostData.getD i 0
                = (if region? (item i) = region? a ∧ ¬ lost i then
                    (if size = 0 then (s.byte (item i)).setWidth 32 else if size = 1 then (s.half (item i)).setWidth 32
                     else s.word (item i))
                   else 0))
            ∧ (∀ i, i < n → region? (item i) ≠ region? a ∨ lost i → refused t)
            ∧ (∀ i, i < n → region? (item i) = region? a → lost i → marked t)
            ∧ ((∀ i, i < n → at' i ≠ .double) → guarded → inc = false →
                t.fld R.HPT_ECC F.HPT_ECC_CORR
                  = min 65535 (s.fld R.HPT_ECC F.HPT_ECC_CORR + ((List.range n).filter fun i => at' i = .single).length)
                ∧ s.sameBut t [R.HPT_ECC] [.bus])
            ∧ ((∀ i, i < n → at' i = .good) → s.sameBut t [R.HPT_STAT, R.HPT_ERRADDR] [.bus, .latches, .pending])
            ∧ s.sameBut t [R.HPT_STAT, R.HPT_ERRADDR, R.HPT_ECC, R.HPT_ECCADDR] [.bus, .latches, .pending])
          ∧ (∀ r, busReg? a = some r → t.bus.hostResponse = 0 ∧ (0 < n → t.bus.hostData.getD 0 0 = (s.regRead r).1)
            ∧ (∀ i, 0 < i → i < n → t.bus.hostData.getD i 0 = 0)
            ∧ (1 < n → t.bit R.HPT_STAT F.HPT_STAT_XTRA = true))))
      ∧ ∀ items : List Word,
        (s.mode = .off → exec (.hostPortWrite size inc addr items) s = .next s)
        ∧ (s.mode ≠ .off → bad → exec (.hostPortWrite size inc addr items) s = .fault .hostMistake)
        ∧ (s.mode ≠ .off → ¬ bad →
          (items = [] → exec (.hostPortWrite size inc addr items) s = .next s)
          ∧ ((region? a).isSome = true → (∃ i, i < items.length ∧ (region? (item i) = region? a ∧ s.putBad (item i) w (items.getD i 0) = true)) →
            exec (.hostPortWrite size inc addr items) s = .fault .hostMistake)
          ∧ ((region? a).isSome = true → (∀ i, i < items.length → region? (item i) = region? a → s.putBad (item i) w (items.getD i 0) = false) →
            ∃ t, exec (.hostPortWrite size inc addr items) s = .next t
            ∧ (inc = true → ∀ i : Nat, i < items.length →
              (if region? (item i) = region? a ∧ region? a ≠ some .flash then
                (if size = 0 then t.byte (item i) = (items.getD i 0).setWidth 8
                 else if size = 1 then t.half (item i) = (items.getD i 0).setWidth 16 else t.word (item i) = items.getD i 0)
               else refused t))
            ∧ (inc = false → items ≠ [] → region? a ≠ some .flash →
                (if size = 0 then t.byte a = (items.getLast?.getD 0).setWidth 8
                 else if size = 1 then t.half a = (items.getLast?.getD 0).setWidth 16 else t.word a = items.getLast?.getD 0))
            ∧ s.leaves t (fun r => r = R.HPT_STAT ∨ r = R.HPT_ERRADDR) [.cores, .latches, .pending]
                (fun b => region? b = region? a ∧ region? a ≠ some .flash ∧ a ≤ b ∧ b < a + items.length * w))
          ∧ (region? a = none → busReg? a = none → items ≠ [] → ∃ t, exec (.hostPortWrite size inc addr items) s = .next t
            ∧ refused t ∧ t.reg R.HPT_ERRADDR = addr ∧ s.sameBut t [R.HPT_STAT, R.HPT_ERRADDR] [.latches, .pending])
          ∧ ((busReg? a).isSome = true → ∀ v, items = [v] →
              exec (.hostPortWrite size inc addr items) s = exec (.registerWrite .host addr v) s))

/-! ### The block as a whole -/

/-- A step takes the command at the front of the queue and answers what `exec` answers on the state with the queue's rest. No row of
the table has bits, so no word spells a command. -/
def Obligations.StepTakesTheFront : Prop :=
  (∀ (c : Instr) (s : State), step { s with pending := c :: s.pending } = exec c s)
    ∧ ∀ (nbits w : Nat) (s : State), decodeTableWord nbits w = none ∧ s.withFetchWord nbits w = s

/-- R43, R66, R269, R413: the state right after reset. The values of log entries 3 to 7 are the model's. -/
def Obligations.ResetLeaves : Prop :=
  let s := State.reset
  s.pending = [] ∧ s.mode = .boot ∧ s.mod.trans = none ∧ s.mod.lock = .none ∧ s.shadow = []
    ∧ (∀ e : Fin 8, (s.engine e).state = .stopped ∧ (s.engine e).evl = 0 ∧ (s.engine e).staging = [] ∧ (s.engine e).calls = []
        ∧ (s.engine e).loops = [])
    ∧ s.evt.pend = 0 ∧ s.evt.act = 0 ∧ s.evt.hold = 0 ∧ (s.core 0).released = false ∧ (s.core 1).released = false
    ∧ s.gdp.en = 0 ∧ s.reg R.SAF_EN = 0 ∧ (∀ n, n < 42 → (s.leg n).hi = false ∧ (s.leg n).lo = false)
    ∧ (∀ b, b < 10 → s.tbRunning b = false)
    ∧ (∀ x : Fin 2, (s.tdu[x]).op = .off ∧ (s.tdu[x]).elim = 0) ∧ s.aux.run = .stopped ∧ s.enp.phase = .idle ∧ (∀ d, s.actState d = 0)
    ∧ (∀ n, n < 256 → s.recState n = 0) ∧ s.twnPhase = 0 ∧ s.saf.stop = none ∧ (∀ j : Fin 8, s.saf.out[j] = .off)
    ∧ s.fld R.SYS_SMPL F.SYS_SMPL_PERIOD = 0x32 ∧ s.fld R.SYS_SMPL F.SYS_SMPL_DIV = 1 ∧ s.bit R.SYS_SMPL F.SYS_SMPL_SRC = false
    ∧ (∀ a, a < 0x26000000 → s.byte a = memDefault a) ∧ s.sound = true

/-- Every step keeps the state sound: memory and registers stay in their canonical form (each address once, in rising order, none at
what an unlisted one reads as), and every engine keeps to four nested calls, four nested loops of at most 65,536 passes and 32
staged stores (R91, R94, R144). -/
def Obligations.EveryStepKeepsTheStateSound : Prop :=
  ∀ s t : State, s.sound = true → step s = .next t → t.sound = true

/-- R122, R123, R126, R130 to R148: every schedule instruction is read back from its words, whichever operands it has, and each one
that words can give has words; words with opcodes that are not listed, or with reserved bits set, are malformed. -/
def Obligations.ScheduleWordsReadBack : Prop :=
  (∀ (i : Instr) (w ext : Word), encodeSched i = some (w, ext) → ∃ e : Fin 8, decodeSched e w ext = some i)
    ∧ (∀ (i : Instr) (e : Fin 8) (w ext : Word), decodeSched e w ext = some i → (encodeSched i).isSome = true)
    ∧ (∀ (e : Fin 8) (w ext : Word), w.bits 31 26 ∈ [0x0D, 0x0E, 0x0F, 0x17] ∨ 0x1C ≤ w.bits 31 26 → decodeSched e w ext = none)
    ∧ ∀ (e : Fin 8) (w ext : Word),
      (w.bits 31 26 = 0x00 → w.bits 25 0 ≠ 0 → decodeSched e w ext = none)
      ∧ (w.bits 31 26 = 0x03 → 8 < w.bits 17 14 → decodeSched e w ext = none)
      ∧ (w.bits 31 26 ∈ [0x12, 0x13] → w.bits 25 17 ≠ 0 → decodeSched e w ext = none)
      ∧ (w.bits 31 26 = 0x09 → w.bit 25 = true → ext.bits 31 24 ≠ 0 → decodeSched e w ext = none)
end

