-- ==== Sys2Proof/Laws/State.lean ====
section
/-!
SUPPORT. What the basic updates of the state leave alone: one lemma for each field and update, true by computation, so that no
proof unfolds a record update. `reg`, `fld`, `bit`, `byte` and the other readings follow their fields.
-/

namespace Sys2Proof.Machine
namespace State

variable (s : State)

/-! ### Registers -/

@[simp] theorem setReg_pending (r : Nat) (w : Word) : (s.setReg r w).pending = s.pending := rfl
@[simp] theorem setReg_variant (r : Nat) (w : Word) : (s.setReg r w).variant = s.variant := rfl
@[simp] theorem setReg_hasB (r : Nat) (w : Word) : (s.setReg r w).hasB = s.hasB := rfl
@[simp] theorem setReg_hasCharger (r : Nat) (w : Word) : (s.setReg r w).hasCharger = s.hasCharger := rfl
@[simp] theorem setReg_hasPairs (r : Nat) (w : Word) : (s.setReg r w).hasPairs = s.hasPairs := rfl
@[simp] theorem setReg_shadow (r : Nat) (w : Word) : (s.setReg r w).shadow = s.shadow := rfl
@[simp] theorem setReg_cleShadow (r : Nat) (w : Word) : (s.setReg r w).cleShadow = s.cleShadow := rfl
@[simp] theorem setReg_mem (r : Nat) (w : Word) : (s.setReg r w).mem = s.mem := rfl
@[simp] theorem setReg_byte (r : Nat) (w : Word) (b : Nat) : (s.setReg r w).byte b = s.byte b := rfl
@[simp] theorem setReg_word (r : Nat) (w : Word) (b : Nat) : (s.setReg r w).word b = s.word b := rfl
@[simp] theorem setReg_mod (r : Nat) (w : Word) : (s.setReg r w).mod = s.mod := rfl
@[simp] theorem setReg_mode (r : Nat) (w : Word) : (s.setReg r w).mode = s.mode := rfl
@[simp] theorem setReg_clk (r : Nat) (w : Word) : (s.setReg r w).clk = s.clk := rfl
@[simp] theorem setReg_seq (r : Nat) (w : Word) : (s.setReg r w).seq = s.seq := rfl
@[simp] theorem setReg_engine (r : Nat) (w : Word) (y : Fin 8) : (s.setReg r w).engine y = s.engine y := rfl
@[simp] theorem setReg_evt (r : Nat) (w : Word) : (s.setReg r w).evt = s.evt := rfl
@[simp] theorem setReg_flash (r : Nat) (w : Word) : (s.setReg r w).flash = s.flash := rfl
@[simp] theorem setReg_bus (r : Nat) (w : Word) : (s.setReg r w).bus = s.bus := rfl
@[simp] theorem setReg_acq (r : Nat) (w : Word) : (s.setReg r w).acq = s.acq := rfl
@[simp] theorem setReg_pos (r : Nat) (w : Word) : (s.setReg r w).pos = s.pos := rfl
@[simp] theorem setReg_cle (r : Nat) (w : Word) : (s.setReg r w).cle = s.cle := rfl
@[simp] theorem setReg_wfu (r : Nat) (w : Word) : (s.setReg r w).wfu = s.wfu := rfl
@[simp] theorem setReg_gdp (r : Nat) (w : Word) : (s.setReg r w).gdp = s.gdp := rfl
@[simp] theorem setReg_tdu (r : Nat) (w : Word) : (s.setReg r w).tdu = s.tdu := rfl
@[simp] theorem setReg_budget (r : Nat) (w : Word) : (s.setReg r w).budget = s.budget := rfl
@[simp] theorem setReg_act (r : Nat) (w : Word) : (s.setReg r w).act = s.act := rfl
@[simp] theorem setReg_aux (r : Nat) (w : Word) : (s.setReg r w).aux = s.aux := rfl
@[simp] theorem setReg_enp (r : Nat) (w : Word) : (s.setReg r w).enp = s.enp := rfl
@[simp] theorem setReg_th (r : Nat) (w : Word) : (s.setReg r w).th = s.th := rfl
@[simp] theorem setReg_gte (r : Nat) (w : Word) : (s.setReg r w).gte = s.gte := rfl
@[simp] theorem setReg_net (r : Nat) (w : Word) : (s.setReg r w).net = s.net := rfl
@[simp] theorem setReg_cnv (r : Nat) (w : Word) : (s.setReg r w).cnv = s.cnv := rfl
@[simp] theorem setReg_twn (r : Nat) (w : Word) : (s.setReg r w).twn = s.twn := rfl
@[simp] theorem setReg_saf (r : Nat) (w : Word) : (s.setReg r w).saf = s.saf := rfl
@[simp] theorem setReg_freeCount (r : Nat) (w : Word) : (s.setReg r w).freeCount = s.freeCount := rfl

@[simp] theorem setFld_pending (r : Nat) (g : Fld) (n : Nat) : (s.setFld r g n).pending = s.pending := rfl
@[simp] theorem setFld_variant (r : Nat) (g : Fld) (n : Nat) : (s.setFld r g n).variant = s.variant := rfl
@[simp] theorem setFld_hasB (r : Nat) (g : Fld) (n : Nat) : (s.setFld r g n).hasB = s.hasB := rfl
@[simp] theorem setFld_hasCharger (r : Nat) (g : Fld) (n : Nat) : (s.setFld r g n).hasCharger = s.hasCharger := rfl
@[simp] theorem setFld_hasPairs (r : Nat) (g : Fld) (n : Nat) : (s.setFld r g n).hasPairs = s.hasPairs := rfl
@[simp] theorem setFld_shadow (r : Nat) (g : Fld) (n : Nat) : (s.setFld r g n).shadow = s.shadow := rfl
@[simp] theorem setFld_cleShadow (r : Nat) (g : Fld) (n : Nat) : (s.setFld r g n).cleShadow = s.cleShadow := rfl
@[simp] theorem setFld_mem (r : Nat) (g : Fld) (n : Nat) : (s.setFld r g n).mem = s.mem := rfl
@[simp] theorem setFld_byte (r : Nat) (g : Fld) (n : Nat) (b : Nat) : (s.setFld r g n).byte b = s.byte b := rfl
@[simp] theorem setFld_word (r : Nat) (g : Fld) (n : Nat) (b : Nat) : (s.setFld r g n).word b = s.word b := rfl
@[simp] theorem setFld_mod (r : Nat) (g : Fld) (n : Nat) : (s.setFld r g n).mod = s.mod := rfl
@[simp] theorem setFld_mode (r : Nat) (g : Fld) (n : Nat) : (s.setFld r g n).mode = s.mode := rfl
@[simp] theorem setFld_clk (r : Nat) (g : Fld) (n : Nat) : (s.setFld r g n).clk = s.clk := rfl
@[simp] theorem setFld_seq (r : Nat) (g : Fld) (n : Nat) : (s.setFld r g n).seq = s.seq := rfl
@[simp] theorem setFld_engine (r : Nat) (g : Fld) (n : Nat) (y : Fin 8) : (s.setFld r g n).engine y = s.engine y := rfl
@[simp] theorem setFld_evt (r : Nat) (g : Fld) (n : Nat) : (s.setFld r g n).evt = s.evt := rfl
@[simp] theorem setFld_flash (r : Nat) (g : Fld) (n : Nat) : (s.setFld r g n).flash = s.flash := rfl
@[simp] theorem setFld_bus (r : Nat) (g : Fld) (n : Nat) : (s.setFld r g n).bus = s.bus := rfl
@[simp] theorem setFld_acq (r : Nat) (g : Fld) (n : Nat) : (s.setFld r g n).acq = s.acq := rfl
@[simp] theorem setFld_pos (r : Nat) (g : Fld) (n : Nat) : (s.setFld r g n).pos = s.pos := rfl
@[simp] theorem setFld_cle (r : Nat) (g : Fld) (n : Nat) : (s.setFld r g n).cle = s.cle := rfl
@[simp] theorem setFld_wfu (r : Nat) (g : Fld) (n : Nat) : (s.setFld r g n).wfu = s.wfu := rfl
@[simp] theorem setFld_gdp (r : Nat) (g : Fld) (n : Nat) : (s.setFld r g n).gdp = s.gdp := rfl
@[simp] theorem setFld_tdu (r : Nat) (g : Fld) (n : Nat) : (s.setFld r g n).tdu = s.tdu := rfl
@[simp] theorem setFld_budget (r : Nat) (g : Fld) (n : Nat) : (s.setFld r g n).budget = s.budget := rfl
@[simp] theorem setFld_act (r : Nat) (g : Fld) (n : Nat) : (s.setFld r g n).act = s.act := rfl
@[simp] theorem setFld_aux (r : Nat) (g : Fld) (n : Nat) : (s.setFld r g n).aux = s.aux := rfl
@[simp] theorem setFld_enp (r : Nat) (g : Fld) (n : Nat) : (s.setFld r g n).enp = s.enp := rfl
@[simp] theorem setFld_th (r : Nat) (g : Fld) (n : Nat) : (s.setFld r g n).th = s.th := rfl
@[simp] theorem setFld_gte (r : Nat) (g : Fld) (n : Nat) : (s.setFld r g n).gte = s.gte := rfl
@[simp] theorem setFld_net (r : Nat) (g : Fld) (n : Nat) : (s.setFld r g n).net = s.net := rfl
@[simp] theorem setFld_cnv (r : Nat) (g : Fld) (n : Nat) : (s.setFld r g n).cnv = s.cnv := rfl
@[simp] theorem setFld_twn (r : Nat) (g : Fld) (n : Nat) : (s.setFld r g n).twn = s.twn := rfl
@[simp] theorem setFld_saf (r : Nat) (g : Fld) (n : Nat) : (s.setFld r g n).saf = s.saf := rfl
@[simp] theorem setFld_freeCount (r : Nat) (g : Fld) (n : Nat) : (s.setFld r g n).freeCount = s.freeCount := rfl

@[simp] theorem countUp_pending (r : Nat) (g : Fld) : (s.countUp r g).pending = s.pending := rfl
@[simp] theorem countUp_variant (r : Nat) (g : Fld) : (s.countUp r g).variant = s.variant := rfl
@[simp] theorem countUp_hasB (r : Nat) (g : Fld) : (s.countUp r g).hasB = s.hasB := rfl
@[simp] theorem countUp_hasCharger (r : Nat) (g : Fld) : (s.countUp r g).hasCharger = s.hasCharger := rfl
@[simp] theorem countUp_hasPairs (r : Nat) (g : Fld) : (s.countUp r g).hasPairs = s.hasPairs := rfl
@[simp] theorem countUp_shadow (r : Nat) (g : Fld) : (s.countUp r g).shadow = s.shadow := rfl
@[simp] theorem countUp_cleShadow (r : Nat) (g : Fld) : (s.countUp r g).cleShadow = s.cleShadow := rfl
@[simp] theorem countUp_mem (r : Nat) (g : Fld) : (s.countUp r g).mem = s.mem := rfl
@[simp] theorem countUp_byte (r : Nat) (g : Fld) (b : Nat) : (s.countUp r g).byte b = s.byte b := rfl
@[simp] theorem countUp_word (r : Nat) (g : Fld) (b : Nat) : (s.countUp r g).word b = s.word b := rfl
@[simp] theorem countUp_mod (r : Nat) (g : Fld) : (s.countUp r g).mod = s.mod := rfl
@[simp] theorem countUp_mode (r : Nat) (g : Fld) : (s.countUp r g).mode = s.mode := rfl
@[simp] theorem countUp_clk (r : Nat) (g : Fld) : (s.countUp r g).clk = s.clk := rfl
@[simp] theorem countUp_seq (r : Nat) (g : Fld) : (s.countUp r g).seq = s.seq := rfl
@[simp] theorem countUp_engine (r : Nat) (g : Fld) (y : Fin 8) : (s.countUp r g).engine y = s.engine y := rfl
@[simp] theorem countUp_evt (r : Nat) (g : Fld) : (s.countUp r g).evt = s.evt := rfl
@[simp] theorem countUp_flash (r : Nat) (g : Fld) : (s.countUp r g).flash = s.flash := rfl
@[simp] theorem countUp_bus (r : Nat) (g : Fld) : (s.countUp r g).bus = s.bus := rfl
@[simp] theorem countUp_acq (r : Nat) (g : Fld) : (s.countUp r g).acq = s.acq := rfl
@[simp] theorem countUp_pos (r : Nat) (g : Fld) : (s.countUp r g).pos = s.pos := rfl
@[simp] theorem countUp_cle (r : Nat) (g : Fld) : (s.countUp r g).cle = s.cle := rfl
@[simp] theorem countUp_wfu (r : Nat) (g : Fld) : (s.countUp r g).wfu = s.wfu := rfl
@[simp] theorem countUp_gdp (r : Nat) (g : Fld) : (s.countUp r g).gdp = s.gdp := rfl
@[simp] theorem countUp_tdu (r : Nat) (g : Fld) : (s.countUp r g).tdu = s.tdu := rfl
@[simp] theorem countUp_budget (r : Nat) (g : Fld) : (s.countUp r g).budget = s.budget := rfl
@[simp] theorem countUp_act (r : Nat) (g : Fld) : (s.countUp r g).act = s.act := rfl
@[simp] theorem countUp_aux (r : Nat) (g : Fld) : (s.countUp r g).aux = s.aux := rfl
@[simp] theorem countUp_enp (r : Nat) (g : Fld) : (s.countUp r g).enp = s.enp := rfl
@[simp] theorem countUp_th (r : Nat) (g : Fld) : (s.countUp r g).th = s.th := rfl
@[simp] theorem countUp_gte (r : Nat) (g : Fld) : (s.countUp r g).gte = s.gte := rfl
@[simp] theorem countUp_net (r : Nat) (g : Fld) : (s.countUp r g).net = s.net := rfl
@[simp] theorem countUp_cnv (r : Nat) (g : Fld) : (s.countUp r g).cnv = s.cnv := rfl
@[simp] theorem countUp_twn (r : Nat) (g : Fld) : (s.countUp r g).twn = s.twn := rfl
@[simp] theorem countUp_saf (r : Nat) (g : Fld) : (s.countUp r g).saf = s.saf := rfl
@[simp] theorem countUp_freeCount (r : Nat) (g : Fld) : (s.countUp r g).freeCount = s.freeCount := rfl

@[simp] theorem raise_pending (r : Nat) (g : Fld) : (s.raise r g).pending = s.pending := rfl
@[simp] theorem raise_variant (r : Nat) (g : Fld) : (s.raise r g).variant = s.variant := rfl
@[simp] theorem raise_hasB (r : Nat) (g : Fld) : (s.raise r g).hasB = s.hasB := rfl
@[simp] theorem raise_hasCharger (r : Nat) (g : Fld) : (s.raise r g).hasCharger = s.hasCharger := rfl
@[simp] theorem raise_hasPairs (r : Nat) (g : Fld) : (s.raise r g).hasPairs = s.hasPairs := rfl
@[simp] theorem raise_shadow (r : Nat) (g : Fld) : (s.raise r g).shadow = s.shadow := rfl
@[simp] theorem raise_cleShadow (r : Nat) (g : Fld) : (s.raise r g).cleShadow = s.cleShadow := rfl
@[simp] theorem raise_mem (r : Nat) (g : Fld) : (s.raise r g).mem = s.mem := rfl
@[simp] theorem raise_byte (r : Nat) (g : Fld) (b : Nat) : (s.raise r g).byte b = s.byte b := rfl
@[simp] theorem raise_word (r : Nat) (g : Fld) (b : Nat) : (s.raise r g).word b = s.word b := rfl
@[simp] theorem raise_mod (r : Nat) (g : Fld) : (s.raise r g).mod = s.mod := rfl
@[simp] theorem raise_mode (r : Nat) (g : Fld) : (s.raise r g).mode = s.mode := rfl
@[simp] theorem raise_clk (r : Nat) (g : Fld) : (s.raise r g).clk = s.clk := rfl
@[simp] theorem raise_seq (r : Nat) (g : Fld) : (s.raise r g).seq = s.seq := rfl
@[simp] theorem raise_engine (r : Nat) (g : Fld) (y : Fin 8) : (s.raise r g).engine y = s.engine y := rfl
@[simp] theorem raise_evt (r : Nat) (g : Fld) : (s.raise r g).evt = s.evt := rfl
@[simp] theorem raise_flash (r : Nat) (g : Fld) : (s.raise r g).flash = s.flash := rfl
@[simp] theorem raise_bus (r : Nat) (g : Fld) : (s.raise r g).bus = s.bus := rfl
@[simp] theorem raise_acq (r : Nat) (g : Fld) : (s.raise r g).acq = s.acq := rfl
@[simp] theorem raise_pos (r : Nat) (g : Fld) : (s.raise r g).pos = s.pos := rfl
@[simp] theorem raise_cle (r : Nat) (g : Fld) : (s.raise r g).cle = s.cle := rfl
@[simp] theorem raise_wfu (r : Nat) (g : Fld) : (s.raise r g).wfu = s.wfu := rfl
@[simp] theorem raise_gdp (r : Nat) (g : Fld) : (s.raise r g).gdp = s.gdp := rfl
@[simp] theorem raise_tdu (r : Nat) (g : Fld) : (s.raise r g).tdu = s.tdu := rfl
@[simp] theorem raise_budget (r : Nat) (g : Fld) : (s.raise r g).budget = s.budget := rfl
@[simp] theorem raise_act (r : Nat) (g : Fld) : (s.raise r g).act = s.act := rfl
@[simp] theorem raise_aux (r : Nat) (g : Fld) : (s.raise r g).aux = s.aux := rfl
@[simp] theorem raise_enp (r : Nat) (g : Fld) : (s.raise r g).enp = s.enp := rfl
@[simp] theorem raise_th (r : Nat) (g : Fld) : (s.raise r g).th = s.th := rfl
@[simp] theorem raise_gte (r : Nat) (g : Fld) : (s.raise r g).gte = s.gte := rfl
@[simp] theorem raise_net (r : Nat) (g : Fld) : (s.raise r g).net = s.net := rfl
@[simp] theorem raise_cnv (r : Nat) (g : Fld) : (s.raise r g).cnv = s.cnv := rfl
@[simp] theorem raise_twn (r : Nat) (g : Fld) : (s.raise r g).twn = s.twn := rfl
@[simp] theorem raise_saf (r : Nat) (g : Fld) : (s.raise r g).saf = s.saf := rfl
@[simp] theorem raise_freeCount (r : Nat) (g : Fld) : (s.raise r g).freeCount = s.freeCount := rfl

/-! ### Shadows -/

@[simp] theorem setShadow_pending (r : Nat) (w : Word) : (s.setShadow r w).pending = s.pending := rfl
@[simp] theorem setShadow_variant (r : Nat) (w : Word) : (s.setShadow r w).variant = s.variant := rfl
@[simp] theorem setShadow_hasB (r : Nat) (w : Word) : (s.setShadow r w).hasB = s.hasB := rfl
@[simp] theorem setShadow_hasCharger (r : Nat) (w : Word) : (s.setShadow r w).hasCharger = s.hasCharger := rfl
@[simp] theorem setShadow_hasPairs (r : Nat) (w : Word) : (s.setShadow r w).hasPairs = s.hasPairs := rfl
@[simp] theorem setShadow_regs (r : Nat) (w : Word) : (s.setShadow r w).regs = s.regs := rfl
@[simp] theorem setShadow_reg (r : Nat) (w : Word) (q : Nat) : (s.setShadow r w).reg q = s.reg q := rfl
@[simp] theorem setShadow_fld (r : Nat) (w : Word) (q : Nat) (y : Fld) : (s.setShadow r w).fld q y = s.fld q y := rfl
@[simp] theorem setShadow_bit (r : Nat) (w : Word) (q : Nat) (y : Fld) : (s.setShadow r w).bit q y = s.bit q y := rfl
@[simp] theorem setShadow_nreg (r : Nat) (w : Word) (q : Nat) : (s.setShadow r w).nreg q = s.nreg q := rfl
@[simp] theorem setShadow_now (r : Nat) (w : Word) : (s.setShadow r w).now = s.now := rfl
@[simp] theorem setShadow_cleShadow (r : Nat) (w : Word) : (s.setShadow r w).cleShadow = s.cleShadow := rfl
@[simp] theorem setShadow_mem (r : Nat) (w : Word) : (s.setShadow r w).mem = s.mem := rfl
@[simp] theorem setShadow_byte (r : Nat) (w : Word) (b : Nat) : (s.setShadow r w).byte b = s.byte b := rfl
@[simp] theorem setShadow_word (r : Nat) (w : Word) (b : Nat) : (s.setShadow r w).word b = s.word b := rfl
@[simp] theorem setShadow_mod (r : Nat) (w : Word) : (s.setShadow r w).mod = s.mod := rfl
@[simp] theorem setShadow_mode (r : Nat) (w : Word) : (s.setShadow r w).mode = s.mode := rfl
@[simp] theorem setShadow_clk (r : Nat) (w : Word) : (s.setShadow r w).clk = s.clk := rfl
@[simp] theorem setShadow_seq (r : Nat) (w : Word) : (s.setShadow r w).seq = s.seq := rfl
@[simp] theorem setShadow_engine (r : Nat) (w : Word) (y : Fin 8) : (s.setShadow r w).engine y = s.engine y := rfl
@[simp] theorem setShadow_evt (r : Nat) (w : Word) : (s.setShadow r w).evt = s.evt := rfl
@[simp] theorem setShadow_flash (r : Nat) (w : Word) : (s.setShadow r w).flash = s.flash := rfl
@[simp] theorem setShadow_bus (r : Nat) (w : Word) : (s.setShadow r w).bus = s.bus := rfl
@[simp] theorem setShadow_acq (r : Nat) (w : Word) : (s.setShadow r w).acq = s.acq := rfl
@[simp] theorem setShadow_pos (r : Nat) (w : Word) : (s.setShadow r w).pos = s.pos := rfl
@[simp] theorem setShadow_cle (r : Nat) (w : Word) : (s.setShadow r w).cle = s.cle := rfl
@[simp] theorem setShadow_wfu (r : Nat) (w : Word) : (s.setShadow r w).wfu = s.wfu := rfl
@[simp] theorem setShadow_gdp (r : Nat) (w : Word) : (s.setShadow r w).gdp = s.gdp := rfl
@[simp] theorem setShadow_tdu (r : Nat) (w : Word) : (s.setShadow r w).tdu = s.tdu := rfl
@[simp] theorem setShadow_budget (r : Nat) (w : Word) : (s.setShadow r w).budget = s.budget := rfl
@[simp] theorem setShadow_act (r : Nat) (w : Word) : (s.setShadow r w).act = s.act := rfl
@[simp] theorem setShadow_aux (r : Nat) (w : Word) : (s.setShadow r w).aux = s.aux := rfl
@[simp] theorem setShadow_enp (r : Nat) (w : Word) : (s.setShadow r w).enp = s.enp := rfl
@[simp] theorem setShadow_th (r : Nat) (w : Word) : (s.setShadow r w).th = s.th := rfl
@[simp] theorem setShadow_gte (r : Nat) (w : Word) : (s.setShadow r w).gte = s.gte := rfl
@[simp] theorem setShadow_net (r : Nat) (w : Word) : (s.setShadow r w).net = s.net := rfl
@[simp] theorem setShadow_cnv (r : Nat) (w : Word) : (s.setShadow r w).cnv = s.cnv := rfl
@[simp] theorem setShadow_twn (r : Nat) (w : Word) : (s.setShadow r w).twn = s.twn := rfl
@[simp] theorem setShadow_saf (r : Nat) (w : Word) : (s.setShadow r w).saf = s.saf := rfl
@[simp] theorem setShadow_freeCount (r : Nat) (w : Word) : (s.setShadow r w).freeCount = s.freeCount := rfl

@[simp] theorem setCleShadow_pending (r : Nat) (w : Word) : (s.setCleShadow r w).pending = s.pending := rfl
@[simp] theorem setCleShadow_variant (r : Nat) (w : Word) : (s.setCleShadow r w).variant = s.variant := rfl
@[simp] theorem setCleShadow_hasB (r : Nat) (w : Word) : (s.setCleShadow r w).hasB = s.hasB := rfl
@[simp] theorem setCleShadow_hasCharger (r : Nat) (w : Word) : (s.setCleShadow r w).hasCharger = s.hasCharger := rfl
@[simp] theorem setCleShadow_hasPairs (r : Nat) (w : Word) : (s.setCleShadow r w).hasPairs = s.hasPairs := rfl
@[simp] theorem setCleShadow_regs (r : Nat) (w : Word) : (s.setCleShadow r w).regs = s.regs := rfl
@[simp] theorem setCleShadow_reg (r : Nat) (w : Word) (q : Nat) : (s.setCleShadow r w).reg q = s.reg q := rfl
@[simp] theorem setCleShadow_fld (r : Nat) (w : Word) (q : Nat) (y : Fld) : (s.setCleShadow r w).fld q y = s.fld q y := rfl
@[simp] theorem setCleShadow_bit (r : Nat) (w : Word) (q : Nat) (y : Fld) : (s.setCleShadow r w).bit q y = s.bit q y := rfl
@[simp] theorem setCleShadow_nreg (r : Nat) (w : Word) (q : Nat) : (s.setCleShadow r w).nreg q = s.nreg q := rfl
@[simp] theorem setCleShadow_now (r : Nat) (w : Word) : (s.setCleShadow r w).now = s.now := rfl
@[simp] theorem setCleShadow_shadow (r : Nat) (w : Word) : (s.setCleShadow r w).shadow = s.shadow := rfl
@[simp] theorem setCleShadow_mem (r : Nat) (w : Word) : (s.setCleShadow r w).mem = s.mem := rfl
@[simp] theorem setCleShadow_byte (r : Nat) (w : Word) (b : Nat) : (s.setCleShadow r w).byte b = s.byte b := rfl
@[simp] theorem setCleShadow_word (r : Nat) (w : Word) (b : Nat) : (s.setCleShadow r w).word b = s.word b := rfl
@[simp] theorem setCleShadow_mod (r : Nat) (w : Word) : (s.setCleShadow r w).mod = s.mod := rfl
@[simp] theorem setCleShadow_mode (r : Nat) (w : Word) : (s.setCleShadow r w).mode = s.mode := rfl
@[simp] theorem setCleShadow_clk (r : Nat) (w : Word) : (s.setCleShadow r w).clk = s.clk := rfl
@[simp] theorem setCleShadow_seq (r : Nat) (w : Word) : (s.setCleShadow r w).seq = s.seq := rfl
@[simp] theorem setCleShadow_engine (r : Nat) (w : Word) (y : Fin 8) : (s.setCleShadow r w).engine y = s.engine y := rfl
@[simp] theorem setCleShadow_evt (r : Nat) (w : Word) : (s.setCleShadow r w).evt = s.evt := rfl
@[simp] theorem setCleShadow_flash (r : Nat) (w : Word) : (s.setCleShadow r w).flash = s.flash := rfl
@[simp] theorem setCleShadow_bus (r : Nat) (w : Word) : (s.setCleShadow r w).bus = s.bus := rfl
@[simp] theorem setCleShadow_acq (r : Nat) (w : Word) : (s.setCleShadow r w).acq = s.acq := rfl
@[simp] theorem setCleShadow_pos (r : Nat) (w : Word) : (s.setCleShadow r w).pos = s.pos := rfl
@[simp] theorem setCleShadow_cle (r : Nat) (w : Word) : (s.setCleShadow r w).cle = s.cle := rfl
@[simp] theorem setCleShadow_wfu (r : Nat) (w : Word) : (s.setCleShadow r w).wfu = s.wfu := rfl
@[simp] theorem setCleShadow_gdp (r : Nat) (w : Word) : (s.setCleShadow r w).gdp = s.gdp := rfl
@[simp] theorem setCleShadow_tdu (r : Nat) (w : Word) : (s.setCleShadow r w).tdu = s.tdu := rfl
@[simp] theorem setCleShadow_budget (r : Nat) (w : Word) : (s.setCleShadow r w).budget = s.budget := rfl
@[simp] theorem setCleShadow_act (r : Nat) (w : Word) : (s.setCleShadow r w).act = s.act := rfl
@[simp] theorem setCleShadow_aux (r : Nat) (w : Word) : (s.setCleShadow r w).aux = s.aux := rfl
@[simp] theorem setCleShadow_enp (r : Nat) (w : Word) : (s.setCleShadow r w).enp = s.enp := rfl
@[simp] theorem setCleShadow_th (r : Nat) (w : Word) : (s.setCleShadow r w).th = s.th := rfl
@[simp] theorem setCleShadow_gte (r : Nat) (w : Word) : (s.setCleShadow r w).gte = s.gte := rfl
@[simp] theorem setCleShadow_net (r : Nat) (w : Word) : (s.setCleShadow r w).net = s.net := rfl
@[simp] theorem setCleShadow_cnv (r : Nat) (w : Word) : (s.setCleShadow r w).cnv = s.cnv := rfl
@[simp] theorem setCleShadow_twn (r : Nat) (w : Word) : (s.setCleShadow r w).twn = s.twn := rfl
@[simp] theorem setCleShadow_saf (r : Nat) (w : Word) : (s.setCleShadow r w).saf = s.saf := rfl
@[simp] theorem setCleShadow_freeCount (r : Nat) (w : Word) : (s.setCleShadow r w).freeCount = s.freeCount := rfl

/-! ### Memory -/

@[simp] theorem setByte_pending (a : Nat) (w : Byte) : (s.setByte a w).pending = s.pending := rfl
@[simp] theorem setByte_variant (a : Nat) (w : Byte) : (s.setByte a w).variant = s.variant := rfl
@[simp] theorem setByte_hasB (a : Nat) (w : Byte) : (s.setByte a w).hasB = s.hasB := rfl
@[simp] theorem setByte_hasCharger (a : Nat) (w : Byte) : (s.setByte a w).hasCharger = s.hasCharger := rfl
@[simp] theorem setByte_hasPairs (a : Nat) (w : Byte) : (s.setByte a w).hasPairs = s.hasPairs := rfl
@[simp] theorem setByte_regs (a : Nat) (w : Byte) : (s.setByte a w).regs = s.regs := rfl
@[simp] theorem setByte_reg (a : Nat) (w : Byte) (q : Nat) : (s.setByte a w).reg q = s.reg q := rfl
@[simp] theorem setByte_fld (a : Nat) (w : Byte) (q : Nat) (y : Fld) : (s.setByte a w).fld q y = s.fld q y := rfl
@[simp] theorem setByte_bit (a : Nat) (w : Byte) (q : Nat) (y : Fld) : (s.setByte a w).bit q y = s.bit q y := rfl
@[simp] theorem setByte_nreg (a : Nat) (w : Byte) (q : Nat) : (s.setByte a w).nreg q = s.nreg q := rfl
@[simp] theorem setByte_now (a : Nat) (w : Byte) : (s.setByte a w).now = s.now := rfl
@[simp] theorem setByte_shadow (a : Nat) (w : Byte) : (s.setByte a w).shadow = s.shadow := rfl
@[simp] theorem setByte_cleShadow (a : Nat) (w : Byte) : (s.setByte a w).cleShadow = s.cleShadow := rfl
@[simp] theorem setByte_mod (a : Nat) (w : Byte) : (s.setByte a w).mod = s.mod := rfl
@[simp] theorem setByte_mode (a : Nat) (w : Byte) : (s.setByte a w).mode = s.mode := rfl
@[simp] theorem setByte_clk (a : Nat) (w : Byte) : (s.setByte a w).clk = s.clk := rfl
@[simp] theorem setByte_seq (a : Nat) (w : Byte) : (s.setByte a w).seq = s.seq := rfl
@[simp] theorem setByte_engine (a : Nat) (w : Byte) (y : Fin 8) : (s.setByte a w).engine y = s.engine y := rfl
@[simp] theorem setByte_evt (a : Nat) (w : Byte) : (s.setByte a w).evt = s.evt := rfl
@[simp] theorem setByte_flash (a : Nat) (w : Byte) : (s.setByte a w).flash = s.flash := rfl
@[simp] theorem setByte_bus (a : Nat) (w : Byte) : (s.setByte a w).bus = s.bus := rfl
@[simp] theorem setByte_acq (a : Nat) (w : Byte) : (s.setByte a w).acq = s.acq := rfl
@[simp] theorem setByte_pos (a : Nat) (w : Byte) : (s.setByte a w).pos = s.pos := rfl
@[simp] theorem setByte_cle (a : Nat) (w : Byte) : (s.setByte a w).cle = s.cle := rfl
@[simp] theorem setByte_wfu (a : Nat) (w : Byte) : (s.setByte a w).wfu = s.wfu := rfl
@[simp] theorem setByte_gdp (a : Nat) (w : Byte) : (s.setByte a w).gdp = s.gdp := rfl
@[simp] theorem setByte_tdu (a : Nat) (w : Byte) : (s.setByte a w).tdu = s.tdu := rfl
@[simp] theorem setByte_budget (a : Nat) (w : Byte) : (s.setByte a w).budget = s.budget := rfl
@[simp] theorem setByte_act (a : Nat) (w : Byte) : (s.setByte a w).act = s.act := rfl
@[simp] theorem setByte_aux (a : Nat) (w : Byte) : (s.setByte a w).aux = s.aux := rfl
@[simp] theorem setByte_enp (a : Nat) (w : Byte) : (s.setByte a w).enp = s.enp := rfl
@[simp] theorem setByte_th (a : Nat) (w : Byte) : (s.setByte a w).th = s.th := rfl
@[simp] theorem setByte_gte (a : Nat) (w : Byte) : (s.setByte a w).gte = s.gte := rfl
@[simp] theorem setByte_net (a : Nat) (w : Byte) : (s.setByte a w).net = s.net := rfl
@[simp] theorem setByte_cnv (a : Nat) (w : Byte) : (s.setByte a w).cnv = s.cnv := rfl
@[simp] theorem setByte_twn (a : Nat) (w : Byte) : (s.setByte a w).twn = s.twn := rfl
@[simp] theorem setByte_saf (a : Nat) (w : Byte) : (s.setByte a w).saf = s.saf := rfl
@[simp] theorem setByte_freeCount (a : Nat) (w : Byte) : (s.setByte a w).freeCount = s.freeCount := rfl

@[simp] theorem setHalf_pending (a : Nat) (w : BitVec 16) : (s.setHalf a w).pending = s.pending := rfl
@[simp] theorem setHalf_variant (a : Nat) (w : BitVec 16) : (s.setHalf a w).variant = s.variant := rfl
@[simp] theorem setHalf_hasB (a : Nat) (w : BitVec 16) : (s.setHalf a w).hasB = s.hasB := rfl
@[simp] theorem setHalf_hasCharger (a : Nat) (w : BitVec 16) : (s.setHalf a w).hasCharger = s.hasCharger := rfl
@[simp] theorem setHalf_hasPairs (a : Nat) (w : BitVec 16) : (s.setHalf a w).hasPairs = s.hasPairs := rfl
@[simp] theorem setHalf_regs (a : Nat) (w : BitVec 16) : (s.setHalf a w).regs = s.regs := rfl
@[simp] theorem setHalf_reg (a : Nat) (w : BitVec 16) (q : Nat) : (s.setHalf a w).reg q = s.reg q := rfl
@[simp] theorem setHalf_fld (a : Nat) (w : BitVec 16) (q : Nat) (y : Fld) : (s.setHalf a w).fld q y = s.fld q y := rfl
@[simp] theorem setHalf_bit (a : Nat) (w : BitVec 16) (q : Nat) (y : Fld) : (s.setHalf a w).bit q y = s.bit q y := rfl
@[simp] theorem setHalf_nreg (a : Nat) (w : BitVec 16) (q : Nat) : (s.setHalf a w).nreg q = s.nreg q := rfl
@[simp] theorem setHalf_now (a : Nat) (w : BitVec 16) : (s.setHalf a w).now = s.now := rfl
@[simp] theorem setHalf_shadow (a : Nat) (w : BitVec 16) : (s.setHalf a w).shadow = s.shadow := rfl
@[simp] theorem setHalf_cleShadow (a : Nat) (w : BitVec 16) : (s.setHalf a w).cleShadow = s.cleShadow := rfl
@[simp] theorem setHalf_mod (a : Nat) (w : BitVec 16) : (s.setHalf a w).mod = s.mod := rfl
@[simp] theorem setHalf_mode (a : Nat) (w : BitVec 16) : (s.setHalf a w).mode = s.mode := rfl
@[simp] theorem setHalf_clk (a : Nat) (w : BitVec 16) : (s.setHalf a w).clk = s.clk := rfl
@[simp] theorem setHalf_seq (a : Nat) (w : BitVec 16) : (s.setHalf a w).seq = s.seq := rfl
@[simp] theorem setHalf_engine (a : Nat) (w : BitVec 16) (y : Fin 8) : (s.setHalf a w).engine y = s.engine y := rfl
@[simp] theorem setHalf_evt (a : Nat) (w : BitVec 16) : (s.setHalf a w).evt = s.evt := rfl
@[simp] theorem setHalf_flash (a : Nat) (w : BitVec 16) : (s.setHalf a w).flash = s.flash := rfl
@[simp] theorem setHalf_bus (a : Nat) (w : BitVec 16) : (s.setHalf a w).bus = s.bus := rfl
@[simp] theorem setHalf_acq (a : Nat) (w : BitVec 16) : (s.setHalf a w).acq = s.acq := rfl
@[simp] theorem setHalf_pos (a : Nat) (w : BitVec 16) : (s.setHalf a w).pos = s.pos := rfl
@[simp] theorem setHalf_cle (a : Nat) (w : BitVec 16) : (s.setHalf a w).cle = s.cle := rfl
@[simp] theorem setHalf_wfu (a : Nat) (w : BitVec 16) : (s.setHalf a w).wfu = s.wfu := rfl
@[simp] theorem setHalf_gdp (a : Nat) (w : BitVec 16) : (s.setHalf a w).gdp = s.gdp := rfl
@[simp] theorem setHalf_tdu (a : Nat) (w : BitVec 16) : (s.setHalf a w).tdu = s.tdu := rfl
@[simp] theorem setHalf_budget (a : Nat) (w : BitVec 16) : (s.setHalf a w).budget = s.budget := rfl
@[simp] theorem setHalf_act (a : Nat) (w : BitVec 16) : (s.setHalf a w).act = s.act := rfl
@[simp] theorem setHalf_aux (a : Nat) (w : BitVec 16) : (s.setHalf a w).aux = s.aux := rfl
@[simp] theorem setHalf_enp (a : Nat) (w : BitVec 16) : (s.setHalf a w).enp = s.enp := rfl
@[simp] theorem setHalf_th (a : Nat) (w : BitVec 16) : (s.setHalf a w).th = s.th := rfl
@[simp] theorem setHalf_gte (a : Nat) (w : BitVec 16) : (s.setHalf a w).gte = s.gte := rfl
@[simp] theorem setHalf_net (a : Nat) (w : BitVec 16) : (s.setHalf a w).net = s.net := rfl
@[simp] theorem setHalf_cnv (a : Nat) (w : BitVec 16) : (s.setHalf a w).cnv = s.cnv := rfl
@[simp] theorem setHalf_twn (a : Nat) (w : BitVec 16) : (s.setHalf a w).twn = s.twn := rfl
@[simp] theorem setHalf_saf (a : Nat) (w : BitVec 16) : (s.setHalf a w).saf = s.saf := rfl
@[simp] theorem setHalf_freeCount (a : Nat) (w : BitVec 16) : (s.setHalf a w).freeCount = s.freeCount := rfl

@[simp] theorem setWord_pending (a : Nat) (w : Word) : (s.setWord a w).pending = s.pending := rfl
@[simp] theorem setWord_variant (a : Nat) (w : Word) : (s.setWord a w).variant = s.variant := rfl
@[simp] theorem setWord_hasB (a : Nat) (w : Word) : (s.setWord a w).hasB = s.hasB := rfl
@[simp] theorem setWord_hasCharger (a : Nat) (w : Word) : (s.setWord a w).hasCharger = s.hasCharger := rfl
@[simp] theorem setWord_hasPairs (a : Nat) (w : Word) : (s.setWord a w).hasPairs = s.hasPairs := rfl
@[simp] theorem setWord_regs (a : Nat) (w : Word) : (s.setWord a w).regs = s.regs := rfl
@[simp] theorem setWord_reg (a : Nat) (w : Word) (q : Nat) : (s.setWord a w).reg q = s.reg q := rfl
@[simp] theorem setWord_fld (a : Nat) (w : Word) (q : Nat) (y : Fld) : (s.setWord a w).fld q y = s.fld q y := rfl
@[simp] theorem setWord_bit (a : Nat) (w : Word) (q : Nat) (y : Fld) : (s.setWord a w).bit q y = s.bit q y := rfl
@[simp] theorem setWord_nreg (a : Nat) (w : Word) (q : Nat) : (s.setWord a w).nreg q = s.nreg q := rfl
@[simp] theorem setWord_now (a : Nat) (w : Word) : (s.setWord a w).now = s.now := rfl
@[simp] theorem setWord_shadow (a : Nat) (w : Word) : (s.setWord a w).shadow = s.shadow := rfl
@[simp] theorem setWord_cleShadow (a : Nat) (w : Word) : (s.setWord a w).cleShadow = s.cleShadow := rfl
@[simp] theorem setWord_mod (a : Nat) (w : Word) : (s.setWord a w).mod = s.mod := rfl
@[simp] theorem setWord_mode (a : Nat) (w : Word) : (s.setWord a w).mode = s.mode := rfl
@[simp] theorem setWord_clk (a : Nat) (w : Word) : (s.setWord a w).clk = s.clk := rfl
@[simp] theorem setWord_seq (a : Nat) (w : Word) : (s.setWord a w).seq = s.seq := rfl
@[simp] theorem setWord_engine (a : Nat) (w : Word) (y : Fin 8) : (s.setWord a w).engine y = s.engine y := rfl
@[simp] theorem setWord_evt (a : Nat) (w : Word) : (s.setWord a w).evt = s.evt := rfl
@[simp] theorem setWord_flash (a : Nat) (w : Word) : (s.setWord a w).flash = s.flash := rfl
@[simp] theorem setWord_bus (a : Nat) (w : Word) : (s.setWord a w).bus = s.bus := rfl
@[simp] theorem setWord_acq (a : Nat) (w : Word) : (s.setWord a w).acq = s.acq := rfl
@[simp] theorem setWord_pos (a : Nat) (w : Word) : (s.setWord a w).pos = s.pos := rfl
@[simp] theorem setWord_cle (a : Nat) (w : Word) : (s.setWord a w).cle = s.cle := rfl
@[simp] theorem setWord_wfu (a : Nat) (w : Word) : (s.setWord a w).wfu = s.wfu := rfl
@[simp] theorem setWord_gdp (a : Nat) (w : Word) : (s.setWord a w).gdp = s.gdp := rfl
@[simp] theorem setWord_tdu (a : Nat) (w : Word) : (s.setWord a w).tdu = s.tdu := rfl
@[simp] theorem setWord_budget (a : Nat) (w : Word) : (s.setWord a w).budget = s.budget := rfl
@[simp] theorem setWord_act (a : Nat) (w : Word) : (s.setWord a w).act = s.act := rfl
@[simp] theorem setWord_aux (a : Nat) (w : Word) : (s.setWord a w).aux = s.aux := rfl
@[simp] theorem setWord_enp (a : Nat) (w : Word) : (s.setWord a w).enp = s.enp := rfl
@[simp] theorem setWord_th (a : Nat) (w : Word) : (s.setWord a w).th = s.th := rfl
@[simp] theorem setWord_gte (a : Nat) (w : Word) : (s.setWord a w).gte = s.gte := rfl
@[simp] theorem setWord_net (a : Nat) (w : Word) : (s.setWord a w).net = s.net := rfl
@[simp] theorem setWord_cnv (a : Nat) (w : Word) : (s.setWord a w).cnv = s.cnv := rfl
@[simp] theorem setWord_twn (a : Nat) (w : Word) : (s.setWord a w).twn = s.twn := rfl
@[simp] theorem setWord_saf (a : Nat) (w : Word) : (s.setWord a w).saf = s.saf := rfl
@[simp] theorem setWord_freeCount (a : Nat) (w : Word) : (s.setWord a w).freeCount = s.freeCount := rfl

/-! ### Events and free values -/

@[simp] theorem fire_pending (n : Nat) : (s.fire n).pending = s.pending := rfl
@[simp] theorem fire_variant (n : Nat) : (s.fire n).variant = s.variant := rfl
@[simp] theorem fire_hasB (n : Nat) : (s.fire n).hasB = s.hasB := rfl
@[simp] theorem fire_hasCharger (n : Nat) : (s.fire n).hasCharger = s.hasCharger := rfl
@[simp] theorem fire_hasPairs (n : Nat) : (s.fire n).hasPairs = s.hasPairs := rfl
@[simp] theorem fire_regs (n : Nat) : (s.fire n).regs = s.regs := rfl
@[simp] theorem fire_reg (n : Nat) (q : Nat) : (s.fire n).reg q = s.reg q := rfl
@[simp] theorem fire_fld (n : Nat) (q : Nat) (y : Fld) : (s.fire n).fld q y = s.fld q y := rfl
@[simp] theorem fire_bit (n : Nat) (q : Nat) (y : Fld) : (s.fire n).bit q y = s.bit q y := rfl
@[simp] theorem fire_nreg (n : Nat) (q : Nat) : (s.fire n).nreg q = s.nreg q := rfl
@[simp] theorem fire_now (n : Nat) : (s.fire n).now = s.now := rfl
@[simp] theorem fire_shadow (n : Nat) : (s.fire n).shadow = s.shadow := rfl
@[simp] theorem fire_cleShadow (n : Nat) : (s.fire n).cleShadow = s.cleShadow := rfl
@[simp] theorem fire_mem (n : Nat) : (s.fire n).mem = s.mem := rfl
@[simp] theorem fire_byte (n : Nat) (b : Nat) : (s.fire n).byte b = s.byte b := rfl
@[simp] theorem fire_word (n : Nat) (b : Nat) : (s.fire n).word b = s.word b := rfl
@[simp] theorem fire_mod (n : Nat) : (s.fire n).mod = s.mod := rfl
@[simp] theorem fire_mode (n : Nat) : (s.fire n).mode = s.mode := rfl
@[simp] theorem fire_clk (n : Nat) : (s.fire n).clk = s.clk := rfl
@[simp] theorem fire_flash (n : Nat) : (s.fire n).flash = s.flash := rfl
@[simp] theorem fire_bus (n : Nat) : (s.fire n).bus = s.bus := rfl
@[simp] theorem fire_acq (n : Nat) : (s.fire n).acq = s.acq := rfl
@[simp] theorem fire_pos (n : Nat) : (s.fire n).pos = s.pos := rfl
@[simp] theorem fire_cle (n : Nat) : (s.fire n).cle = s.cle := rfl
@[simp] theorem fire_wfu (n : Nat) : (s.fire n).wfu = s.wfu := rfl
@[simp] theorem fire_gdp (n : Nat) : (s.fire n).gdp = s.gdp := rfl
@[simp] theorem fire_tdu (n : Nat) : (s.fire n).tdu = s.tdu := rfl
@[simp] theorem fire_budget (n : Nat) : (s.fire n).budget = s.budget := rfl
@[simp] theorem fire_act (n : Nat) : (s.fire n).act = s.act := rfl
@[simp] theorem fire_aux (n : Nat) : (s.fire n).aux = s.aux := rfl
@[simp] theorem fire_enp (n : Nat) : (s.fire n).enp = s.enp := rfl
@[simp] theorem fire_th (n : Nat) : (s.fire n).th = s.th := rfl
@[simp] theorem fire_gte (n : Nat) : (s.fire n).gte = s.gte := rfl
@[simp] theorem fire_net (n : Nat) : (s.fire n).net = s.net := rfl
@[simp] theorem fire_cnv (n : Nat) : (s.fire n).cnv = s.cnv := rfl
@[simp] theorem fire_twn (n : Nat) : (s.fire n).twn = s.twn := rfl
@[simp] theorem fire_saf (n : Nat) : (s.fire n).saf = s.saf := rfl
@[simp] theorem fire_freeCount (n : Nat) : (s.fire n).freeCount = s.freeCount := rfl

@[simp] theorem takeFree_pending : s.takeFree.pending = s.pending := rfl
@[simp] theorem takeFree_variant : s.takeFree.variant = s.variant := rfl
@[simp] theorem takeFree_hasB : s.takeFree.hasB = s.hasB := rfl
@[simp] theorem takeFree_hasCharger : s.takeFree.hasCharger = s.hasCharger := rfl
@[simp] theorem takeFree_hasPairs : s.takeFree.hasPairs = s.hasPairs := rfl
@[simp] theorem takeFree_regs : s.takeFree.regs = s.regs := rfl
@[simp] theorem takeFree_reg (q : Nat) : s.takeFree.reg q = s.reg q := rfl
@[simp] theorem takeFree_fld (q : Nat) (y : Fld) : s.takeFree.fld q y = s.fld q y := rfl
@[simp] theorem takeFree_bit (q : Nat) (y : Fld) : s.takeFree.bit q y = s.bit q y := rfl
@[simp] theorem takeFree_nreg (q : Nat) : s.takeFree.nreg q = s.nreg q := rfl
@[simp] theorem takeFree_now : s.takeFree.now = s.now := rfl
@[simp] theorem takeFree_shadow : s.takeFree.shadow = s.shadow := rfl
@[simp] theorem takeFree_cleShadow : s.takeFree.cleShadow = s.cleShadow := rfl
@[simp] theorem takeFree_mem : s.takeFree.mem = s.mem := rfl
@[simp] theorem takeFree_byte (b : Nat) : s.takeFree.byte b = s.byte b := rfl
@[simp] theorem takeFree_word (b : Nat) : s.takeFree.word b = s.word b := rfl
@[simp] theorem takeFree_mod : s.takeFree.mod = s.mod := rfl
@[simp] theorem takeFree_mode : s.takeFree.mode = s.mode := rfl
@[simp] theorem takeFree_clk : s.takeFree.clk = s.clk := rfl
@[simp] theorem takeFree_seq : s.takeFree.seq = s.seq := rfl
@[simp] theorem takeFree_engine (y : Fin 8) : s.takeFree.engine y = s.engine y := rfl
@[simp] theorem takeFree_evt : s.takeFree.evt = s.evt := rfl
@[simp] theorem takeFree_flash : s.takeFree.flash = s.flash := rfl
@[simp] theorem takeFree_bus : s.takeFree.bus = s.bus := rfl
@[simp] theorem takeFree_acq : s.takeFree.acq = s.acq := rfl
@[simp] theorem takeFree_pos : s.takeFree.pos = s.pos := rfl
@[simp] theorem takeFree_cle : s.takeFree.cle = s.cle := rfl
@[simp] theorem takeFree_wfu : s.takeFree.wfu = s.wfu := rfl
@[simp] theorem takeFree_gdp : s.takeFree.gdp = s.gdp := rfl
@[simp] theorem takeFree_tdu : s.takeFree.tdu = s.tdu := rfl
@[simp] theorem takeFree_budget : s.takeFree.budget = s.budget := rfl
@[simp] theorem takeFree_act : s.takeFree.act = s.act := rfl
@[simp] theorem takeFree_aux : s.takeFree.aux = s.aux := rfl
@[simp] theorem takeFree_enp : s.takeFree.enp = s.enp := rfl
@[simp] theorem takeFree_th : s.takeFree.th = s.th := rfl
@[simp] theorem takeFree_gte : s.takeFree.gte = s.gte := rfl
@[simp] theorem takeFree_net : s.takeFree.net = s.net := rfl
@[simp] theorem takeFree_cnv : s.takeFree.cnv = s.cnv := rfl
@[simp] theorem takeFree_twn : s.takeFree.twn = s.twn := rfl
@[simp] theorem takeFree_saf : s.takeFree.saf = s.saf := rfl

/-! ### Units -/

@[simp] theorem modEngine_pending (e : Fin 8) (f : Engine → Engine) : (s.modEngine e f).pending = s.pending := rfl
@[simp] theorem modEngine_variant (e : Fin 8) (f : Engine → Engine) : (s.modEngine e f).variant = s.variant := rfl
@[simp] theorem modEngine_hasB (e : Fin 8) (f : Engine → Engine) : (s.modEngine e f).hasB = s.hasB := rfl
@[simp] theorem modEngine_hasCharger (e : Fin 8) (f : Engine → Engine) : (s.modEngine e f).hasCharger = s.hasCharger := rfl
@[simp] theorem modEngine_hasPairs (e : Fin 8) (f : Engine → Engine) : (s.modEngine e f).hasPairs = s.hasPairs := rfl
@[simp] theorem modEngine_regs (e : Fin 8) (f : Engine → Engine) : (s.modEngine e f).regs = s.regs := rfl
@[simp] theorem modEngine_reg (e : Fin 8) (f : Engine → Engine) (q : Nat) : (s.modEngine e f).reg q = s.reg q := rfl
@[simp] theorem modEngine_fld (e : Fin 8) (f : Engine → Engine) (q : Nat) (y : Fld) : (s.modEngine e f).fld q y = s.fld q y := rfl
@[simp] theorem modEngine_bit (e : Fin 8) (f : Engine → Engine) (q : Nat) (y : Fld) : (s.modEngine e f).bit q y = s.bit q y := rfl
@[simp] theorem modEngine_nreg (e : Fin 8) (f : Engine → Engine) (q : Nat) : (s.modEngine e f).nreg q = s.nreg q := rfl
@[simp] theorem modEngine_now (e : Fin 8) (f : Engine → Engine) : (s.modEngine e f).now = s.now := rfl
@[simp] theorem modEngine_shadow (e : Fin 8) (f : Engine → Engine) : (s.modEngine e f).shadow = s.shadow := rfl
@[simp] theorem modEngine_cleShadow (e : Fin 8) (f : Engine → Engine) : (s.modEngine e f).cleShadow = s.cleShadow := rfl
@[simp] theorem modEngine_mem (e : Fin 8) (f : Engine → Engine) : (s.modEngine e f).mem = s.mem := rfl
@[simp] theorem modEngine_byte (e : Fin 8) (f : Engine → Engine) (b : Nat) : (s.modEngine e f).byte b = s.byte b := rfl
@[simp] theorem modEngine_word (e : Fin 8) (f : Engine → Engine) (b : Nat) : (s.modEngine e f).word b = s.word b := rfl
@[simp] theorem modEngine_mod (e : Fin 8) (f : Engine → Engine) : (s.modEngine e f).mod = s.mod := rfl
@[simp] theorem modEngine_mode (e : Fin 8) (f : Engine → Engine) : (s.modEngine e f).mode = s.mode := rfl
@[simp] theorem modEngine_clk (e : Fin 8) (f : Engine → Engine) : (s.modEngine e f).clk = s.clk := rfl
@[simp] theorem modEngine_evt (e : Fin 8) (f : Engine → Engine) : (s.modEngine e f).evt = s.evt := rfl
@[simp] theorem modEngine_flash (e : Fin 8) (f : Engine → Engine) : (s.modEngine e f).flash = s.flash := rfl
@[simp] theorem modEngine_bus (e : Fin 8) (f : Engine → Engine) : (s.modEngine e f).bus = s.bus := rfl
@[simp] theorem modEngine_acq (e : Fin 8) (f : Engine → Engine) : (s.modEngine e f).acq = s.acq := rfl
@[simp] theorem modEngine_pos (e : Fin 8) (f : Engine → Engine) : (s.modEngine e f).pos = s.pos := rfl
@[simp] theorem modEngine_cle (e : Fin 8) (f : Engine → Engine) : (s.modEngine e f).cle = s.cle := rfl
@[simp] theorem modEngine_wfu (e : Fin 8) (f : Engine → Engine) : (s.modEngine e f).wfu = s.wfu := rfl
@[simp] theorem modEngine_gdp (e : Fin 8) (f : Engine → Engine) : (s.modEngine e f).gdp = s.gdp := rfl
@[simp] theorem modEngine_tdu (e : Fin 8) (f : Engine → Engine) : (s.modEngine e f).tdu = s.tdu := rfl
@[simp] theorem modEngine_budget (e : Fin 8) (f : Engine → Engine) : (s.modEngine e f).budget = s.budget := rfl
@[simp] theorem modEngine_act (e : Fin 8) (f : Engine → Engine) : (s.modEngine e f).act = s.act := rfl
@[simp] theorem modEngine_aux (e : Fin 8) (f : Engine → Engine) : (s.modEngine e f).aux = s.aux := rfl
@[simp] theorem modEngine_enp (e : Fin 8) (f : Engine → Engine) : (s.modEngine e f).enp = s.enp := rfl
@[simp] theorem modEngine_th (e : Fin 8) (f : Engine → Engine) : (s.modEngine e f).th = s.th := rfl
@[simp] theorem modEngine_gte (e : Fin 8) (f : Engine → Engine) : (s.modEngine e f).gte = s.gte := rfl
@[simp] theorem modEngine_net (e : Fin 8) (f : Engine → Engine) : (s.modEngine e f).net = s.net := rfl
@[simp] theorem modEngine_cnv (e : Fin 8) (f : Engine → Engine) : (s.modEngine e f).cnv = s.cnv := rfl
@[simp] theorem modEngine_twn (e : Fin 8) (f : Engine → Engine) : (s.modEngine e f).twn = s.twn := rfl
@[simp] theorem modEngine_saf (e : Fin 8) (f : Engine → Engine) : (s.modEngine e f).saf = s.saf := rfl
@[simp] theorem modEngine_freeCount (e : Fin 8) (f : Engine → Engine) : (s.modEngine e f).freeCount = s.freeCount := rfl

@[simp] theorem modEvt_pending (f : EventCtl → EventCtl) : (s.modEvt f).pending = s.pending := rfl
@[simp] theorem modEvt_variant (f : EventCtl → EventCtl) : (s.modEvt f).variant = s.variant := rfl
@[simp] theorem modEvt_hasB (f : EventCtl → EventCtl) : (s.modEvt f).hasB = s.hasB := rfl
@[simp] theorem modEvt_hasCharger (f : EventCtl → EventCtl) : (s.modEvt f).hasCharger = s.hasCharger := rfl
@[simp] theorem modEvt_hasPairs (f : EventCtl → EventCtl) : (s.modEvt f).hasPairs = s.hasPairs := rfl
@[simp] theorem modEvt_regs (f : EventCtl → EventCtl) : (s.modEvt f).regs = s.regs := rfl
@[simp] theorem modEvt_reg (f : EventCtl → EventCtl) (q : Nat) : (s.modEvt f).reg q = s.reg q := rfl
@[simp] theorem modEvt_fld (f : EventCtl → EventCtl) (q : Nat) (y : Fld) : (s.modEvt f).fld q y = s.fld q y := rfl
@[simp] theorem modEvt_bit (f : EventCtl → EventCtl) (q : Nat) (y : Fld) : (s.modEvt f).bit q y = s.bit q y := rfl
@[simp] theorem modEvt_nreg (f : EventCtl → EventCtl) (q : Nat) : (s.modEvt f).nreg q = s.nreg q := rfl
@[simp] theorem modEvt_now (f : EventCtl → EventCtl) : (s.modEvt f).now = s.now := rfl
@[simp] theorem modEvt_shadow (f : EventCtl → EventCtl) : (s.modEvt f).shadow = s.shadow := rfl
@[simp] theorem modEvt_cleShadow (f : EventCtl → EventCtl) : (s.modEvt f).cleShadow = s.cleShadow := rfl
@[simp] theorem modEvt_mem (f : EventCtl → EventCtl) : (s.modEvt f).mem = s.mem := rfl
@[simp] theorem modEvt_byte (f : EventCtl → EventCtl) (b : Nat) : (s.modEvt f).byte b = s.byte b := rfl
@[simp] theorem modEvt_word (f : EventCtl → EventCtl) (b : Nat) : (s.modEvt f).word b = s.word b := rfl
@[simp] theorem modEvt_mod (f : EventCtl → EventCtl) : (s.modEvt f).mod = s.mod := rfl
@[simp] theorem modEvt_mode (f : EventCtl → EventCtl) : (s.modEvt f).mode = s.mode := rfl
@[simp] theorem modEvt_clk (f : EventCtl → EventCtl) : (s.modEvt f).clk = s.clk := rfl
@[simp] theorem modEvt_seq (f : EventCtl → EventCtl) : (s.modEvt f).seq = s.seq := rfl
@[simp] theorem modEvt_engine (f : EventCtl → EventCtl) (y : Fin 8) : (s.modEvt f).engine y = s.engine y := rfl
@[simp] theorem modEvt_flash (f : EventCtl → EventCtl) : (s.modEvt f).flash = s.flash := rfl
@[simp] theorem modEvt_bus (f : EventCtl → EventCtl) : (s.modEvt f).bus = s.bus := rfl
@[simp] theorem modEvt_acq (f : EventCtl → EventCtl) : (s.modEvt f).acq = s.acq := rfl
@[simp] theorem modEvt_pos (f : EventCtl → EventCtl) : (s.modEvt f).pos = s.pos := rfl
@[simp] theorem modEvt_cle (f : EventCtl → EventCtl) : (s.modEvt f).cle = s.cle := rfl
@[simp] theorem modEvt_wfu (f : EventCtl → EventCtl) : (s.modEvt f).wfu = s.wfu := rfl
@[simp] theorem modEvt_gdp (f : EventCtl → EventCtl) : (s.modEvt f).gdp = s.gdp := rfl
@[simp] theorem modEvt_tdu (f : EventCtl → EventCtl) : (s.modEvt f).tdu = s.tdu := rfl
@[simp] theorem modEvt_budget (f : EventCtl → EventCtl) : (s.modEvt f).budget = s.budget := rfl
@[simp] theorem modEvt_act (f : EventCtl → EventCtl) : (s.modEvt f).act = s.act := rfl
@[simp] theorem modEvt_aux (f : EventCtl → EventCtl) : (s.modEvt f).aux = s.aux := rfl
@[simp] theorem modEvt_enp (f : EventCtl → EventCtl) : (s.modEvt f).enp = s.enp := rfl
@[simp] theorem modEvt_th (f : EventCtl → EventCtl) : (s.modEvt f).th = s.th := rfl
@[simp] theorem modEvt_gte (f : EventCtl → EventCtl) : (s.modEvt f).gte = s.gte := rfl
@[simp] theorem modEvt_net (f : EventCtl → EventCtl) : (s.modEvt f).net = s.net := rfl
@[simp] theorem modEvt_cnv (f : EventCtl → EventCtl) : (s.modEvt f).cnv = s.cnv := rfl
@[simp] theorem modEvt_twn (f : EventCtl → EventCtl) : (s.modEvt f).twn = s.twn := rfl
@[simp] theorem modEvt_saf (f : EventCtl → EventCtl) : (s.modEvt f).saf = s.saf := rfl
@[simp] theorem modEvt_freeCount (f : EventCtl → EventCtl) : (s.modEvt f).freeCount = s.freeCount := rfl

@[simp] theorem modCore_pending (c : Fin 2) (f : Core → Core) : (s.modCore c f).pending = s.pending := rfl
@[simp] theorem modCore_variant (c : Fin 2) (f : Core → Core) : (s.modCore c f).variant = s.variant := rfl
@[simp] theorem modCore_hasB (c : Fin 2) (f : Core → Core) : (s.modCore c f).hasB = s.hasB := rfl
@[simp] theorem modCore_hasCharger (c : Fin 2) (f : Core → Core) : (s.modCore c f).hasCharger = s.hasCharger := rfl
@[simp] theorem modCore_hasPairs (c : Fin 2) (f : Core → Core) : (s.modCore c f).hasPairs = s.hasPairs := rfl
@[simp] theorem modCore_regs (c : Fin 2) (f : Core → Core) : (s.modCore c f).regs = s.regs := rfl
@[simp] theorem modCore_reg (c : Fin 2) (f : Core → Core) (q : Nat) : (s.modCore c f).reg q = s.reg q := rfl
@[simp] theorem modCore_fld (c : Fin 2) (f : Core → Core) (q : Nat) (y : Fld) : (s.modCore c f).fld q y = s.fld q y := rfl
@[simp] theorem modCore_bit (c : Fin 2) (f : Core → Core) (q : Nat) (y : Fld) : (s.modCore c f).bit q y = s.bit q y := rfl
@[simp] theorem modCore_nreg (c : Fin 2) (f : Core → Core) (q : Nat) : (s.modCore c f).nreg q = s.nreg q := rfl
@[simp] theorem modCore_now (c : Fin 2) (f : Core → Core) : (s.modCore c f).now = s.now := rfl
@[simp] theorem modCore_shadow (c : Fin 2) (f : Core → Core) : (s.modCore c f).shadow = s.shadow := rfl
@[simp] theorem modCore_cleShadow (c : Fin 2) (f : Core → Core) : (s.modCore c f).cleShadow = s.cleShadow := rfl
@[simp] theorem modCore_mem (c : Fin 2) (f : Core → Core) : (s.modCore c f).mem = s.mem := rfl
@[simp] theorem modCore_byte (c : Fin 2) (f : Core → Core) (b : Nat) : (s.modCore c f).byte b = s.byte b := rfl
@[simp] theorem modCore_word (c : Fin 2) (f : Core → Core) (b : Nat) : (s.modCore c f).word b = s.word b := rfl
@[simp] theorem modCore_mod (c : Fin 2) (f : Core → Core) : (s.modCore c f).mod = s.mod := rfl
@[simp] theorem modCore_mode (c : Fin 2) (f : Core → Core) : (s.modCore c f).mode = s.mode := rfl
@[simp] theorem modCore_clk (c : Fin 2) (f : Core → Core) : (s.modCore c f).clk = s.clk := rfl
@[simp] theorem modCore_seq (c : Fin 2) (f : Core → Core) : (s.modCore c f).seq = s.seq := rfl
@[simp] theorem modCore_engine (c : Fin 2) (f : Core → Core) (y : Fin 8) : (s.modCore c f).engine y = s.engine y := rfl
@[simp] theorem modCore_flash (c : Fin 2) (f : Core → Core) : (s.modCore c f).flash = s.flash := rfl
@[simp] theorem modCore_bus (c : Fin 2) (f : Core → Core) : (s.modCore c f).bus = s.bus := rfl
@[simp] theorem modCore_acq (c : Fin 2) (f : Core → Core) : (s.modCore c f).acq = s.acq := rfl
@[simp] theorem modCore_pos (c : Fin 2) (f : Core → Core) : (s.modCore c f).pos = s.pos := rfl
@[simp] theorem modCore_cle (c : Fin 2) (f : Core → Core) : (s.modCore c f).cle = s.cle := rfl
@[simp] theorem modCore_wfu (c : Fin 2) (f : Core → Core) : (s.modCore c f).wfu = s.wfu := rfl
@[simp] theorem modCore_gdp (c : Fin 2) (f : Core → Core) : (s.modCore c f).gdp = s.gdp := rfl
@[simp] theorem modCore_tdu (c : Fin 2) (f : Core → Core) : (s.modCore c f).tdu = s.tdu := rfl
@[simp] theorem modCore_budget (c : Fin 2) (f : Core → Core) : (s.modCore c f).budget = s.budget := rfl
@[simp] theorem modCore_act (c : Fin 2) (f : Core → Core) : (s.modCore c f).act = s.act := rfl
@[simp] theorem modCore_aux (c : Fin 2) (f : Core → Core) : (s.modCore c f).aux = s.aux := rfl
@[simp] theorem modCore_enp (c : Fin 2) (f : Core → Core) : (s.modCore c f).enp = s.enp := rfl
@[simp] theorem modCore_th (c : Fin 2) (f : Core → Core) : (s.modCore c f).th = s.th := rfl
@[simp] theorem modCore_gte (c : Fin 2) (f : Core → Core) : (s.modCore c f).gte = s.gte := rfl
@[simp] theorem modCore_net (c : Fin 2) (f : Core → Core) : (s.modCore c f).net = s.net := rfl
@[simp] theorem modCore_cnv (c : Fin 2) (f : Core → Core) : (s.modCore c f).cnv = s.cnv := rfl
@[simp] theorem modCore_twn (c : Fin 2) (f : Core → Core) : (s.modCore c f).twn = s.twn := rfl
@[simp] theorem modCore_saf (c : Fin 2) (f : Core → Core) : (s.modCore c f).saf = s.saf := rfl
@[simp] theorem modCore_freeCount (c : Fin 2) (f : Core → Core) : (s.modCore c f).freeCount = s.freeCount := rfl

@[simp] theorem modMod_pending (f : ModeMgr → ModeMgr) : (s.modMod f).pending = s.pending := rfl
@[simp] theorem modMod_variant (f : ModeMgr → ModeMgr) : (s.modMod f).variant = s.variant := rfl
@[simp] theorem modMod_hasB (f : ModeMgr → ModeMgr) : (s.modMod f).hasB = s.hasB := rfl
@[simp] theorem modMod_hasCharger (f : ModeMgr → ModeMgr) : (s.modMod f).hasCharger = s.hasCharger := rfl
@[simp] theorem modMod_hasPairs (f : ModeMgr → ModeMgr) : (s.modMod f).hasPairs = s.hasPairs := rfl
@[simp] theorem modMod_regs (f : ModeMgr → ModeMgr) : (s.modMod f).regs = s.regs := rfl
@[simp] theorem modMod_reg (f : ModeMgr → ModeMgr) (q : Nat) : (s.modMod f).reg q = s.reg q := rfl
@[simp] theorem modMod_fld (f : ModeMgr → ModeMgr) (q : Nat) (y : Fld) : (s.modMod f).fld q y = s.fld q y := rfl
@[simp] theorem modMod_bit (f : ModeMgr → ModeMgr) (q : Nat) (y : Fld) : (s.modMod f).bit q y = s.bit q y := rfl
@[simp] theorem modMod_nreg (f : ModeMgr → ModeMgr) (q : Nat) : (s.modMod f).nreg q = s.nreg q := rfl
@[simp] theorem modMod_now (f : ModeMgr → ModeMgr) : (s.modMod f).now = s.now := rfl
@[simp] theorem modMod_shadow (f : ModeMgr → ModeMgr) : (s.modMod f).shadow = s.shadow := rfl
@[simp] theorem modMod_cleShadow (f : ModeMgr → ModeMgr) : (s.modMod f).cleShadow = s.cleShadow := rfl
@[simp] theorem modMod_mem (f : ModeMgr → ModeMgr) : (s.modMod f).mem = s.mem := rfl
@[simp] theorem modMod_byte (f : ModeMgr → ModeMgr) (b : Nat) : (s.modMod f).byte b = s.byte b := rfl
@[simp] theorem modMod_word (f : ModeMgr → ModeMgr) (b : Nat) : (s.modMod f).word b = s.word b := rfl
@[simp] theorem modMod_clk (f : ModeMgr → ModeMgr) : (s.modMod f).clk = s.clk := rfl
@[simp] theorem modMod_seq (f : ModeMgr → ModeMgr) : (s.modMod f).seq = s.seq := rfl
@[simp] theorem modMod_engine (f : ModeMgr → ModeMgr) (y : Fin 8) : (s.modMod f).engine y = s.engine y := rfl
@[simp] theorem modMod_evt (f : ModeMgr → ModeMgr) : (s.modMod f).evt = s.evt := rfl
@[simp] theorem modMod_flash (f : ModeMgr → ModeMgr) : (s.modMod f).flash = s.flash := rfl
@[simp] theorem modMod_bus (f : ModeMgr → ModeMgr) : (s.modMod f).bus = s.bus := rfl
@[simp] theorem modMod_acq (f : ModeMgr → ModeMgr) : (s.modMod f).acq = s.acq := rfl
@[simp] theorem modMod_pos (f : ModeMgr → ModeMgr) : (s.modMod f).pos = s.pos := rfl
@[simp] theorem modMod_cle (f : ModeMgr → ModeMgr) : (s.modMod f).cle = s.cle := rfl
@[simp] theorem modMod_wfu (f : ModeMgr → ModeMgr) : (s.modMod f).wfu = s.wfu := rfl
@[simp] theorem modMod_gdp (f : ModeMgr → ModeMgr) : (s.modMod f).gdp = s.gdp := rfl
@[simp] theorem modMod_tdu (f : ModeMgr → ModeMgr) : (s.modMod f).tdu = s.tdu := rfl
@[simp] theorem modMod_budget (f : ModeMgr → ModeMgr) : (s.modMod f).budget = s.budget := rfl
@[simp] theorem modMod_act (f : ModeMgr → ModeMgr) : (s.modMod f).act = s.act := rfl
@[simp] theorem modMod_aux (f : ModeMgr → ModeMgr) : (s.modMod f).aux = s.aux := rfl
@[simp] theorem modMod_enp (f : ModeMgr → ModeMgr) : (s.modMod f).enp = s.enp := rfl
@[simp] theorem modMod_th (f : ModeMgr → ModeMgr) : (s.modMod f).th = s.th := rfl
@[simp] theorem modMod_gte (f : ModeMgr → ModeMgr) : (s.modMod f).gte = s.gte := rfl
@[simp] theorem modMod_net (f : ModeMgr → ModeMgr) : (s.modMod f).net = s.net := rfl
@[simp] theorem modMod_cnv (f : ModeMgr → ModeMgr) : (s.modMod f).cnv = s.cnv := rfl
@[simp] theorem modMod_twn (f : ModeMgr → ModeMgr) : (s.modMod f).twn = s.twn := rfl
@[simp] theorem modMod_saf (f : ModeMgr → ModeMgr) : (s.modMod f).saf = s.saf := rfl
@[simp] theorem modMod_freeCount (f : ModeMgr → ModeMgr) : (s.modMod f).freeCount = s.freeCount := rfl

@[simp] theorem modSaf_pending (f : SafState → SafState) : (s.modSaf f).pending = s.pending := rfl
@[simp] theorem modSaf_variant (f : SafState → SafState) : (s.modSaf f).variant = s.variant := rfl
@[simp] theorem modSaf_hasB (f : SafState → SafState) : (s.modSaf f).hasB = s.hasB := rfl
@[simp] theorem modSaf_hasCharger (f : SafState → SafState) : (s.modSaf f).hasCharger = s.hasCharger := rfl
@[simp] theorem modSaf_hasPairs (f : SafState → SafState) : (s.modSaf f).hasPairs = s.hasPairs := rfl
@[simp] theorem modSaf_regs (f : SafState → SafState) : (s.modSaf f).regs = s.regs := rfl
@[simp] theorem modSaf_reg (f : SafState → SafState) (q : Nat) : (s.modSaf f).reg q = s.reg q := rfl
@[simp] theorem modSaf_fld (f : SafState → SafState) (q : Nat) (y : Fld) : (s.modSaf f).fld q y = s.fld q y := rfl
@[simp] theorem modSaf_bit (f : SafState → SafState) (q : Nat) (y : Fld) : (s.modSaf f).bit q y = s.bit q y := rfl
@[simp] theorem modSaf_nreg (f : SafState → SafState) (q : Nat) : (s.modSaf f).nreg q = s.nreg q := rfl
@[simp] theorem modSaf_now (f : SafState → SafState) : (s.modSaf f).now = s.now := rfl
@[simp] theorem modSaf_shadow (f : SafState → SafState) : (s.modSaf f).shadow = s.shadow := rfl
@[simp] theorem modSaf_cleShadow (f : SafState → SafState) : (s.modSaf f).cleShadow = s.cleShadow := rfl
@[simp] theorem modSaf_mem (f : SafState → SafState) : (s.modSaf f).mem = s.mem := rfl
@[simp] theorem modSaf_byte (f : SafState → SafState) (b : Nat) : (s.modSaf f).byte b = s.byte b := rfl
@[simp] theorem modSaf_word (f : SafState → SafState) (b : Nat) : (s.modSaf f).word b = s.word b := rfl
@[simp] theorem modSaf_mod (f : SafState → SafState) : (s.modSaf f).mod = s.mod := rfl
@[simp] theorem modSaf_mode (f : SafState → SafState) : (s.modSaf f).mode = s.mode := rfl
@[simp] theorem modSaf_clk (f : SafState → SafState) : (s.modSaf f).clk = s.clk := rfl
@[simp] theorem modSaf_seq (f : SafState → SafState) : (s.modSaf f).seq = s.seq := rfl
@[simp] theorem modSaf_engine (f : SafState → SafState) (y : Fin 8) : (s.modSaf f).engine y = s.engine y := rfl
@[simp] theorem modSaf_evt (f : SafState → SafState) : (s.modSaf f).evt = s.evt := rfl
@[simp] theorem modSaf_flash (f : SafState → SafState) : (s.modSaf f).flash = s.flash := rfl
@[simp] theorem modSaf_bus (f : SafState → SafState) : (s.modSaf f).bus = s.bus := rfl
@[simp] theorem modSaf_acq (f : SafState → SafState) : (s.modSaf f).acq = s.acq := rfl
@[simp] theorem modSaf_pos (f : SafState → SafState) : (s.modSaf f).pos = s.pos := rfl
@[simp] theorem modSaf_cle (f : SafState → SafState) : (s.modSaf f).cle = s.cle := rfl
@[simp] theorem modSaf_wfu (f : SafState → SafState) : (s.modSaf f).wfu = s.wfu := rfl
@[simp] theorem modSaf_gdp (f : SafState → SafState) : (s.modSaf f).gdp = s.gdp := rfl
@[simp] theorem modSaf_tdu (f : SafState → SafState) : (s.modSaf f).tdu = s.tdu := rfl
@[simp] theorem modSaf_budget (f : SafState → SafState) : (s.modSaf f).budget = s.budget := rfl
@[simp] theorem modSaf_act (f : SafState → SafState) : (s.modSaf f).act = s.act := rfl
@[simp] theorem modSaf_aux (f : SafState → SafState) : (s.modSaf f).aux = s.aux := rfl
@[simp] theorem modSaf_enp (f : SafState → SafState) : (s.modSaf f).enp = s.enp := rfl
@[simp] theorem modSaf_th (f : SafState → SafState) : (s.modSaf f).th = s.th := rfl
@[simp] theorem modSaf_gte (f : SafState → SafState) : (s.modSaf f).gte = s.gte := rfl
@[simp] theorem modSaf_net (f : SafState → SafState) : (s.modSaf f).net = s.net := rfl
@[simp] theorem modSaf_cnv (f : SafState → SafState) : (s.modSaf f).cnv = s.cnv := rfl
@[simp] theorem modSaf_twn (f : SafState → SafState) : (s.modSaf f).twn = s.twn := rfl
@[simp] theorem modSaf_freeCount (f : SafState → SafState) : (s.modSaf f).freeCount = s.freeCount := rfl

@[simp] theorem modTwn_pending (f : TwnState → TwnState) : (s.modTwn f).pending = s.pending := rfl
@[simp] theorem modTwn_variant (f : TwnState → TwnState) : (s.modTwn f).variant = s.variant := rfl
@[simp] theorem modTwn_hasB (f : TwnState → TwnState) : (s.modTwn f).hasB = s.hasB := rfl
@[simp] theorem modTwn_hasCharger (f : TwnState → TwnState) : (s.modTwn f).hasCharger = s.hasCharger := rfl
@[simp] theorem modTwn_hasPairs (f : TwnState → TwnState) : (s.modTwn f).hasPairs = s.hasPairs := rfl
@[simp] theorem modTwn_regs (f : TwnState → TwnState) : (s.modTwn f).regs = s.regs := rfl
@[simp] theorem modTwn_reg (f : TwnState → TwnState) (q : Nat) : (s.modTwn f).reg q = s.reg q := rfl
@[simp] theorem modTwn_fld (f : TwnState → TwnState) (q : Nat) (y : Fld) : (s.modTwn f).fld q y = s.fld q y := rfl
@[simp] theorem modTwn_bit (f : TwnState → TwnState) (q : Nat) (y : Fld) : (s.modTwn f).bit q y = s.bit q y := rfl
@[simp] theorem modTwn_nreg (f : TwnState → TwnState) (q : Nat) : (s.modTwn f).nreg q = s.nreg q := rfl
@[simp] theorem modTwn_now (f : TwnState → TwnState) : (s.modTwn f).now = s.now := rfl
@[simp] theorem modTwn_shadow (f : TwnState → TwnState) : (s.modTwn f).shadow = s.shadow := rfl
@[simp] theorem modTwn_cleShadow (f : TwnState → TwnState) : (s.modTwn f).cleShadow = s.cleShadow := rfl
@[simp] theorem modTwn_mem (f : TwnState → TwnState) : (s.modTwn f).mem = s.mem := rfl
@[simp] theorem modTwn_byte (f : TwnState → TwnState) (b : Nat) : (s.modTwn f).byte b = s.byte b := rfl
@[simp] theorem modTwn_word (f : TwnState → TwnState) (b : Nat) : (s.modTwn f).word b = s.word b := rfl
@[simp] theorem modTwn_mod (f : TwnState → TwnState) : (s.modTwn f).mod = s.mod := rfl
@[simp] theorem modTwn_mode (f : TwnState → TwnState) : (s.modTwn f).mode = s.mode := rfl
@[simp] theorem modTwn_clk (f : TwnState → TwnState) : (s.modTwn f).clk = s.clk := rfl
@[simp] theorem modTwn_seq (f : TwnState → TwnState) : (s.modTwn f).seq = s.seq := rfl
@[simp] theorem modTwn_engine (f : TwnState → TwnState) (y : Fin 8) : (s.modTwn f).engine y = s.engine y := rfl
@[simp] theorem modTwn_evt (f : TwnState → TwnState) : (s.modTwn f).evt = s.evt := rfl
@[simp] theorem modTwn_flash (f : TwnState → TwnState) : (s.modTwn f).flash = s.flash := rfl
@[simp] theorem modTwn_bus (f : TwnState → TwnState) : (s.modTwn f).bus = s.bus := rfl
@[simp] theorem modTwn_acq (f : TwnState → TwnState) : (s.modTwn f).acq = s.acq := rfl
@[simp] theorem modTwn_pos (f : TwnState → TwnState) : (s.modTwn f).pos = s.pos := rfl
@[simp] theorem modTwn_cle (f : TwnState → TwnState) : (s.modTwn f).cle = s.cle := rfl
@[simp] theorem modTwn_wfu (f : TwnState → TwnState) : (s.modTwn f).wfu = s.wfu := rfl
@[simp] theorem modTwn_gdp (f : TwnState → TwnState) : (s.modTwn f).gdp = s.gdp := rfl
@[simp] theorem modTwn_tdu (f : TwnState → TwnState) : (s.modTwn f).tdu = s.tdu := rfl
@[simp] theorem modTwn_budget (f : TwnState → TwnState) : (s.modTwn f).budget = s.budget := rfl
@[simp] theorem modTwn_act (f : TwnState → TwnState) : (s.modTwn f).act = s.act := rfl
@[simp] theorem modTwn_aux (f : TwnState → TwnState) : (s.modTwn f).aux = s.aux := rfl
@[simp] theorem modTwn_enp (f : TwnState → TwnState) : (s.modTwn f).enp = s.enp := rfl
@[simp] theorem modTwn_th (f : TwnState → TwnState) : (s.modTwn f).th = s.th := rfl
@[simp] theorem modTwn_gte (f : TwnState → TwnState) : (s.modTwn f).gte = s.gte := rfl
@[simp] theorem modTwn_net (f : TwnState → TwnState) : (s.modTwn f).net = s.net := rfl
@[simp] theorem modTwn_cnv (f : TwnState → TwnState) : (s.modTwn f).cnv = s.cnv := rfl
@[simp] theorem modTwn_saf (f : TwnState → TwnState) : (s.modTwn f).saf = s.saf := rfl
@[simp] theorem modTwn_freeCount (f : TwnState → TwnState) : (s.modTwn f).freeCount = s.freeCount := rfl

@[simp] theorem modConv_pending (k : Fin 8) (f : AcqConv → AcqConv) : (s.modConv k f).pending = s.pending := rfl
@[simp] theorem modConv_variant (k : Fin 8) (f : AcqConv → AcqConv) : (s.modConv k f).variant = s.variant := rfl
@[simp] theorem modConv_hasB (k : Fin 8) (f : AcqConv → AcqConv) : (s.modConv k f).hasB = s.hasB := rfl
@[simp] theorem modConv_hasCharger (k : Fin 8) (f : AcqConv → AcqConv) : (s.modConv k f).hasCharger = s.hasCharger := rfl
@[simp] theorem modConv_hasPairs (k : Fin 8) (f : AcqConv → AcqConv) : (s.modConv k f).hasPairs = s.hasPairs := rfl
@[simp] theorem modConv_regs (k : Fin 8) (f : AcqConv → AcqConv) : (s.modConv k f).regs = s.regs := rfl
@[simp] theorem modConv_reg (k : Fin 8) (f : AcqConv → AcqConv) (q : Nat) : (s.modConv k f).reg q = s.reg q := rfl
@[simp] theorem modConv_fld (k : Fin 8) (f : AcqConv → AcqConv) (q : Nat) (y : Fld) : (s.modConv k f).fld q y = s.fld q y := rfl
@[simp] theorem modConv_bit (k : Fin 8) (f : AcqConv → AcqConv) (q : Nat) (y : Fld) : (s.modConv k f).bit q y = s.bit q y := rfl
@[simp] theorem modConv_nreg (k : Fin 8) (f : AcqConv → AcqConv) (q : Nat) : (s.modConv k f).nreg q = s.nreg q := rfl
@[simp] theorem modConv_now (k : Fin 8) (f : AcqConv → AcqConv) : (s.modConv k f).now = s.now := rfl
@[simp] theorem modConv_shadow (k : Fin 8) (f : AcqConv → AcqConv) : (s.modConv k f).shadow = s.shadow := rfl
@[simp] theorem modConv_cleShadow (k : Fin 8) (f : AcqConv → AcqConv) : (s.modConv k f).cleShadow = s.cleShadow := rfl
@[simp] theorem modConv_mem (k : Fin 8) (f : AcqConv → AcqConv) : (s.modConv k f).mem = s.mem := rfl
@[simp] theorem modConv_byte (k : Fin 8) (f : AcqConv → AcqConv) (b : Nat) : (s.modConv k f).byte b = s.byte b := rfl
@[simp] theorem modConv_word (k : Fin 8) (f : AcqConv → AcqConv) (b : Nat) : (s.modConv k f).word b = s.word b := rfl
@[simp] theorem modConv_mod (k : Fin 8) (f : AcqConv → AcqConv) : (s.modConv k f).mod = s.mod := rfl
@[simp] theorem modConv_mode (k : Fin 8) (f : AcqConv → AcqConv) : (s.modConv k f).mode = s.mode := rfl
@[simp] theorem modConv_clk (k : Fin 8) (f : AcqConv → AcqConv) : (s.modConv k f).clk = s.clk := rfl
@[simp] theorem modConv_seq (k : Fin 8) (f : AcqConv → AcqConv) : (s.modConv k f).seq = s.seq := rfl
@[simp] theorem modConv_engine (k : Fin 8) (f : AcqConv → AcqConv) (y : Fin 8) : (s.modConv k f).engine y = s.engine y := rfl
@[simp] theorem modConv_evt (k : Fin 8) (f : AcqConv → AcqConv) : (s.modConv k f).evt = s.evt := rfl
@[simp] theorem modConv_flash (k : Fin 8) (f : AcqConv → AcqConv) : (s.modConv k f).flash = s.flash := rfl
@[simp] theorem modConv_bus (k : Fin 8) (f : AcqConv → AcqConv) : (s.modConv k f).bus = s.bus := rfl
@[simp] theorem modConv_pos (k : Fin 8) (f : AcqConv → AcqConv) : (s.modConv k f).pos = s.pos := rfl
@[simp] theorem modConv_cle (k : Fin 8) (f : AcqConv → AcqConv) : (s.modConv k f).cle = s.cle := rfl
@[simp] theorem modConv_wfu (k : Fin 8) (f : AcqConv → AcqConv) : (s.modConv k f).wfu = s.wfu := rfl
@[simp] theorem modConv_gdp (k : Fin 8) (f : AcqConv → AcqConv) : (s.modConv k f).gdp = s.gdp := rfl
@[simp] theorem modConv_tdu (k : Fin 8) (f : AcqConv → AcqConv) : (s.modConv k f).tdu = s.tdu := rfl
@[simp] theorem modConv_budget (k : Fin 8) (f : AcqConv → AcqConv) : (s.modConv k f).budget = s.budget := rfl
@[simp] theorem modConv_act (k : Fin 8) (f : AcqConv → AcqConv) : (s.modConv k f).act = s.act := rfl
@[simp] theorem modConv_aux (k : Fin 8) (f : AcqConv → AcqConv) : (s.modConv k f).aux = s.aux := rfl
@[simp] theorem modConv_enp (k : Fin 8) (f : AcqConv → AcqConv) : (s.modConv k f).enp = s.enp := rfl
@[simp] theorem modConv_th (k : Fin 8) (f : AcqConv → AcqConv) : (s.modConv k f).th = s.th := rfl
@[simp] theorem modConv_gte (k : Fin 8) (f : AcqConv → AcqConv) : (s.modConv k f).gte = s.gte := rfl
@[simp] theorem modConv_net (k : Fin 8) (f : AcqConv → AcqConv) : (s.modConv k f).net = s.net := rfl
@[simp] theorem modConv_cnv (k : Fin 8) (f : AcqConv → AcqConv) : (s.modConv k f).cnv = s.cnv := rfl
@[simp] theorem modConv_twn (k : Fin 8) (f : AcqConv → AcqConv) : (s.modConv k f).twn = s.twn := rfl
@[simp] theorem modConv_saf (k : Fin 8) (f : AcqConv → AcqConv) : (s.modConv k f).saf = s.saf := rfl
@[simp] theorem modConv_freeCount (k : Fin 8) (f : AcqConv → AcqConv) : (s.modConv k f).freeCount = s.freeCount := rfl

@[simp] theorem modChan_pending (n : Fin 48) (f : AcqChan → AcqChan) : (s.modChan n f).pending = s.pending := rfl
@[simp] theorem modChan_variant (n : Fin 48) (f : AcqChan → AcqChan) : (s.modChan n f).variant = s.variant := rfl
@[simp] theorem modChan_hasB (n : Fin 48) (f : AcqChan → AcqChan) : (s.modChan n f).hasB = s.hasB := rfl
@[simp] theorem modChan_hasCharger (n : Fin 48) (f : AcqChan → AcqChan) : (s.modChan n f).hasCharger = s.hasCharger := rfl
@[simp] theorem modChan_hasPairs (n : Fin 48) (f : AcqChan → AcqChan) : (s.modChan n f).hasPairs = s.hasPairs := rfl
@[simp] theorem modChan_regs (n : Fin 48) (f : AcqChan → AcqChan) : (s.modChan n f).regs = s.regs := rfl
@[simp] theorem modChan_reg (n : Fin 48) (f : AcqChan → AcqChan) (q : Nat) : (s.modChan n f).reg q = s.reg q := rfl
@[simp] theorem modChan_fld (n : Fin 48) (f : AcqChan → AcqChan) (q : Nat) (y : Fld) : (s.modChan n f).fld q y = s.fld q y := rfl
@[simp] theorem modChan_bit (n : Fin 48) (f : AcqChan → AcqChan) (q : Nat) (y : Fld) : (s.modChan n f).bit q y = s.bit q y := rfl
@[simp] theorem modChan_nreg (n : Fin 48) (f : AcqChan → AcqChan) (q : Nat) : (s.modChan n f).nreg q = s.nreg q := rfl
@[simp] theorem modChan_now (n : Fin 48) (f : AcqChan → AcqChan) : (s.modChan n f).now = s.now := rfl
@[simp] theorem modChan_shadow (n : Fin 48) (f : AcqChan → AcqChan) : (s.modChan n f).shadow = s.shadow := rfl
@[simp] theorem modChan_cleShadow (n : Fin 48) (f : AcqChan → AcqChan) : (s.modChan n f).cleShadow = s.cleShadow := rfl
@[simp] theorem modChan_mem (n : Fin 48) (f : AcqChan → AcqChan) : (s.modChan n f).mem = s.mem := rfl
@[simp] theorem modChan_byte (n : Fin 48) (f : AcqChan → AcqChan) (b : Nat) : (s.modChan n f).byte b = s.byte b := rfl
@[simp] theorem modChan_word (n : Fin 48) (f : AcqChan → AcqChan) (b : Nat) : (s.modChan n f).word b = s.word b := rfl
@[simp] theorem modChan_mod (n : Fin 48) (f : AcqChan → AcqChan) : (s.modChan n f).mod = s.mod := rfl
@[simp] theorem modChan_mode (n : Fin 48) (f : AcqChan → AcqChan) : (s.modChan n f).mode = s.mode := rfl
@[simp] theorem modChan_clk (n : Fin 48) (f : AcqChan → AcqChan) : (s.modChan n f).clk = s.clk := rfl
@[simp] theorem modChan_seq (n : Fin 48) (f : AcqChan → AcqChan) : (s.modChan n f).seq = s.seq := rfl
@[simp] theorem modChan_engine (n : Fin 48) (f : AcqChan → AcqChan) (y : Fin 8) : (s.modChan n f).engine y = s.engine y := rfl
@[simp] theorem modChan_evt (n : Fin 48) (f : AcqChan → AcqChan) : (s.modChan n f).evt = s.evt := rfl
@[simp] theorem modChan_flash (n : Fin 48) (f : AcqChan → AcqChan) : (s.modChan n f).flash = s.flash := rfl
@[simp] theorem modChan_bus (n : Fin 48) (f : AcqChan → AcqChan) : (s.modChan n f).bus = s.bus := rfl
@[simp] theorem modChan_pos (n : Fin 48) (f : AcqChan → AcqChan) : (s.modChan n f).pos = s.pos := rfl
@[simp] theorem modChan_cle (n : Fin 48) (f : AcqChan → AcqChan) : (s.modChan n f).cle = s.cle := rfl
@[simp] theorem modChan_wfu (n : Fin 48) (f : AcqChan → AcqChan) : (s.modChan n f).wfu = s.wfu := rfl
@[simp] theorem modChan_gdp (n : Fin 48) (f : AcqChan → AcqChan) : (s.modChan n f).gdp = s.gdp := rfl
@[simp] theorem modChan_tdu (n : Fin 48) (f : AcqChan → AcqChan) : (s.modChan n f).tdu = s.tdu := rfl
@[simp] theorem modChan_budget (n : Fin 48) (f : AcqChan → AcqChan) : (s.modChan n f).budget = s.budget := rfl
@[simp] theorem modChan_act (n : Fin 48) (f : AcqChan → AcqChan) : (s.modChan n f).act = s.act := rfl
@[simp] theorem modChan_aux (n : Fin 48) (f : AcqChan → AcqChan) : (s.modChan n f).aux = s.aux := rfl
@[simp] theorem modChan_enp (n : Fin 48) (f : AcqChan → AcqChan) : (s.modChan n f).enp = s.enp := rfl
@[simp] theorem modChan_th (n : Fin 48) (f : AcqChan → AcqChan) : (s.modChan n f).th = s.th := rfl
@[simp] theorem modChan_gte (n : Fin 48) (f : AcqChan → AcqChan) : (s.modChan n f).gte = s.gte := rfl
@[simp] theorem modChan_net (n : Fin 48) (f : AcqChan → AcqChan) : (s.modChan n f).net = s.net := rfl
@[simp] theorem modChan_cnv (n : Fin 48) (f : AcqChan → AcqChan) : (s.modChan n f).cnv = s.cnv := rfl
@[simp] theorem modChan_twn (n : Fin 48) (f : AcqChan → AcqChan) : (s.modChan n f).twn = s.twn := rfl
@[simp] theorem modChan_saf (n : Fin 48) (f : AcqChan → AcqChan) : (s.modChan n f).saf = s.saf := rfl
@[simp] theorem modChan_freeCount (n : Fin 48) (f : AcqChan → AcqChan) : (s.modChan n f).freeCount = s.freeCount := rfl

@[simp] theorem modAxis_pending (a : Fin 11) (f : Axis → Axis) : (s.modAxis a f).pending = s.pending := rfl
@[simp] theorem modAxis_variant (a : Fin 11) (f : Axis → Axis) : (s.modAxis a f).variant = s.variant := rfl
@[simp] theorem modAxis_hasB (a : Fin 11) (f : Axis → Axis) : (s.modAxis a f).hasB = s.hasB := rfl
@[simp] theorem modAxis_hasCharger (a : Fin 11) (f : Axis → Axis) : (s.modAxis a f).hasCharger = s.hasCharger := rfl
@[simp] theorem modAxis_hasPairs (a : Fin 11) (f : Axis → Axis) : (s.modAxis a f).hasPairs = s.hasPairs := rfl
@[simp] theorem modAxis_regs (a : Fin 11) (f : Axis → Axis) : (s.modAxis a f).regs = s.regs := rfl
@[simp] theorem modAxis_reg (a : Fin 11) (f : Axis → Axis) (q : Nat) : (s.modAxis a f).reg q = s.reg q := rfl
@[simp] theorem modAxis_fld (a : Fin 11) (f : Axis → Axis) (q : Nat) (y : Fld) : (s.modAxis a f).fld q y = s.fld q y := rfl
@[simp] theorem modAxis_bit (a : Fin 11) (f : Axis → Axis) (q : Nat) (y : Fld) : (s.modAxis a f).bit q y = s.bit q y := rfl
@[simp] theorem modAxis_nreg (a : Fin 11) (f : Axis → Axis) (q : Nat) : (s.modAxis a f).nreg q = s.nreg q := rfl
@[simp] theorem modAxis_now (a : Fin 11) (f : Axis → Axis) : (s.modAxis a f).now = s.now := rfl
@[simp] theorem modAxis_shadow (a : Fin 11) (f : Axis → Axis) : (s.modAxis a f).shadow = s.shadow := rfl
@[simp] theorem modAxis_cleShadow (a : Fin 11) (f : Axis → Axis) : (s.modAxis a f).cleShadow = s.cleShadow := rfl
@[simp] theorem modAxis_mem (a : Fin 11) (f : Axis → Axis) : (s.modAxis a f).mem = s.mem := rfl
@[simp] theorem modAxis_byte (a : Fin 11) (f : Axis → Axis) (b : Nat) : (s.modAxis a f).byte b = s.byte b := rfl
@[simp] theorem modAxis_word (a : Fin 11) (f : Axis → Axis) (b : Nat) : (s.modAxis a f).word b = s.word b := rfl
@[simp] theorem modAxis_mod (a : Fin 11) (f : Axis → Axis) : (s.modAxis a f).mod = s.mod := rfl
@[simp] theorem modAxis_mode (a : Fin 11) (f : Axis → Axis) : (s.modAxis a f).mode = s.mode := rfl
@[simp] theorem modAxis_clk (a : Fin 11) (f : Axis → Axis) : (s.modAxis a f).clk = s.clk := rfl
@[simp] theorem modAxis_seq (a : Fin 11) (f : Axis → Axis) : (s.modAxis a f).seq = s.seq := rfl
@[simp] theorem modAxis_engine (a : Fin 11) (f : Axis → Axis) (y : Fin 8) : (s.modAxis a f).engine y = s.engine y := rfl
@[simp] theorem modAxis_evt (a : Fin 11) (f : Axis → Axis) : (s.modAxis a f).evt = s.evt := rfl
@[simp] theorem modAxis_flash (a : Fin 11) (f : Axis → Axis) : (s.modAxis a f).flash = s.flash := rfl
@[simp] theorem modAxis_bus (a : Fin 11) (f : Axis → Axis) : (s.modAxis a f).bus = s.bus := rfl
@[simp] theorem modAxis_acq (a : Fin 11) (f : Axis → Axis) : (s.modAxis a f).acq = s.acq := rfl
@[simp] theorem modAxis_cle (a : Fin 11) (f : Axis → Axis) : (s.modAxis a f).cle = s.cle := rfl
@[simp] theorem modAxis_wfu (a : Fin 11) (f : Axis → Axis) : (s.modAxis a f).wfu = s.wfu := rfl
@[simp] theorem modAxis_gdp (a : Fin 11) (f : Axis → Axis) : (s.modAxis a f).gdp = s.gdp := rfl
@[simp] theorem modAxis_tdu (a : Fin 11) (f : Axis → Axis) : (s.modAxis a f).tdu = s.tdu := rfl
@[simp] theorem modAxis_budget (a : Fin 11) (f : Axis → Axis) : (s.modAxis a f).budget = s.budget := rfl
@[simp] theorem modAxis_act (a : Fin 11) (f : Axis → Axis) : (s.modAxis a f).act = s.act := rfl
@[simp] theorem modAxis_aux (a : Fin 11) (f : Axis → Axis) : (s.modAxis a f).aux = s.aux := rfl
@[simp] theorem modAxis_enp (a : Fin 11) (f : Axis → Axis) : (s.modAxis a f).enp = s.enp := rfl
@[simp] theorem modAxis_th (a : Fin 11) (f : Axis → Axis) : (s.modAxis a f).th = s.th := rfl
@[simp] theorem modAxis_gte (a : Fin 11) (f : Axis → Axis) : (s.modAxis a f).gte = s.gte := rfl
@[simp] theorem modAxis_net (a : Fin 11) (f : Axis → Axis) : (s.modAxis a f).net = s.net := rfl
@[simp] theorem modAxis_cnv (a : Fin 11) (f : Axis → Axis) : (s.modAxis a f).cnv = s.cnv := rfl
@[simp] theorem modAxis_twn (a : Fin 11) (f : Axis → Axis) : (s.modAxis a f).twn = s.twn := rfl
@[simp] theorem modAxis_saf (a : Fin 11) (f : Axis → Axis) : (s.modAxis a f).saf = s.saf := rfl
@[simp] theorem modAxis_freeCount (a : Fin 11) (f : Axis → Axis) : (s.modAxis a f).freeCount = s.freeCount := rfl

@[simp] theorem modSlot_pending (n : Fin 64) (f : Slot → Slot) : (s.modSlot n f).pending = s.pending := rfl
@[simp] theorem modSlot_variant (n : Fin 64) (f : Slot → Slot) : (s.modSlot n f).variant = s.variant := rfl
@[simp] theorem modSlot_hasB (n : Fin 64) (f : Slot → Slot) : (s.modSlot n f).hasB = s.hasB := rfl
@[simp] theorem modSlot_hasCharger (n : Fin 64) (f : Slot → Slot) : (s.modSlot n f).hasCharger = s.hasCharger := rfl
@[simp] theorem modSlot_hasPairs (n : Fin 64) (f : Slot → Slot) : (s.modSlot n f).hasPairs = s.hasPairs := rfl
@[simp] theorem modSlot_regs (n : Fin 64) (f : Slot → Slot) : (s.modSlot n f).regs = s.regs := rfl
@[simp] theorem modSlot_reg (n : Fin 64) (f : Slot → Slot) (q : Nat) : (s.modSlot n f).reg q = s.reg q := rfl
@[simp] theorem modSlot_fld (n : Fin 64) (f : Slot → Slot) (q : Nat) (y : Fld) : (s.modSlot n f).fld q y = s.fld q y := rfl
@[simp] theorem modSlot_bit (n : Fin 64) (f : Slot → Slot) (q : Nat) (y : Fld) : (s.modSlot n f).bit q y = s.bit q y := rfl
@[simp] theorem modSlot_nreg (n : Fin 64) (f : Slot → Slot) (q : Nat) : (s.modSlot n f).nreg q = s.nreg q := rfl
@[simp] theorem modSlot_now (n : Fin 64) (f : Slot → Slot) : (s.modSlot n f).now = s.now := rfl
@[simp] theorem modSlot_shadow (n : Fin 64) (f : Slot → Slot) : (s.modSlot n f).shadow = s.shadow := rfl
@[simp] theorem modSlot_cleShadow (n : Fin 64) (f : Slot → Slot) : (s.modSlot n f).cleShadow = s.cleShadow := rfl
@[simp] theorem modSlot_mem (n : Fin 64) (f : Slot → Slot) : (s.modSlot n f).mem = s.mem := rfl
@[simp] theorem modSlot_byte (n : Fin 64) (f : Slot → Slot) (b : Nat) : (s.modSlot n f).byte b = s.byte b := rfl
@[simp] theorem modSlot_word (n : Fin 64) (f : Slot → Slot) (b : Nat) : (s.modSlot n f).word b = s.word b := rfl
@[simp] theorem modSlot_mod (n : Fin 64) (f : Slot → Slot) : (s.modSlot n f).mod = s.mod := rfl
@[simp] theorem modSlot_mode (n : Fin 64) (f : Slot → Slot) : (s.modSlot n f).mode = s.mode := rfl
@[simp] theorem modSlot_clk (n : Fin 64) (f : Slot → Slot) : (s.modSlot n f).clk = s.clk := rfl
@[simp] theorem modSlot_seq (n : Fin 64) (f : Slot → Slot) : (s.modSlot n f).seq = s.seq := rfl
@[simp] theorem modSlot_engine (n : Fin 64) (f : Slot → Slot) (y : Fin 8) : (s.modSlot n f).engine y = s.engine y := rfl
@[simp] theorem modSlot_evt (n : Fin 64) (f : Slot → Slot) : (s.modSlot n f).evt = s.evt := rfl
@[simp] theorem modSlot_flash (n : Fin 64) (f : Slot → Slot) : (s.modSlot n f).flash = s.flash := rfl
@[simp] theorem modSlot_bus (n : Fin 64) (f : Slot → Slot) : (s.modSlot n f).bus = s.bus := rfl
@[simp] theorem modSlot_acq (n : Fin 64) (f : Slot → Slot) : (s.modSlot n f).acq = s.acq := rfl
@[simp] theorem modSlot_pos (n : Fin 64) (f : Slot → Slot) : (s.modSlot n f).pos = s.pos := rfl
@[simp] theorem modSlot_wfu (n : Fin 64) (f : Slot → Slot) : (s.modSlot n f).wfu = s.wfu := rfl
@[simp] theorem modSlot_gdp (n : Fin 64) (f : Slot → Slot) : (s.modSlot n f).gdp = s.gdp := rfl
@[simp] theorem modSlot_tdu (n : Fin 64) (f : Slot → Slot) : (s.modSlot n f).tdu = s.tdu := rfl
@[simp] theorem modSlot_budget (n : Fin 64) (f : Slot → Slot) : (s.modSlot n f).budget = s.budget := rfl
@[simp] theorem modSlot_act (n : Fin 64) (f : Slot → Slot) : (s.modSlot n f).act = s.act := rfl
@[simp] theorem modSlot_aux (n : Fin 64) (f : Slot → Slot) : (s.modSlot n f).aux = s.aux := rfl
@[simp] theorem modSlot_enp (n : Fin 64) (f : Slot → Slot) : (s.modSlot n f).enp = s.enp := rfl
@[simp] theorem modSlot_th (n : Fin 64) (f : Slot → Slot) : (s.modSlot n f).th = s.th := rfl
@[simp] theorem modSlot_gte (n : Fin 64) (f : Slot → Slot) : (s.modSlot n f).gte = s.gte := rfl
@[simp] theorem modSlot_net (n : Fin 64) (f : Slot → Slot) : (s.modSlot n f).net = s.net := rfl
@[simp] theorem modSlot_cnv (n : Fin 64) (f : Slot → Slot) : (s.modSlot n f).cnv = s.cnv := rfl
@[simp] theorem modSlot_twn (n : Fin 64) (f : Slot → Slot) : (s.modSlot n f).twn = s.twn := rfl
@[simp] theorem modSlot_saf (n : Fin 64) (f : Slot → Slot) : (s.modSlot n f).saf = s.saf := rfl
@[simp] theorem modSlot_freeCount (n : Fin 64) (f : Slot → Slot) : (s.modSlot n f).freeCount = s.freeCount := rfl

@[simp] theorem modPad_pending (p : Fin 4) (f : CmdPad → CmdPad) : (s.modPad p f).pending = s.pending := rfl
@[simp] theorem modPad_variant (p : Fin 4) (f : CmdPad → CmdPad) : (s.modPad p f).variant = s.variant := rfl
@[simp] theorem modPad_hasB (p : Fin 4) (f : CmdPad → CmdPad) : (s.modPad p f).hasB = s.hasB := rfl
@[simp] theorem modPad_hasCharger (p : Fin 4) (f : CmdPad → CmdPad) : (s.modPad p f).hasCharger = s.hasCharger := rfl
@[simp] theorem modPad_hasPairs (p : Fin 4) (f : CmdPad → CmdPad) : (s.modPad p f).hasPairs = s.hasPairs := rfl
@[simp] theorem modPad_regs (p : Fin 4) (f : CmdPad → CmdPad) : (s.modPad p f).regs = s.regs := rfl
@[simp] theorem modPad_reg (p : Fin 4) (f : CmdPad → CmdPad) (q : Nat) : (s.modPad p f).reg q = s.reg q := rfl
@[simp] theorem modPad_fld (p : Fin 4) (f : CmdPad → CmdPad) (q : Nat) (y : Fld) : (s.modPad p f).fld q y = s.fld q y := rfl
@[simp] theorem modPad_bit (p : Fin 4) (f : CmdPad → CmdPad) (q : Nat) (y : Fld) : (s.modPad p f).bit q y = s.bit q y := rfl
@[simp] theorem modPad_nreg (p : Fin 4) (f : CmdPad → CmdPad) (q : Nat) : (s.modPad p f).nreg q = s.nreg q := rfl
@[simp] theorem modPad_now (p : Fin 4) (f : CmdPad → CmdPad) : (s.modPad p f).now = s.now := rfl
@[simp] theorem modPad_shadow (p : Fin 4) (f : CmdPad → CmdPad) : (s.modPad p f).shadow = s.shadow := rfl
@[simp] theorem modPad_cleShadow (p : Fin 4) (f : CmdPad → CmdPad) : (s.modPad p f).cleShadow = s.cleShadow := rfl
@[simp] theorem modPad_mem (p : Fin 4) (f : CmdPad → CmdPad) : (s.modPad p f).mem = s.mem := rfl
@[simp] theorem modPad_byte (p : Fin 4) (f : CmdPad → CmdPad) (b : Nat) : (s.modPad p f).byte b = s.byte b := rfl
@[simp] theorem modPad_word (p : Fin 4) (f : CmdPad → CmdPad) (b : Nat) : (s.modPad p f).word b = s.word b := rfl
@[simp] theorem modPad_mod (p : Fin 4) (f : CmdPad → CmdPad) : (s.modPad p f).mod = s.mod := rfl
@[simp] theorem modPad_mode (p : Fin 4) (f : CmdPad → CmdPad) : (s.modPad p f).mode = s.mode := rfl
@[simp] theorem modPad_clk (p : Fin 4) (f : CmdPad → CmdPad) : (s.modPad p f).clk = s.clk := rfl
@[simp] theorem modPad_seq (p : Fin 4) (f : CmdPad → CmdPad) : (s.modPad p f).seq = s.seq := rfl
@[simp] theorem modPad_engine (p : Fin 4) (f : CmdPad → CmdPad) (y : Fin 8) : (s.modPad p f).engine y = s.engine y := rfl
@[simp] theorem modPad_evt (p : Fin 4) (f : CmdPad → CmdPad) : (s.modPad p f).evt = s.evt := rfl
@[simp] theorem modPad_flash (p : Fin 4) (f : CmdPad → CmdPad) : (s.modPad p f).flash = s.flash := rfl
@[simp] theorem modPad_bus (p : Fin 4) (f : CmdPad → CmdPad) : (s.modPad p f).bus = s.bus := rfl
@[simp] theorem modPad_acq (p : Fin 4) (f : CmdPad → CmdPad) : (s.modPad p f).acq = s.acq := rfl
@[simp] theorem modPad_pos (p : Fin 4) (f : CmdPad → CmdPad) : (s.modPad p f).pos = s.pos := rfl
@[simp] theorem modPad_wfu (p : Fin 4) (f : CmdPad → CmdPad) : (s.modPad p f).wfu = s.wfu := rfl
@[simp] theorem modPad_gdp (p : Fin 4) (f : CmdPad → CmdPad) : (s.modPad p f).gdp = s.gdp := rfl
@[simp] theorem modPad_tdu (p : Fin 4) (f : CmdPad → CmdPad) : (s.modPad p f).tdu = s.tdu := rfl
@[simp] theorem modPad_budget (p : Fin 4) (f : CmdPad → CmdPad) : (s.modPad p f).budget = s.budget := rfl
@[simp] theorem modPad_act (p : Fin 4) (f : CmdPad → CmdPad) : (s.modPad p f).act = s.act := rfl
@[simp] theorem modPad_aux (p : Fin 4) (f : CmdPad → CmdPad) : (s.modPad p f).aux = s.aux := rfl
@[simp] theorem modPad_enp (p : Fin 4) (f : CmdPad → CmdPad) : (s.modPad p f).enp = s.enp := rfl
@[simp] theorem modPad_th (p : Fin 4) (f : CmdPad → CmdPad) : (s.modPad p f).th = s.th := rfl
@[simp] theorem modPad_gte (p : Fin 4) (f : CmdPad → CmdPad) : (s.modPad p f).gte = s.gte := rfl
@[simp] theorem modPad_net (p : Fin 4) (f : CmdPad → CmdPad) : (s.modPad p f).net = s.net := rfl
@[simp] theorem modPad_cnv (p : Fin 4) (f : CmdPad → CmdPad) : (s.modPad p f).cnv = s.cnv := rfl
@[simp] theorem modPad_twn (p : Fin 4) (f : CmdPad → CmdPad) : (s.modPad p f).twn = s.twn := rfl
@[simp] theorem modPad_saf (p : Fin 4) (f : CmdPad → CmdPad) : (s.modPad p f).saf = s.saf := rfl
@[simp] theorem modPad_freeCount (p : Fin 4) (f : CmdPad → CmdPad) : (s.modPad p f).freeCount = s.freeCount := rfl

@[simp] theorem modLeg_pending (n : Nat) (f : Leg → Leg) : (s.modLeg n f).pending = s.pending := rfl
@[simp] theorem modLeg_variant (n : Nat) (f : Leg → Leg) : (s.modLeg n f).variant = s.variant := rfl
@[simp] theorem modLeg_hasB (n : Nat) (f : Leg → Leg) : (s.modLeg n f).hasB = s.hasB := rfl
@[simp] theorem modLeg_hasCharger (n : Nat) (f : Leg → Leg) : (s.modLeg n f).hasCharger = s.hasCharger := rfl
@[simp] theorem modLeg_hasPairs (n : Nat) (f : Leg → Leg) : (s.modLeg n f).hasPairs = s.hasPairs := rfl
@[simp] theorem modLeg_regs (n : Nat) (f : Leg → Leg) : (s.modLeg n f).regs = s.regs := rfl
@[simp] theorem modLeg_reg (n : Nat) (f : Leg → Leg) (q : Nat) : (s.modLeg n f).reg q = s.reg q := rfl
@[simp] theorem modLeg_fld (n : Nat) (f : Leg → Leg) (q : Nat) (y : Fld) : (s.modLeg n f).fld q y = s.fld q y := rfl
@[simp] theorem modLeg_bit (n : Nat) (f : Leg → Leg) (q : Nat) (y : Fld) : (s.modLeg n f).bit q y = s.bit q y := rfl
@[simp] theorem modLeg_nreg (n : Nat) (f : Leg → Leg) (q : Nat) : (s.modLeg n f).nreg q = s.nreg q := rfl
@[simp] theorem modLeg_now (n : Nat) (f : Leg → Leg) : (s.modLeg n f).now = s.now := rfl
@[simp] theorem modLeg_shadow (n : Nat) (f : Leg → Leg) : (s.modLeg n f).shadow = s.shadow := rfl
@[simp] theorem modLeg_cleShadow (n : Nat) (f : Leg → Leg) : (s.modLeg n f).cleShadow = s.cleShadow := rfl
@[simp] theorem modLeg_mem (n : Nat) (f : Leg → Leg) : (s.modLeg n f).mem = s.mem := rfl
@[simp] theorem modLeg_byte (n : Nat) (f : Leg → Leg) (b : Nat) : (s.modLeg n f).byte b = s.byte b := rfl
@[simp] theorem modLeg_word (n : Nat) (f : Leg → Leg) (b : Nat) : (s.modLeg n f).word b = s.word b := rfl
@[simp] theorem modLeg_mod (n : Nat) (f : Leg → Leg) : (s.modLeg n f).mod = s.mod := rfl
@[simp] theorem modLeg_mode (n : Nat) (f : Leg → Leg) : (s.modLeg n f).mode = s.mode := rfl
@[simp] theorem modLeg_clk (n : Nat) (f : Leg → Leg) : (s.modLeg n f).clk = s.clk := rfl
@[simp] theorem modLeg_seq (n : Nat) (f : Leg → Leg) : (s.modLeg n f).seq = s.seq := rfl
@[simp] theorem modLeg_engine (n : Nat) (f : Leg → Leg) (y : Fin 8) : (s.modLeg n f).engine y = s.engine y := rfl
@[simp] theorem modLeg_evt (n : Nat) (f : Leg → Leg) : (s.modLeg n f).evt = s.evt := rfl
@[simp] theorem modLeg_flash (n : Nat) (f : Leg → Leg) : (s.modLeg n f).flash = s.flash := rfl
@[simp] theorem modLeg_bus (n : Nat) (f : Leg → Leg) : (s.modLeg n f).bus = s.bus := rfl
@[simp] theorem modLeg_acq (n : Nat) (f : Leg → Leg) : (s.modLeg n f).acq = s.acq := rfl
@[simp] theorem modLeg_pos (n : Nat) (f : Leg → Leg) : (s.modLeg n f).pos = s.pos := rfl
@[simp] theorem modLeg_cle (n : Nat) (f : Leg → Leg) : (s.modLeg n f).cle = s.cle := rfl
@[simp] theorem modLeg_gdp (n : Nat) (f : Leg → Leg) : (s.modLeg n f).gdp = s.gdp := rfl
@[simp] theorem modLeg_tdu (n : Nat) (f : Leg → Leg) : (s.modLeg n f).tdu = s.tdu := rfl
@[simp] theorem modLeg_budget (n : Nat) (f : Leg → Leg) : (s.modLeg n f).budget = s.budget := rfl
@[simp] theorem modLeg_act (n : Nat) (f : Leg → Leg) : (s.modLeg n f).act = s.act := rfl
@[simp] theorem modLeg_aux (n : Nat) (f : Leg → Leg) : (s.modLeg n f).aux = s.aux := rfl
@[simp] theorem modLeg_enp (n : Nat) (f : Leg → Leg) : (s.modLeg n f).enp = s.enp := rfl
@[simp] theorem modLeg_th (n : Nat) (f : Leg → Leg) : (s.modLeg n f).th = s.th := rfl
@[simp] theorem modLeg_gte (n : Nat) (f : Leg → Leg) : (s.modLeg n f).gte = s.gte := rfl
@[simp] theorem modLeg_net (n : Nat) (f : Leg → Leg) : (s.modLeg n f).net = s.net := rfl
@[simp] theorem modLeg_cnv (n : Nat) (f : Leg → Leg) : (s.modLeg n f).cnv = s.cnv := rfl
@[simp] theorem modLeg_twn (n : Nat) (f : Leg → Leg) : (s.modLeg n f).twn = s.twn := rfl
@[simp] theorem modLeg_saf (n : Nat) (f : Leg → Leg) : (s.modLeg n f).saf = s.saf := rfl
@[simp] theorem modLeg_freeCount (n : Nat) (f : Leg → Leg) : (s.modLeg n f).freeCount = s.freeCount := rfl

@[simp] theorem modTb_pending (t : Fin 10) (f : Timebase → Timebase) : (s.modTb t f).pending = s.pending := rfl
@[simp] theorem modTb_variant (t : Fin 10) (f : Timebase → Timebase) : (s.modTb t f).variant = s.variant := rfl
@[simp] theorem modTb_hasB (t : Fin 10) (f : Timebase → Timebase) : (s.modTb t f).hasB = s.hasB := rfl
@[simp] theorem modTb_hasCharger (t : Fin 10) (f : Timebase → Timebase) : (s.modTb t f).hasCharger = s.hasCharger := rfl
@[simp] theorem modTb_hasPairs (t : Fin 10) (f : Timebase → Timebase) : (s.modTb t f).hasPairs = s.hasPairs := rfl
@[simp] theorem modTb_regs (t : Fin 10) (f : Timebase → Timebase) : (s.modTb t f).regs = s.regs := rfl
@[simp] theorem modTb_reg (t : Fin 10) (f : Timebase → Timebase) (q : Nat) : (s.modTb t f).reg q = s.reg q := rfl
@[simp] theorem modTb_fld (t : Fin 10) (f : Timebase → Timebase) (q : Nat) (y : Fld) : (s.modTb t f).fld q y = s.fld q y := rfl
@[simp] theorem modTb_bit (t : Fin 10) (f : Timebase → Timebase) (q : Nat) (y : Fld) : (s.modTb t f).bit q y = s.bit q y := rfl
@[simp] theorem modTb_nreg (t : Fin 10) (f : Timebase → Timebase) (q : Nat) : (s.modTb t f).nreg q = s.nreg q := rfl
@[simp] theorem modTb_now (t : Fin 10) (f : Timebase → Timebase) : (s.modTb t f).now = s.now := rfl
@[simp] theorem modTb_shadow (t : Fin 10) (f : Timebase → Timebase) : (s.modTb t f).shadow = s.shadow := rfl
@[simp] theorem modTb_cleShadow (t : Fin 10) (f : Timebase → Timebase) : (s.modTb t f).cleShadow = s.cleShadow := rfl
@[simp] theorem modTb_mem (t : Fin 10) (f : Timebase → Timebase) : (s.modTb t f).mem = s.mem := rfl
@[simp] theorem modTb_byte (t : Fin 10) (f : Timebase → Timebase) (b : Nat) : (s.modTb t f).byte b = s.byte b := rfl
@[simp] theorem modTb_word (t : Fin 10) (f : Timebase → Timebase) (b : Nat) : (s.modTb t f).word b = s.word b := rfl
@[simp] theorem modTb_mod (t : Fin 10) (f : Timebase → Timebase) : (s.modTb t f).mod = s.mod := rfl
@[simp] theorem modTb_mode (t : Fin 10) (f : Timebase → Timebase) : (s.modTb t f).mode = s.mode := rfl
@[simp] theorem modTb_clk (t : Fin 10) (f : Timebase → Timebase) : (s.modTb t f).clk = s.clk := rfl
@[simp] theorem modTb_seq (t : Fin 10) (f : Timebase → Timebase) : (s.modTb t f).seq = s.seq := rfl
@[simp] theorem modTb_engine (t : Fin 10) (f : Timebase → Timebase) (y : Fin 8) : (s.modTb t f).engine y = s.engine y := rfl
@[simp] theorem modTb_evt (t : Fin 10) (f : Timebase → Timebase) : (s.modTb t f).evt = s.evt := rfl
@[simp] theorem modTb_flash (t : Fin 10) (f : Timebase → Timebase) : (s.modTb t f).flash = s.flash := rfl
@[simp] theorem modTb_bus (t : Fin 10) (f : Timebase → Timebase) : (s.modTb t f).bus = s.bus := rfl
@[simp] theorem modTb_acq (t : Fin 10) (f : Timebase → Timebase) : (s.modTb t f).acq = s.acq := rfl
@[simp] theorem modTb_pos (t : Fin 10) (f : Timebase → Timebase) : (s.modTb t f).pos = s.pos := rfl
@[simp] theorem modTb_cle (t : Fin 10) (f : Timebase → Timebase) : (s.modTb t f).cle = s.cle := rfl
@[simp] theorem modTb_gdp (t : Fin 10) (f : Timebase → Timebase) : (s.modTb t f).gdp = s.gdp := rfl
@[simp] theorem modTb_tdu (t : Fin 10) (f : Timebase → Timebase) : (s.modTb t f).tdu = s.tdu := rfl
@[simp] theorem modTb_budget (t : Fin 10) (f : Timebase → Timebase) : (s.modTb t f).budget = s.budget := rfl
@[simp] theorem modTb_act (t : Fin 10) (f : Timebase → Timebase) : (s.modTb t f).act = s.act := rfl
@[simp] theorem modTb_aux (t : Fin 10) (f : Timebase → Timebase) : (s.modTb t f).aux = s.aux := rfl
@[simp] theorem modTb_enp (t : Fin 10) (f : Timebase → Timebase) : (s.modTb t f).enp = s.enp := rfl
@[simp] theorem modTb_th (t : Fin 10) (f : Timebase → Timebase) : (s.modTb t f).th = s.th := rfl
@[simp] theorem modTb_gte (t : Fin 10) (f : Timebase → Timebase) : (s.modTb t f).gte = s.gte := rfl
@[simp] theorem modTb_net (t : Fin 10) (f : Timebase → Timebase) : (s.modTb t f).net = s.net := rfl
@[simp] theorem modTb_cnv (t : Fin 10) (f : Timebase → Timebase) : (s.modTb t f).cnv = s.cnv := rfl
@[simp] theorem modTb_twn (t : Fin 10) (f : Timebase → Timebase) : (s.modTb t f).twn = s.twn := rfl
@[simp] theorem modTb_saf (t : Fin 10) (f : Timebase → Timebase) : (s.modTb t f).saf = s.saf := rfl
@[simp] theorem modTb_freeCount (t : Fin 10) (f : Timebase → Timebase) : (s.modTb t f).freeCount = s.freeCount := rfl

@[simp] theorem modTd_pending (x : Fin 2) (f : TdChan → TdChan) : (s.modTd x f).pending = s.pending := rfl
@[simp] theorem modTd_variant (x : Fin 2) (f : TdChan → TdChan) : (s.modTd x f).variant = s.variant := rfl
@[simp] theorem modTd_hasB (x : Fin 2) (f : TdChan → TdChan) : (s.modTd x f).hasB = s.hasB := rfl
@[simp] theorem modTd_hasCharger (x : Fin 2) (f : TdChan → TdChan) : (s.modTd x f).hasCharger = s.hasCharger := rfl
@[simp] theorem modTd_hasPairs (x : Fin 2) (f : TdChan → TdChan) : (s.modTd x f).hasPairs = s.hasPairs := rfl
@[simp] theorem modTd_regs (x : Fin 2) (f : TdChan → TdChan) : (s.modTd x f).regs = s.regs := rfl
@[simp] theorem modTd_reg (x : Fin 2) (f : TdChan → TdChan) (q : Nat) : (s.modTd x f).reg q = s.reg q := rfl
@[simp] theorem modTd_fld (x : Fin 2) (f : TdChan → TdChan) (q : Nat) (y : Fld) : (s.modTd x f).fld q y = s.fld q y := rfl
@[simp] theorem modTd_bit (x : Fin 2) (f : TdChan → TdChan) (q : Nat) (y : Fld) : (s.modTd x f).bit q y = s.bit q y := rfl
@[simp] theorem modTd_nreg (x : Fin 2) (f : TdChan → TdChan) (q : Nat) : (s.modTd x f).nreg q = s.nreg q := rfl
@[simp] theorem modTd_now (x : Fin 2) (f : TdChan → TdChan) : (s.modTd x f).now = s.now := rfl
@[simp] theorem modTd_shadow (x : Fin 2) (f : TdChan → TdChan) : (s.modTd x f).shadow = s.shadow := rfl
@[simp] theorem modTd_cleShadow (x : Fin 2) (f : TdChan → TdChan) : (s.modTd x f).cleShadow = s.cleShadow := rfl
@[simp] theorem modTd_mem (x : Fin 2) (f : TdChan → TdChan) : (s.modTd x f).mem = s.mem := rfl
@[simp] theorem modTd_byte (x : Fin 2) (f : TdChan → TdChan) (b : Nat) : (s.modTd x f).byte b = s.byte b := rfl
@[simp] theorem modTd_word (x : Fin 2) (f : TdChan → TdChan) (b : Nat) : (s.modTd x f).word b = s.word b := rfl
@[simp] theorem modTd_mod (x : Fin 2) (f : TdChan → TdChan) : (s.modTd x f).mod = s.mod := rfl
@[simp] theorem modTd_mode (x : Fin 2) (f : TdChan → TdChan) : (s.modTd x f).mode = s.mode := rfl
@[simp] theorem modTd_clk (x : Fin 2) (f : TdChan → TdChan) : (s.modTd x f).clk = s.clk := rfl
@[simp] theorem modTd_seq (x : Fin 2) (f : TdChan → TdChan) : (s.modTd x f).seq = s.seq := rfl
@[simp] theorem modTd_engine (x : Fin 2) (f : TdChan → TdChan) (y : Fin 8) : (s.modTd x f).engine y = s.engine y := rfl
@[simp] theorem modTd_evt (x : Fin 2) (f : TdChan → TdChan) : (s.modTd x f).evt = s.evt := rfl
@[simp] theorem modTd_flash (x : Fin 2) (f : TdChan → TdChan) : (s.modTd x f).flash = s.flash := rfl
@[simp] theorem modTd_bus (x : Fin 2) (f : TdChan → TdChan) : (s.modTd x f).bus = s.bus := rfl
@[simp] theorem modTd_acq (x : Fin 2) (f : TdChan → TdChan) : (s.modTd x f).acq = s.acq := rfl
@[simp] theorem modTd_pos (x : Fin 2) (f : TdChan → TdChan) : (s.modTd x f).pos = s.pos := rfl
@[simp] theorem modTd_cle (x : Fin 2) (f : TdChan → TdChan) : (s.modTd x f).cle = s.cle := rfl
@[simp] theorem modTd_wfu (x : Fin 2) (f : TdChan → TdChan) : (s.modTd x f).wfu = s.wfu := rfl
@[simp] theorem modTd_gdp (x : Fin 2) (f : TdChan → TdChan) : (s.modTd x f).gdp = s.gdp := rfl
@[simp] theorem modTd_budget (x : Fin 2) (f : TdChan → TdChan) : (s.modTd x f).budget = s.budget := rfl
@[simp] theorem modTd_act (x : Fin 2) (f : TdChan → TdChan) : (s.modTd x f).act = s.act := rfl
@[simp] theorem modTd_aux (x : Fin 2) (f : TdChan → TdChan) : (s.modTd x f).aux = s.aux := rfl
@[simp] theorem modTd_enp (x : Fin 2) (f : TdChan → TdChan) : (s.modTd x f).enp = s.enp := rfl
@[simp] theorem modTd_th (x : Fin 2) (f : TdChan → TdChan) : (s.modTd x f).th = s.th := rfl
@[simp] theorem modTd_gte (x : Fin 2) (f : TdChan → TdChan) : (s.modTd x f).gte = s.gte := rfl
@[simp] theorem modTd_net (x : Fin 2) (f : TdChan → TdChan) : (s.modTd x f).net = s.net := rfl
@[simp] theorem modTd_cnv (x : Fin 2) (f : TdChan → TdChan) : (s.modTd x f).cnv = s.cnv := rfl
@[simp] theorem modTd_twn (x : Fin 2) (f : TdChan → TdChan) : (s.modTd x f).twn = s.twn := rfl
@[simp] theorem modTd_saf (x : Fin 2) (f : TdChan → TdChan) : (s.modTd x f).saf = s.saf := rfl
@[simp] theorem modTd_freeCount (x : Fin 2) (f : TdChan → TdChan) : (s.modTd x f).freeCount = s.freeCount := rfl

@[simp] theorem modBudget_pending (f : Budget → Budget) : (s.modBudget f).pending = s.pending := rfl
@[simp] theorem modBudget_variant (f : Budget → Budget) : (s.modBudget f).variant = s.variant := rfl
@[simp] theorem modBudget_hasB (f : Budget → Budget) : (s.modBudget f).hasB = s.hasB := rfl
@[simp] theorem modBudget_hasCharger (f : Budget → Budget) : (s.modBudget f).hasCharger = s.hasCharger := rfl
@[simp] theorem modBudget_hasPairs (f : Budget → Budget) : (s.modBudget f).hasPairs = s.hasPairs := rfl
@[simp] theorem modBudget_regs (f : Budget → Budget) : (s.modBudget f).regs = s.regs := rfl
@[simp] theorem modBudget_reg (f : Budget → Budget) (q : Nat) : (s.modBudget f).reg q = s.reg q := rfl
@[simp] theorem modBudget_fld (f : Budget → Budget) (q : Nat) (y : Fld) : (s.modBudget f).fld q y = s.fld q y := rfl
@[simp] theorem modBudget_bit (f : Budget → Budget) (q : Nat) (y : Fld) : (s.modBudget f).bit q y = s.bit q y := rfl
@[simp] theorem modBudget_nreg (f : Budget → Budget) (q : Nat) : (s.modBudget f).nreg q = s.nreg q := rfl
@[simp] theorem modBudget_now (f : Budget → Budget) : (s.modBudget f).now = s.now := rfl
@[simp] theorem modBudget_shadow (f : Budget → Budget) : (s.modBudget f).shadow = s.shadow := rfl
@[simp] theorem modBudget_cleShadow (f : Budget → Budget) : (s.modBudget f).cleShadow = s.cleShadow := rfl
@[simp] theorem modBudget_mem (f : Budget → Budget) : (s.modBudget f).mem = s.mem := rfl
@[simp] theorem modBudget_byte (f : Budget → Budget) (b : Nat) : (s.modBudget f).byte b = s.byte b := rfl
@[simp] theorem modBudget_word (f : Budget → Budget) (b : Nat) : (s.modBudget f).word b = s.word b := rfl
@[simp] theorem modBudget_mod (f : Budget → Budget) : (s.modBudget f).mod = s.mod := rfl
@[simp] theorem modBudget_mode (f : Budget → Budget) : (s.modBudget f).mode = s.mode := rfl
@[simp] theorem modBudget_clk (f : Budget → Budget) : (s.modBudget f).clk = s.clk := rfl
@[simp] theorem modBudget_seq (f : Budget → Budget) : (s.modBudget f).seq = s.seq := rfl
@[simp] theorem modBudget_engine (f : Budget → Budget) (y : Fin 8) : (s.modBudget f).engine y = s.engine y := rfl
@[simp] theorem modBudget_evt (f : Budget → Budget) : (s.modBudget f).evt = s.evt := rfl
@[simp] theorem modBudget_flash (f : Budget → Budget) : (s.modBudget f).flash = s.flash := rfl
@[simp] theorem modBudget_bus (f : Budget → Budget) : (s.modBudget f).bus = s.bus := rfl
@[simp] theorem modBudget_acq (f : Budget → Budget) : (s.modBudget f).acq = s.acq := rfl
@[simp] theorem modBudget_pos (f : Budget → Budget) : (s.modBudget f).pos = s.pos := rfl
@[simp] theorem modBudget_cle (f : Budget → Budget) : (s.modBudget f).cle = s.cle := rfl
@[simp] theorem modBudget_wfu (f : Budget → Budget) : (s.modBudget f).wfu = s.wfu := rfl
@[simp] theorem modBudget_gdp (f : Budget → Budget) : (s.modBudget f).gdp = s.gdp := rfl
@[simp] theorem modBudget_tdu (f : Budget → Budget) : (s.modBudget f).tdu = s.tdu := rfl
@[simp] theorem modBudget_act (f : Budget → Budget) : (s.modBudget f).act = s.act := rfl
@[simp] theorem modBudget_aux (f : Budget → Budget) : (s.modBudget f).aux = s.aux := rfl
@[simp] theorem modBudget_enp (f : Budget → Budget) : (s.modBudget f).enp = s.enp := rfl
@[simp] theorem modBudget_th (f : Budget → Budget) : (s.modBudget f).th = s.th := rfl
@[simp] theorem modBudget_gte (f : Budget → Budget) : (s.modBudget f).gte = s.gte := rfl
@[simp] theorem modBudget_net (f : Budget → Budget) : (s.modBudget f).net = s.net := rfl
@[simp] theorem modBudget_cnv (f : Budget → Budget) : (s.modBudget f).cnv = s.cnv := rfl
@[simp] theorem modBudget_twn (f : Budget → Budget) : (s.modBudget f).twn = s.twn := rfl
@[simp] theorem modBudget_saf (f : Budget → Budget) : (s.modBudget f).saf = s.saf := rfl
@[simp] theorem modBudget_freeCount (f : Budget → Budget) : (s.modBudget f).freeCount = s.freeCount := rfl

@[simp] theorem modDrive_pending (d : Fin 5) (f : ActDrive → ActDrive) : (s.modDrive d f).pending = s.pending := rfl
@[simp] theorem modDrive_variant (d : Fin 5) (f : ActDrive → ActDrive) : (s.modDrive d f).variant = s.variant := rfl
@[simp] theorem modDrive_hasB (d : Fin 5) (f : ActDrive → ActDrive) : (s.modDrive d f).hasB = s.hasB := rfl
@[simp] theorem modDrive_hasCharger (d : Fin 5) (f : ActDrive → ActDrive) : (s.modDrive d f).hasCharger = s.hasCharger := rfl
@[simp] theorem modDrive_hasPairs (d : Fin 5) (f : ActDrive → ActDrive) : (s.modDrive d f).hasPairs = s.hasPairs := rfl
@[simp] theorem modDrive_regs (d : Fin 5) (f : ActDrive → ActDrive) : (s.modDrive d f).regs = s.regs := rfl
@[simp] theorem modDrive_reg (d : Fin 5) (f : ActDrive → ActDrive) (q : Nat) : (s.modDrive d f).reg q = s.reg q := rfl
@[simp] theorem modDrive_fld (d : Fin 5) (f : ActDrive → ActDrive) (q : Nat) (y : Fld) : (s.modDrive d f).fld q y = s.fld q y := rfl
@[simp] theorem modDrive_bit (d : Fin 5) (f : ActDrive → ActDrive) (q : Nat) (y : Fld) : (s.modDrive d f).bit q y = s.bit q y := rfl
@[simp] theorem modDrive_nreg (d : Fin 5) (f : ActDrive → ActDrive) (q : Nat) : (s.modDrive d f).nreg q = s.nreg q := rfl
@[simp] theorem modDrive_now (d : Fin 5) (f : ActDrive → ActDrive) : (s.modDrive d f).now = s.now := rfl
@[simp] theorem modDrive_shadow (d : Fin 5) (f : ActDrive → ActDrive) : (s.modDrive d f).shadow = s.shadow := rfl
@[simp] theorem modDrive_cleShadow (d : Fin 5) (f : ActDrive → ActDrive) : (s.modDrive d f).cleShadow = s.cleShadow := rfl
@[simp] theorem modDrive_mem (d : Fin 5) (f : ActDrive → ActDrive) : (s.modDrive d f).mem = s.mem := rfl
@[simp] theorem modDrive_byte (d : Fin 5) (f : ActDrive → ActDrive) (b : Nat) : (s.modDrive d f).byte b = s.byte b := rfl
@[simp] theorem modDrive_word (d : Fin 5) (f : ActDrive → ActDrive) (b : Nat) : (s.modDrive d f).word b = s.word b := rfl
@[simp] theorem modDrive_mod (d : Fin 5) (f : ActDrive → ActDrive) : (s.modDrive d f).mod = s.mod := rfl
@[simp] theorem modDrive_mode (d : Fin 5) (f : ActDrive → ActDrive) : (s.modDrive d f).mode = s.mode := rfl
@[simp] theorem modDrive_clk (d : Fin 5) (f : ActDrive → ActDrive) : (s.modDrive d f).clk = s.clk := rfl
@[simp] theorem modDrive_seq (d : Fin 5) (f : ActDrive → ActDrive) : (s.modDrive d f).seq = s.seq := rfl
@[simp] theorem modDrive_engine (d : Fin 5) (f : ActDrive → ActDrive) (y : Fin 8) : (s.modDrive d f).engine y = s.engine y := rfl
@[simp] theorem modDrive_evt (d : Fin 5) (f : ActDrive → ActDrive) : (s.modDrive d f).evt = s.evt := rfl
@[simp] theorem modDrive_flash (d : Fin 5) (f : ActDrive → ActDrive) : (s.modDrive d f).flash = s.flash := rfl
@[simp] theorem modDrive_bus (d : Fin 5) (f : ActDrive → ActDrive) : (s.modDrive d f).bus = s.bus := rfl
@[simp] theorem modDrive_acq (d : Fin 5) (f : ActDrive → ActDrive) : (s.modDrive d f).acq = s.acq := rfl
@[simp] theorem modDrive_pos (d : Fin 5) (f : ActDrive → ActDrive) : (s.modDrive d f).pos = s.pos := rfl
@[simp] theorem modDrive_cle (d : Fin 5) (f : ActDrive → ActDrive) : (s.modDrive d f).cle = s.cle := rfl
@[simp] theorem modDrive_wfu (d : Fin 5) (f : ActDrive → ActDrive) : (s.modDrive d f).wfu = s.wfu := rfl
@[simp] theorem modDrive_gdp (d : Fin 5) (f : ActDrive → ActDrive) : (s.modDrive d f).gdp = s.gdp := rfl
@[simp] theorem modDrive_tdu (d : Fin 5) (f : ActDrive → ActDrive) : (s.modDrive d f).tdu = s.tdu := rfl
@[simp] theorem modDrive_budget (d : Fin 5) (f : ActDrive → ActDrive) : (s.modDrive d f).budget = s.budget := rfl
@[simp] theorem modDrive_aux (d : Fin 5) (f : ActDrive → ActDrive) : (s.modDrive d f).aux = s.aux := rfl
@[simp] theorem modDrive_enp (d : Fin 5) (f : ActDrive → ActDrive) : (s.modDrive d f).enp = s.enp := rfl
@[simp] theorem modDrive_th (d : Fin 5) (f : ActDrive → ActDrive) : (s.modDrive d f).th = s.th := rfl
@[simp] theorem modDrive_gte (d : Fin 5) (f : ActDrive → ActDrive) : (s.modDrive d f).gte = s.gte := rfl
@[simp] theorem modDrive_net (d : Fin 5) (f : ActDrive → ActDrive) : (s.modDrive d f).net = s.net := rfl
@[simp] theorem modDrive_cnv (d : Fin 5) (f : ActDrive → ActDrive) : (s.modDrive d f).cnv = s.cnv := rfl
@[simp] theorem modDrive_twn (d : Fin 5) (f : ActDrive → ActDrive) : (s.modDrive d f).twn = s.twn := rfl
@[simp] theorem modDrive_saf (d : Fin 5) (f : ActDrive → ActDrive) : (s.modDrive d f).saf = s.saf := rfl
@[simp] theorem modDrive_freeCount (d : Fin 5) (f : ActDrive → ActDrive) : (s.modDrive d f).freeCount = s.freeCount := rfl

@[simp] theorem modNudge_pending (x : Fin 2) (f : Nudge → Nudge) : (s.modNudge x f).pending = s.pending := rfl
@[simp] theorem modNudge_variant (x : Fin 2) (f : Nudge → Nudge) : (s.modNudge x f).variant = s.variant := rfl
@[simp] theorem modNudge_hasB (x : Fin 2) (f : Nudge → Nudge) : (s.modNudge x f).hasB = s.hasB := rfl
@[simp] theorem modNudge_hasCharger (x : Fin 2) (f : Nudge → Nudge) : (s.modNudge x f).hasCharger = s.hasCharger := rfl
@[simp] theorem modNudge_hasPairs (x : Fin 2) (f : Nudge → Nudge) : (s.modNudge x f).hasPairs = s.hasPairs := rfl
@[simp] theorem modNudge_regs (x : Fin 2) (f : Nudge → Nudge) : (s.modNudge x f).regs = s.regs := rfl
@[simp] theorem modNudge_reg (x : Fin 2) (f : Nudge → Nudge) (q : Nat) : (s.modNudge x f).reg q = s.reg q := rfl
@[simp] theorem modNudge_fld (x : Fin 2) (f : Nudge → Nudge) (q : Nat) (y : Fld) : (s.modNudge x f).fld q y = s.fld q y := rfl
@[simp] theorem modNudge_bit (x : Fin 2) (f : Nudge → Nudge) (q : Nat) (y : Fld) : (s.modNudge x f).bit q y = s.bit q y := rfl
@[simp] theorem modNudge_nreg (x : Fin 2) (f : Nudge → Nudge) (q : Nat) : (s.modNudge x f).nreg q = s.nreg q := rfl
@[simp] theorem modNudge_now (x : Fin 2) (f : Nudge → Nudge) : (s.modNudge x f).now = s.now := rfl
@[simp] theorem modNudge_shadow (x : Fin 2) (f : Nudge → Nudge) : (s.modNudge x f).shadow = s.shadow := rfl
@[simp] theorem modNudge_cleShadow (x : Fin 2) (f : Nudge → Nudge) : (s.modNudge x f).cleShadow = s.cleShadow := rfl
@[simp] theorem modNudge_mem (x : Fin 2) (f : Nudge → Nudge) : (s.modNudge x f).mem = s.mem := rfl
@[simp] theorem modNudge_byte (x : Fin 2) (f : Nudge → Nudge) (b : Nat) : (s.modNudge x f).byte b = s.byte b := rfl
@[simp] theorem modNudge_word (x : Fin 2) (f : Nudge → Nudge) (b : Nat) : (s.modNudge x f).word b = s.word b := rfl
@[simp] theorem modNudge_mod (x : Fin 2) (f : Nudge → Nudge) : (s.modNudge x f).mod = s.mod := rfl
@[simp] theorem modNudge_mode (x : Fin 2) (f : Nudge → Nudge) : (s.modNudge x f).mode = s.mode := rfl
@[simp] theorem modNudge_clk (x : Fin 2) (f : Nudge → Nudge) : (s.modNudge x f).clk = s.clk := rfl
@[simp] theorem modNudge_seq (x : Fin 2) (f : Nudge → Nudge) : (s.modNudge x f).seq = s.seq := rfl
@[simp] theorem modNudge_engine (x : Fin 2) (f : Nudge → Nudge) (y : Fin 8) : (s.modNudge x f).engine y = s.engine y := rfl
@[simp] theorem modNudge_evt (x : Fin 2) (f : Nudge → Nudge) : (s.modNudge x f).evt = s.evt := rfl
@[simp] theorem modNudge_flash (x : Fin 2) (f : Nudge → Nudge) : (s.modNudge x f).flash = s.flash := rfl
@[simp] theorem modNudge_bus (x : Fin 2) (f : Nudge → Nudge) : (s.modNudge x f).bus = s.bus := rfl
@[simp] theorem modNudge_acq (x : Fin 2) (f : Nudge → Nudge) : (s.modNudge x f).acq = s.acq := rfl
@[simp] theorem modNudge_pos (x : Fin 2) (f : Nudge → Nudge) : (s.modNudge x f).pos = s.pos := rfl
@[simp] theorem modNudge_cle (x : Fin 2) (f : Nudge → Nudge) : (s.modNudge x f).cle = s.cle := rfl
@[simp] theorem modNudge_wfu (x : Fin 2) (f : Nudge → Nudge) : (s.modNudge x f).wfu = s.wfu := rfl
@[simp] theorem modNudge_gdp (x : Fin 2) (f : Nudge → Nudge) : (s.modNudge x f).gdp = s.gdp := rfl
@[simp] theorem modNudge_tdu (x : Fin 2) (f : Nudge → Nudge) : (s.modNudge x f).tdu = s.tdu := rfl
@[simp] theorem modNudge_budget (x : Fin 2) (f : Nudge → Nudge) : (s.modNudge x f).budget = s.budget := rfl
@[simp] theorem modNudge_aux (x : Fin 2) (f : Nudge → Nudge) : (s.modNudge x f).aux = s.aux := rfl
@[simp] theorem modNudge_enp (x : Fin 2) (f : Nudge → Nudge) : (s.modNudge x f).enp = s.enp := rfl
@[simp] theorem modNudge_th (x : Fin 2) (f : Nudge → Nudge) : (s.modNudge x f).th = s.th := rfl
@[simp] theorem modNudge_gte (x : Fin 2) (f : Nudge → Nudge) : (s.modNudge x f).gte = s.gte := rfl
@[simp] theorem modNudge_net (x : Fin 2) (f : Nudge → Nudge) : (s.modNudge x f).net = s.net := rfl
@[simp] theorem modNudge_cnv (x : Fin 2) (f : Nudge → Nudge) : (s.modNudge x f).cnv = s.cnv := rfl
@[simp] theorem modNudge_twn (x : Fin 2) (f : Nudge → Nudge) : (s.modNudge x f).twn = s.twn := rfl
@[simp] theorem modNudge_saf (x : Fin 2) (f : Nudge → Nudge) : (s.modNudge x f).saf = s.saf := rfl
@[simp] theorem modNudge_freeCount (x : Fin 2) (f : Nudge → Nudge) : (s.modNudge x f).freeCount = s.freeCount := rfl

@[simp] theorem modAux_pending (f : AuxState → AuxState) : (s.modAux f).pending = s.pending := rfl
@[simp] theorem modAux_variant (f : AuxState → AuxState) : (s.modAux f).variant = s.variant := rfl
@[simp] theorem modAux_hasB (f : AuxState → AuxState) : (s.modAux f).hasB = s.hasB := rfl
@[simp] theorem modAux_hasCharger (f : AuxState → AuxState) : (s.modAux f).hasCharger = s.hasCharger := rfl
@[simp] theorem modAux_hasPairs (f : AuxState → AuxState) : (s.modAux f).hasPairs = s.hasPairs := rfl
@[simp] theorem modAux_regs (f : AuxState → AuxState) : (s.modAux f).regs = s.regs := rfl
@[simp] theorem modAux_reg (f : AuxState → AuxState) (q : Nat) : (s.modAux f).reg q = s.reg q := rfl
@[simp] theorem modAux_fld (f : AuxState → AuxState) (q : Nat) (y : Fld) : (s.modAux f).fld q y = s.fld q y := rfl
@[simp] theorem modAux_bit (f : AuxState → AuxState) (q : Nat) (y : Fld) : (s.modAux f).bit q y = s.bit q y := rfl
@[simp] theorem modAux_nreg (f : AuxState → AuxState) (q : Nat) : (s.modAux f).nreg q = s.nreg q := rfl
@[simp] theorem modAux_now (f : AuxState → AuxState) : (s.modAux f).now = s.now := rfl
@[simp] theorem modAux_shadow (f : AuxState → AuxState) : (s.modAux f).shadow = s.shadow := rfl
@[simp] theorem modAux_cleShadow (f : AuxState → AuxState) : (s.modAux f).cleShadow = s.cleShadow := rfl
@[simp] theorem modAux_mem (f : AuxState → AuxState) : (s.modAux f).mem = s.mem := rfl
@[simp] theorem modAux_byte (f : AuxState → AuxState) (b : Nat) : (s.modAux f).byte b = s.byte b := rfl
@[simp] theorem modAux_word (f : AuxState → AuxState) (b : Nat) : (s.modAux f).word b = s.word b := rfl
@[simp] theorem modAux_mod (f : AuxState → AuxState) : (s.modAux f).mod = s.mod := rfl
@[simp] theorem modAux_mode (f : AuxState → AuxState) : (s.modAux f).mode = s.mode := rfl
@[simp] theorem modAux_clk (f : AuxState → AuxState) : (s.modAux f).clk = s.clk := rfl
@[simp] theorem modAux_seq (f : AuxState → AuxState) : (s.modAux f).seq = s.seq := rfl
@[simp] theorem modAux_engine (f : AuxState → AuxState) (y : Fin 8) : (s.modAux f).engine y = s.engine y := rfl
@[simp] theorem modAux_evt (f : AuxState → AuxState) : (s.modAux f).evt = s.evt := rfl
@[simp] theorem modAux_flash (f : AuxState → AuxState) : (s.modAux f).flash = s.flash := rfl
@[simp] theorem modAux_bus (f : AuxState → AuxState) : (s.modAux f).bus = s.bus := rfl
@[simp] theorem modAux_acq (f : AuxState → AuxState) : (s.modAux f).acq = s.acq := rfl
@[simp] theorem modAux_pos (f : AuxState → AuxState) : (s.modAux f).pos = s.pos := rfl
@[simp] theorem modAux_cle (f : AuxState → AuxState) : (s.modAux f).cle = s.cle := rfl
@[simp] theorem modAux_wfu (f : AuxState → AuxState) : (s.modAux f).wfu = s.wfu := rfl
@[simp] theorem modAux_gdp (f : AuxState → AuxState) : (s.modAux f).gdp = s.gdp := rfl
@[simp] theorem modAux_tdu (f : AuxState → AuxState) : (s.modAux f).tdu = s.tdu := rfl
@[simp] theorem modAux_budget (f : AuxState → AuxState) : (s.modAux f).budget = s.budget := rfl
@[simp] theorem modAux_act (f : AuxState → AuxState) : (s.modAux f).act = s.act := rfl
@[simp] theorem modAux_enp (f : AuxState → AuxState) : (s.modAux f).enp = s.enp := rfl
@[simp] theorem modAux_th (f : AuxState → AuxState) : (s.modAux f).th = s.th := rfl
@[simp] theorem modAux_gte (f : AuxState → AuxState) : (s.modAux f).gte = s.gte := rfl
@[simp] theorem modAux_net (f : AuxState → AuxState) : (s.modAux f).net = s.net := rfl
@[simp] theorem modAux_cnv (f : AuxState → AuxState) : (s.modAux f).cnv = s.cnv := rfl
@[simp] theorem modAux_twn (f : AuxState → AuxState) : (s.modAux f).twn = s.twn := rfl
@[simp] theorem modAux_saf (f : AuxState → AuxState) : (s.modAux f).saf = s.saf := rfl
@[simp] theorem modAux_freeCount (f : AuxState → AuxState) : (s.modAux f).freeCount = s.freeCount := rfl

@[simp] theorem modEnp_pending (f : EnpState → EnpState) : (s.modEnp f).pending = s.pending := rfl
@[simp] theorem modEnp_variant (f : EnpState → EnpState) : (s.modEnp f).variant = s.variant := rfl
@[simp] theorem modEnp_hasB (f : EnpState → EnpState) : (s.modEnp f).hasB = s.hasB := rfl
@[simp] theorem modEnp_hasCharger (f : EnpState → EnpState) : (s.modEnp f).hasCharger = s.hasCharger := rfl
@[simp] theorem modEnp_hasPairs (f : EnpState → EnpState) : (s.modEnp f).hasPairs = s.hasPairs := rfl
@[simp] theorem modEnp_regs (f : EnpState → EnpState) : (s.modEnp f).regs = s.regs := rfl
@[simp] theorem modEnp_reg (f : EnpState → EnpState) (q : Nat) : (s.modEnp f).reg q = s.reg q := rfl
@[simp] theorem modEnp_fld (f : EnpState → EnpState) (q : Nat) (y : Fld) : (s.modEnp f).fld q y = s.fld q y := rfl
@[simp] theorem modEnp_bit (f : EnpState → EnpState) (q : Nat) (y : Fld) : (s.modEnp f).bit q y = s.bit q y := rfl
@[simp] theorem modEnp_nreg (f : EnpState → EnpState) (q : Nat) : (s.modEnp f).nreg q = s.nreg q := rfl
@[simp] theorem modEnp_now (f : EnpState → EnpState) : (s.modEnp f).now = s.now := rfl
@[simp] theorem modEnp_shadow (f : EnpState → EnpState) : (s.modEnp f).shadow = s.shadow := rfl
@[simp] theorem modEnp_cleShadow (f : EnpState → EnpState) : (s.modEnp f).cleShadow = s.cleShadow := rfl
@[simp] theorem modEnp_mem (f : EnpState → EnpState) : (s.modEnp f).mem = s.mem := rfl
@[simp] theorem modEnp_byte (f : EnpState → EnpState) (b : Nat) : (s.modEnp f).byte b = s.byte b := rfl
@[simp] theorem modEnp_word (f : EnpState → EnpState) (b : Nat) : (s.modEnp f).word b = s.word b := rfl
@[simp] theorem modEnp_mod (f : EnpState → EnpState) : (s.modEnp f).mod = s.mod := rfl
@[simp] theorem modEnp_mode (f : EnpState → EnpState) : (s.modEnp f).mode = s.mode := rfl
@[simp] theorem modEnp_clk (f : EnpState → EnpState) : (s.modEnp f).clk = s.clk := rfl
@[simp] theorem modEnp_seq (f : EnpState → EnpState) : (s.modEnp f).seq = s.seq := rfl
@[simp] theorem modEnp_engine (f : EnpState → EnpState) (y : Fin 8) : (s.modEnp f).engine y = s.engine y := rfl
@[simp] theorem modEnp_evt (f : EnpState → EnpState) : (s.modEnp f).evt = s.evt := rfl
@[simp] theorem modEnp_flash (f : EnpState → EnpState) : (s.modEnp f).flash = s.flash := rfl
@[simp] theorem modEnp_bus (f : EnpState → EnpState) : (s.modEnp f).bus = s.bus := rfl
@[simp] theorem modEnp_acq (f : EnpState → EnpState) : (s.modEnp f).acq = s.acq := rfl
@[simp] theorem modEnp_pos (f : EnpState → EnpState) : (s.modEnp f).pos = s.pos := rfl
@[simp] theorem modEnp_cle (f : EnpState → EnpState) : (s.modEnp f).cle = s.cle := rfl
@[simp] theorem modEnp_wfu (f : EnpState → EnpState) : (s.modEnp f).wfu = s.wfu := rfl
@[simp] theorem modEnp_gdp (f : EnpState → EnpState) : (s.modEnp f).gdp = s.gdp := rfl
@[simp] theorem modEnp_tdu (f : EnpState → EnpState) : (s.modEnp f).tdu = s.tdu := rfl
@[simp] theorem modEnp_budget (f : EnpState → EnpState) : (s.modEnp f).budget = s.budget := rfl
@[simp] theorem modEnp_act (f : EnpState → EnpState) : (s.modEnp f).act = s.act := rfl
@[simp] theorem modEnp_aux (f : EnpState → EnpState) : (s.modEnp f).aux = s.aux := rfl
@[simp] theorem modEnp_th (f : EnpState → EnpState) : (s.modEnp f).th = s.th := rfl
@[simp] theorem modEnp_gte (f : EnpState → EnpState) : (s.modEnp f).gte = s.gte := rfl
@[simp] theorem modEnp_net (f : EnpState → EnpState) : (s.modEnp f).net = s.net := rfl
@[simp] theorem modEnp_cnv (f : EnpState → EnpState) : (s.modEnp f).cnv = s.cnv := rfl
@[simp] theorem modEnp_twn (f : EnpState → EnpState) : (s.modEnp f).twn = s.twn := rfl
@[simp] theorem modEnp_saf (f : EnpState → EnpState) : (s.modEnp f).saf = s.saf := rfl
@[simp] theorem modEnp_freeCount (f : EnpState → EnpState) : (s.modEnp f).freeCount = s.freeCount := rfl

@[simp] theorem modNode_pending (n : Nat) (f : ThNode → ThNode) : (s.modNode n f).pending = s.pending := rfl
@[simp] theorem modNode_variant (n : Nat) (f : ThNode → ThNode) : (s.modNode n f).variant = s.variant := rfl
@[simp] theorem modNode_hasB (n : Nat) (f : ThNode → ThNode) : (s.modNode n f).hasB = s.hasB := rfl
@[simp] theorem modNode_hasCharger (n : Nat) (f : ThNode → ThNode) : (s.modNode n f).hasCharger = s.hasCharger := rfl
@[simp] theorem modNode_hasPairs (n : Nat) (f : ThNode → ThNode) : (s.modNode n f).hasPairs = s.hasPairs := rfl
@[simp] theorem modNode_regs (n : Nat) (f : ThNode → ThNode) : (s.modNode n f).regs = s.regs := rfl
@[simp] theorem modNode_reg (n : Nat) (f : ThNode → ThNode) (q : Nat) : (s.modNode n f).reg q = s.reg q := rfl
@[simp] theorem modNode_fld (n : Nat) (f : ThNode → ThNode) (q : Nat) (y : Fld) : (s.modNode n f).fld q y = s.fld q y := rfl
@[simp] theorem modNode_bit (n : Nat) (f : ThNode → ThNode) (q : Nat) (y : Fld) : (s.modNode n f).bit q y = s.bit q y := rfl
@[simp] theorem modNode_nreg (n : Nat) (f : ThNode → ThNode) (q : Nat) : (s.modNode n f).nreg q = s.nreg q := rfl
@[simp] theorem modNode_now (n : Nat) (f : ThNode → ThNode) : (s.modNode n f).now = s.now := rfl
@[simp] theorem modNode_shadow (n : Nat) (f : ThNode → ThNode) : (s.modNode n f).shadow = s.shadow := rfl
@[simp] theorem modNode_cleShadow (n : Nat) (f : ThNode → ThNode) : (s.modNode n f).cleShadow = s.cleShadow := rfl
@[simp] theorem modNode_mem (n : Nat) (f : ThNode → ThNode) : (s.modNode n f).mem = s.mem := rfl
@[simp] theorem modNode_byte (n : Nat) (f : ThNode → ThNode) (b : Nat) : (s.modNode n f).byte b = s.byte b := rfl
@[simp] theorem modNode_word (n : Nat) (f : ThNode → ThNode) (b : Nat) : (s.modNode n f).word b = s.word b := rfl
@[simp] theorem modNode_mod (n : Nat) (f : ThNode → ThNode) : (s.modNode n f).mod = s.mod := rfl
@[simp] theorem modNode_mode (n : Nat) (f : ThNode → ThNode) : (s.modNode n f).mode = s.mode := rfl
@[simp] theorem modNode_clk (n : Nat) (f : ThNode → ThNode) : (s.modNode n f).clk = s.clk := rfl
@[simp] theorem modNode_seq (n : Nat) (f : ThNode → ThNode) : (s.modNode n f).seq = s.seq := rfl
@[simp] theorem modNode_engine (n : Nat) (f : ThNode → ThNode) (y : Fin 8) : (s.modNode n f).engine y = s.engine y := rfl
@[simp] theorem modNode_evt (n : Nat) (f : ThNode → ThNode) : (s.modNode n f).evt = s.evt := rfl
@[simp] theorem modNode_flash (n : Nat) (f : ThNode → ThNode) : (s.modNode n f).flash = s.flash := rfl
@[simp] theorem modNode_bus (n : Nat) (f : ThNode → ThNode) : (s.modNode n f).bus = s.bus := rfl
@[simp] theorem modNode_acq (n : Nat) (f : ThNode → ThNode) : (s.modNode n f).acq = s.acq := rfl
@[simp] theorem modNode_pos (n : Nat) (f : ThNode → ThNode) : (s.modNode n f).pos = s.pos := rfl
@[simp] theorem modNode_cle (n : Nat) (f : ThNode → ThNode) : (s.modNode n f).cle = s.cle := rfl
@[simp] theorem modNode_wfu (n : Nat) (f : ThNode → ThNode) : (s.modNode n f).wfu = s.wfu := rfl
@[simp] theorem modNode_gdp (n : Nat) (f : ThNode → ThNode) : (s.modNode n f).gdp = s.gdp := rfl
@[simp] theorem modNode_tdu (n : Nat) (f : ThNode → ThNode) : (s.modNode n f).tdu = s.tdu := rfl
@[simp] theorem modNode_budget (n : Nat) (f : ThNode → ThNode) : (s.modNode n f).budget = s.budget := rfl
@[simp] theorem modNode_act (n : Nat) (f : ThNode → ThNode) : (s.modNode n f).act = s.act := rfl
@[simp] theorem modNode_aux (n : Nat) (f : ThNode → ThNode) : (s.modNode n f).aux = s.aux := rfl
@[simp] theorem modNode_enp (n : Nat) (f : ThNode → ThNode) : (s.modNode n f).enp = s.enp := rfl
@[simp] theorem modNode_gte (n : Nat) (f : ThNode → ThNode) : (s.modNode n f).gte = s.gte := rfl
@[simp] theorem modNode_net (n : Nat) (f : ThNode → ThNode) : (s.modNode n f).net = s.net := rfl
@[simp] theorem modNode_cnv (n : Nat) (f : ThNode → ThNode) : (s.modNode n f).cnv = s.cnv := rfl
@[simp] theorem modNode_twn (n : Nat) (f : ThNode → ThNode) : (s.modNode n f).twn = s.twn := rfl
@[simp] theorem modNode_saf (n : Nat) (f : ThNode → ThNode) : (s.modNode n f).saf = s.saf := rfl
@[simp] theorem modNode_freeCount (n : Nat) (f : ThNode → ThNode) : (s.modNode n f).freeCount = s.freeCount := rfl

@[simp] theorem modGte_pending (f : GteState → GteState) : (s.modGte f).pending = s.pending := rfl
@[simp] theorem modGte_variant (f : GteState → GteState) : (s.modGte f).variant = s.variant := rfl
@[simp] theorem modGte_hasB (f : GteState → GteState) : (s.modGte f).hasB = s.hasB := rfl
@[simp] theorem modGte_hasCharger (f : GteState → GteState) : (s.modGte f).hasCharger = s.hasCharger := rfl
@[simp] theorem modGte_hasPairs (f : GteState → GteState) : (s.modGte f).hasPairs = s.hasPairs := rfl
@[simp] theorem modGte_regs (f : GteState → GteState) : (s.modGte f).regs = s.regs := rfl
@[simp] theorem modGte_reg (f : GteState → GteState) (q : Nat) : (s.modGte f).reg q = s.reg q := rfl
@[simp] theorem modGte_fld (f : GteState → GteState) (q : Nat) (y : Fld) : (s.modGte f).fld q y = s.fld q y := rfl
@[simp] theorem modGte_bit (f : GteState → GteState) (q : Nat) (y : Fld) : (s.modGte f).bit q y = s.bit q y := rfl
@[simp] theorem modGte_nreg (f : GteState → GteState) (q : Nat) : (s.modGte f).nreg q = s.nreg q := rfl
@[simp] theorem modGte_now (f : GteState → GteState) : (s.modGte f).now = s.now := rfl
@[simp] theorem modGte_shadow (f : GteState → GteState) : (s.modGte f).shadow = s.shadow := rfl
@[simp] theorem modGte_cleShadow (f : GteState → GteState) : (s.modGte f).cleShadow = s.cleShadow := rfl
@[simp] theorem modGte_mem (f : GteState → GteState) : (s.modGte f).mem = s.mem := rfl
@[simp] theorem modGte_byte (f : GteState → GteState) (b : Nat) : (s.modGte f).byte b = s.byte b := rfl
@[simp] theorem modGte_word (f : GteState → GteState) (b : Nat) : (s.modGte f).word b = s.word b := rfl
@[simp] theorem modGte_mod (f : GteState → GteState) : (s.modGte f).mod = s.mod := rfl
@[simp] theorem modGte_mode (f : GteState → GteState) : (s.modGte f).mode = s.mode := rfl
@[simp] theorem modGte_clk (f : GteState → GteState) : (s.modGte f).clk = s.clk := rfl
@[simp] theorem modGte_seq (f : GteState → GteState) : (s.modGte f).seq = s.seq := rfl
@[simp] theorem modGte_engine (f : GteState → GteState) (y : Fin 8) : (s.modGte f).engine y = s.engine y := rfl
@[simp] theorem modGte_evt (f : GteState → GteState) : (s.modGte f).evt = s.evt := rfl
@[simp] theorem modGte_flash (f : GteState → GteState) : (s.modGte f).flash = s.flash := rfl
@[simp] theorem modGte_bus (f : GteState → GteState) : (s.modGte f).bus = s.bus := rfl
@[simp] theorem modGte_acq (f : GteState → GteState) : (s.modGte f).acq = s.acq := rfl
@[simp] theorem modGte_pos (f : GteState → GteState) : (s.modGte f).pos = s.pos := rfl
@[simp] theorem modGte_cle (f : GteState → GteState) : (s.modGte f).cle = s.cle := rfl
@[simp] theorem modGte_wfu (f : GteState → GteState) : (s.modGte f).wfu = s.wfu := rfl
@[simp] theorem modGte_gdp (f : GteState → GteState) : (s.modGte f).gdp = s.gdp := rfl
@[simp] theorem modGte_tdu (f : GteState → GteState) : (s.modGte f).tdu = s.tdu := rfl
@[simp] theorem modGte_budget (f : GteState → GteState) : (s.modGte f).budget = s.budget := rfl
@[simp] theorem modGte_act (f : GteState → GteState) : (s.modGte f).act = s.act := rfl
@[simp] theorem modGte_aux (f : GteState → GteState) : (s.modGte f).aux = s.aux := rfl
@[simp] theorem modGte_enp (f : GteState → GteState) : (s.modGte f).enp = s.enp := rfl
@[simp] theorem modGte_th (f : GteState → GteState) : (s.modGte f).th = s.th := rfl
@[simp] theorem modGte_net (f : GteState → GteState) : (s.modGte f).net = s.net := rfl
@[simp] theorem modGte_cnv (f : GteState → GteState) : (s.modGte f).cnv = s.cnv := rfl
@[simp] theorem modGte_twn (f : GteState → GteState) : (s.modGte f).twn = s.twn := rfl
@[simp] theorem modGte_saf (f : GteState → GteState) : (s.modGte f).saf = s.saf := rfl
@[simp] theorem modGte_freeCount (f : GteState → GteState) : (s.modGte f).freeCount = s.freeCount := rfl

@[simp] theorem modSec_pending (i : Nat) (f : GateSec → GateSec) : (s.modSec i f).pending = s.pending := rfl
@[simp] theorem modSec_variant (i : Nat) (f : GateSec → GateSec) : (s.modSec i f).variant = s.variant := rfl
@[simp] theorem modSec_hasB (i : Nat) (f : GateSec → GateSec) : (s.modSec i f).hasB = s.hasB := rfl
@[simp] theorem modSec_hasCharger (i : Nat) (f : GateSec → GateSec) : (s.modSec i f).hasCharger = s.hasCharger := rfl
@[simp] theorem modSec_hasPairs (i : Nat) (f : GateSec → GateSec) : (s.modSec i f).hasPairs = s.hasPairs := rfl
@[simp] theorem modSec_regs (i : Nat) (f : GateSec → GateSec) : (s.modSec i f).regs = s.regs := rfl
@[simp] theorem modSec_reg (i : Nat) (f : GateSec → GateSec) (q : Nat) : (s.modSec i f).reg q = s.reg q := rfl
@[simp] theorem modSec_fld (i : Nat) (f : GateSec → GateSec) (q : Nat) (y : Fld) : (s.modSec i f).fld q y = s.fld q y := rfl
@[simp] theorem modSec_bit (i : Nat) (f : GateSec → GateSec) (q : Nat) (y : Fld) : (s.modSec i f).bit q y = s.bit q y := rfl
@[simp] theorem modSec_nreg (i : Nat) (f : GateSec → GateSec) (q : Nat) : (s.modSec i f).nreg q = s.nreg q := rfl
@[simp] theorem modSec_now (i : Nat) (f : GateSec → GateSec) : (s.modSec i f).now = s.now := rfl
@[simp] theorem modSec_shadow (i : Nat) (f : GateSec → GateSec) : (s.modSec i f).shadow = s.shadow := rfl
@[simp] theorem modSec_cleShadow (i : Nat) (f : GateSec → GateSec) : (s.modSec i f).cleShadow = s.cleShadow := rfl
@[simp] theorem modSec_mem (i : Nat) (f : GateSec → GateSec) : (s.modSec i f).mem = s.mem := rfl
@[simp] theorem modSec_byte (i : Nat) (f : GateSec → GateSec) (b : Nat) : (s.modSec i f).byte b = s.byte b := rfl
@[simp] theorem modSec_word (i : Nat) (f : GateSec → GateSec) (b : Nat) : (s.modSec i f).word b = s.word b := rfl
@[simp] theorem modSec_mod (i : Nat) (f : GateSec → GateSec) : (s.modSec i f).mod = s.mod := rfl
@[simp] theorem modSec_mode (i : Nat) (f : GateSec → GateSec) : (s.modSec i f).mode = s.mode := rfl
@[simp] theorem modSec_clk (i : Nat) (f : GateSec → GateSec) : (s.modSec i f).clk = s.clk := rfl
@[simp] theorem modSec_seq (i : Nat) (f : GateSec → GateSec) : (s.modSec i f).seq = s.seq := rfl
@[simp] theorem modSec_engine (i : Nat) (f : GateSec → GateSec) (y : Fin 8) : (s.modSec i f).engine y = s.engine y := rfl
@[simp] theorem modSec_evt (i : Nat) (f : GateSec → GateSec) : (s.modSec i f).evt = s.evt := rfl
@[simp] theorem modSec_flash (i : Nat) (f : GateSec → GateSec) : (s.modSec i f).flash = s.flash := rfl
@[simp] theorem modSec_bus (i : Nat) (f : GateSec → GateSec) : (s.modSec i f).bus = s.bus := rfl
@[simp] theorem modSec_acq (i : Nat) (f : GateSec → GateSec) : (s.modSec i f).acq = s.acq := rfl
@[simp] theorem modSec_pos (i : Nat) (f : GateSec → GateSec) : (s.modSec i f).pos = s.pos := rfl
@[simp] theorem modSec_cle (i : Nat) (f : GateSec → GateSec) : (s.modSec i f).cle = s.cle := rfl
@[simp] theorem modSec_wfu (i : Nat) (f : GateSec → GateSec) : (s.modSec i f).wfu = s.wfu := rfl
@[simp] theorem modSec_gdp (i : Nat) (f : GateSec → GateSec) : (s.modSec i f).gdp = s.gdp := rfl
@[simp] theorem modSec_tdu (i : Nat) (f : GateSec → GateSec) : (s.modSec i f).tdu = s.tdu := rfl
@[simp] theorem modSec_budget (i : Nat) (f : GateSec → GateSec) : (s.modSec i f).budget = s.budget := rfl
@[simp] theorem modSec_act (i : Nat) (f : GateSec → GateSec) : (s.modSec i f).act = s.act := rfl
@[simp] theorem modSec_aux (i : Nat) (f : GateSec → GateSec) : (s.modSec i f).aux = s.aux := rfl
@[simp] theorem modSec_enp (i : Nat) (f : GateSec → GateSec) : (s.modSec i f).enp = s.enp := rfl
@[simp] theorem modSec_th (i : Nat) (f : GateSec → GateSec) : (s.modSec i f).th = s.th := rfl
@[simp] theorem modSec_net (i : Nat) (f : GateSec → GateSec) : (s.modSec i f).net = s.net := rfl
@[simp] theorem modSec_cnv (i : Nat) (f : GateSec → GateSec) : (s.modSec i f).cnv = s.cnv := rfl
@[simp] theorem modSec_twn (i : Nat) (f : GateSec → GateSec) : (s.modSec i f).twn = s.twn := rfl
@[simp] theorem modSec_saf (i : Nat) (f : GateSec → GateSec) : (s.modSec i f).saf = s.saf := rfl
@[simp] theorem modSec_freeCount (i : Nat) (f : GateSec → GateSec) : (s.modSec i f).freeCount = s.freeCount := rfl

@[simp] theorem modNet_pending (f : NetState → NetState) : (s.modNet f).pending = s.pending := rfl
@[simp] theorem modNet_variant (f : NetState → NetState) : (s.modNet f).variant = s.variant := rfl
@[simp] theorem modNet_hasB (f : NetState → NetState) : (s.modNet f).hasB = s.hasB := rfl
@[simp] theorem modNet_hasCharger (f : NetState → NetState) : (s.modNet f).hasCharger = s.hasCharger := rfl
@[simp] theorem modNet_hasPairs (f : NetState → NetState) : (s.modNet f).hasPairs = s.hasPairs := rfl
@[simp] theorem modNet_regs (f : NetState → NetState) : (s.modNet f).regs = s.regs := rfl
@[simp] theorem modNet_reg (f : NetState → NetState) (q : Nat) : (s.modNet f).reg q = s.reg q := rfl
@[simp] theorem modNet_fld (f : NetState → NetState) (q : Nat) (y : Fld) : (s.modNet f).fld q y = s.fld q y := rfl
@[simp] theorem modNet_bit (f : NetState → NetState) (q : Nat) (y : Fld) : (s.modNet f).bit q y = s.bit q y := rfl
@[simp] theorem modNet_nreg (f : NetState → NetState) (q : Nat) : (s.modNet f).nreg q = s.nreg q := rfl
@[simp] theorem modNet_now (f : NetState → NetState) : (s.modNet f).now = s.now := rfl
@[simp] theorem modNet_shadow (f : NetState → NetState) : (s.modNet f).shadow = s.shadow := rfl
@[simp] theorem modNet_cleShadow (f : NetState → NetState) : (s.modNet f).cleShadow = s.cleShadow := rfl
@[simp] theorem modNet_mem (f : NetState → NetState) : (s.modNet f).mem = s.mem := rfl
@[simp] theorem modNet_byte (f : NetState → NetState) (b : Nat) : (s.modNet f).byte b = s.byte b := rfl
@[simp] theorem modNet_word (f : NetState → NetState) (b : Nat) : (s.modNet f).word b = s.word b := rfl
@[simp] theorem modNet_mod (f : NetState → NetState) : (s.modNet f).mod = s.mod := rfl
@[simp] theorem modNet_mode (f : NetState → NetState) : (s.modNet f).mode = s.mode := rfl
@[simp] theorem modNet_clk (f : NetState → NetState) : (s.modNet f).clk = s.clk := rfl
@[simp] theorem modNet_seq (f : NetState → NetState) : (s.modNet f).seq = s.seq := rfl
@[simp] theorem modNet_engine (f : NetState → NetState) (y : Fin 8) : (s.modNet f).engine y = s.engine y := rfl
@[simp] theorem modNet_evt (f : NetState → NetState) : (s.modNet f).evt = s.evt := rfl
@[simp] theorem modNet_flash (f : NetState → NetState) : (s.modNet f).flash = s.flash := rfl
@[simp] theorem modNet_bus (f : NetState → NetState) : (s.modNet f).bus = s.bus := rfl
@[simp] theorem modNet_acq (f : NetState → NetState) : (s.modNet f).acq = s.acq := rfl
@[simp] theorem modNet_pos (f : NetState → NetState) : (s.modNet f).pos = s.pos := rfl
@[simp] theorem modNet_cle (f : NetState → NetState) : (s.modNet f).cle = s.cle := rfl
@[simp] theorem modNet_wfu (f : NetState → NetState) : (s.modNet f).wfu = s.wfu := rfl
@[simp] theorem modNet_gdp (f : NetState → NetState) : (s.modNet f).gdp = s.gdp := rfl
@[simp] theorem modNet_tdu (f : NetState → NetState) : (s.modNet f).tdu = s.tdu := rfl
@[simp] theorem modNet_budget (f : NetState → NetState) : (s.modNet f).budget = s.budget := rfl
@[simp] theorem modNet_act (f : NetState → NetState) : (s.modNet f).act = s.act := rfl
@[simp] theorem modNet_aux (f : NetState → NetState) : (s.modNet f).aux = s.aux := rfl
@[simp] theorem modNet_enp (f : NetState → NetState) : (s.modNet f).enp = s.enp := rfl
@[simp] theorem modNet_th (f : NetState → NetState) : (s.modNet f).th = s.th := rfl
@[simp] theorem modNet_gte (f : NetState → NetState) : (s.modNet f).gte = s.gte := rfl
@[simp] theorem modNet_cnv (f : NetState → NetState) : (s.modNet f).cnv = s.cnv := rfl
@[simp] theorem modNet_twn (f : NetState → NetState) : (s.modNet f).twn = s.twn := rfl
@[simp] theorem modNet_saf (f : NetState → NetState) : (s.modNet f).saf = s.saf := rfl
@[simp] theorem modNet_freeCount (f : NetState → NetState) : (s.modNet f).freeCount = s.freeCount := rfl

@[simp] theorem modCan_pending (c : Fin 8) (f : CanChan → CanChan) : (s.modCan c f).pending = s.pending := rfl
@[simp] theorem modCan_variant (c : Fin 8) (f : CanChan → CanChan) : (s.modCan c f).variant = s.variant := rfl
@[simp] theorem modCan_hasB (c : Fin 8) (f : CanChan → CanChan) : (s.modCan c f).hasB = s.hasB := rfl
@[simp] theorem modCan_hasCharger (c : Fin 8) (f : CanChan → CanChan) : (s.modCan c f).hasCharger = s.hasCharger := rfl
@[simp] theorem modCan_hasPairs (c : Fin 8) (f : CanChan → CanChan) : (s.modCan c f).hasPairs = s.hasPairs := rfl
@[simp] theorem modCan_regs (c : Fin 8) (f : CanChan → CanChan) : (s.modCan c f).regs = s.regs := rfl
@[simp] theorem modCan_reg (c : Fin 8) (f : CanChan → CanChan) (q : Nat) : (s.modCan c f).reg q = s.reg q := rfl
@[simp] theorem modCan_fld (c : Fin 8) (f : CanChan → CanChan) (q : Nat) (y : Fld) : (s.modCan c f).fld q y = s.fld q y := rfl
@[simp] theorem modCan_bit (c : Fin 8) (f : CanChan → CanChan) (q : Nat) (y : Fld) : (s.modCan c f).bit q y = s.bit q y := rfl
@[simp] theorem modCan_nreg (c : Fin 8) (f : CanChan → CanChan) (q : Nat) : (s.modCan c f).nreg q = s.nreg q := rfl
@[simp] theorem modCan_now (c : Fin 8) (f : CanChan → CanChan) : (s.modCan c f).now = s.now := rfl
@[simp] theorem modCan_shadow (c : Fin 8) (f : CanChan → CanChan) : (s.modCan c f).shadow = s.shadow := rfl
@[simp] theorem modCan_cleShadow (c : Fin 8) (f : CanChan → CanChan) : (s.modCan c f).cleShadow = s.cleShadow := rfl
@[simp] theorem modCan_mem (c : Fin 8) (f : CanChan → CanChan) : (s.modCan c f).mem = s.mem := rfl
@[simp] theorem modCan_byte (c : Fin 8) (f : CanChan → CanChan) (b : Nat) : (s.modCan c f).byte b = s.byte b := rfl
@[simp] theorem modCan_word (c : Fin 8) (f : CanChan → CanChan) (b : Nat) : (s.modCan c f).word b = s.word b := rfl
@[simp] theorem modCan_mod (c : Fin 8) (f : CanChan → CanChan) : (s.modCan c f).mod = s.mod := rfl
@[simp] theorem modCan_mode (c : Fin 8) (f : CanChan → CanChan) : (s.modCan c f).mode = s.mode := rfl
@[simp] theorem modCan_clk (c : Fin 8) (f : CanChan → CanChan) : (s.modCan c f).clk = s.clk := rfl
@[simp] theorem modCan_seq (c : Fin 8) (f : CanChan → CanChan) : (s.modCan c f).seq = s.seq := rfl
@[simp] theorem modCan_engine (c : Fin 8) (f : CanChan → CanChan) (y : Fin 8) : (s.modCan c f).engine y = s.engine y := rfl
@[simp] theorem modCan_evt (c : Fin 8) (f : CanChan → CanChan) : (s.modCan c f).evt = s.evt := rfl
@[simp] theorem modCan_flash (c : Fin 8) (f : CanChan → CanChan) : (s.modCan c f).flash = s.flash := rfl
@[simp] theorem modCan_bus (c : Fin 8) (f : CanChan → CanChan) : (s.modCan c f).bus = s.bus := rfl
@[simp] theorem modCan_acq (c : Fin 8) (f : CanChan → CanChan) : (s.modCan c f).acq = s.acq := rfl
@[simp] theorem modCan_pos (c : Fin 8) (f : CanChan → CanChan) : (s.modCan c f).pos = s.pos := rfl
@[simp] theorem modCan_cle (c : Fin 8) (f : CanChan → CanChan) : (s.modCan c f).cle = s.cle := rfl
@[simp] theorem modCan_wfu (c : Fin 8) (f : CanChan → CanChan) : (s.modCan c f).wfu = s.wfu := rfl
@[simp] theorem modCan_gdp (c : Fin 8) (f : CanChan → CanChan) : (s.modCan c f).gdp = s.gdp := rfl
@[simp] theorem modCan_tdu (c : Fin 8) (f : CanChan → CanChan) : (s.modCan c f).tdu = s.tdu := rfl
@[simp] theorem modCan_budget (c : Fin 8) (f : CanChan → CanChan) : (s.modCan c f).budget = s.budget := rfl
@[simp] theorem modCan_act (c : Fin 8) (f : CanChan → CanChan) : (s.modCan c f).act = s.act := rfl
@[simp] theorem modCan_aux (c : Fin 8) (f : CanChan → CanChan) : (s.modCan c f).aux = s.aux := rfl
@[simp] theorem modCan_enp (c : Fin 8) (f : CanChan → CanChan) : (s.modCan c f).enp = s.enp := rfl
@[simp] theorem modCan_th (c : Fin 8) (f : CanChan → CanChan) : (s.modCan c f).th = s.th := rfl
@[simp] theorem modCan_gte (c : Fin 8) (f : CanChan → CanChan) : (s.modCan c f).gte = s.gte := rfl
@[simp] theorem modCan_cnv (c : Fin 8) (f : CanChan → CanChan) : (s.modCan c f).cnv = s.cnv := rfl
@[simp] theorem modCan_twn (c : Fin 8) (f : CanChan → CanChan) : (s.modCan c f).twn = s.twn := rfl
@[simp] theorem modCan_saf (c : Fin 8) (f : CanChan → CanChan) : (s.modCan c f).saf = s.saf := rfl
@[simp] theorem modCan_freeCount (c : Fin 8) (f : CanChan → CanChan) : (s.modCan c f).freeCount = s.freeCount := rfl

@[simp] theorem modEth_pending (p : Fin 2) (f : EthPort → EthPort) : (s.modEth p f).pending = s.pending := rfl
@[simp] theorem modEth_variant (p : Fin 2) (f : EthPort → EthPort) : (s.modEth p f).variant = s.variant := rfl
@[simp] theorem modEth_hasB (p : Fin 2) (f : EthPort → EthPort) : (s.modEth p f).hasB = s.hasB := rfl
@[simp] theorem modEth_hasCharger (p : Fin 2) (f : EthPort → EthPort) : (s.modEth p f).hasCharger = s.hasCharger := rfl
@[simp] theorem modEth_hasPairs (p : Fin 2) (f : EthPort → EthPort) : (s.modEth p f).hasPairs = s.hasPairs := rfl
@[simp] theorem modEth_regs (p : Fin 2) (f : EthPort → EthPort) : (s.modEth p f).regs = s.regs := rfl
@[simp] theorem modEth_reg (p : Fin 2) (f : EthPort → EthPort) (q : Nat) : (s.modEth p f).reg q = s.reg q := rfl
@[simp] theorem modEth_fld (p : Fin 2) (f : EthPort → EthPort) (q : Nat) (y : Fld) : (s.modEth p f).fld q y = s.fld q y := rfl
@[simp] theorem modEth_bit (p : Fin 2) (f : EthPort → EthPort) (q : Nat) (y : Fld) : (s.modEth p f).bit q y = s.bit q y := rfl
@[simp] theorem modEth_nreg (p : Fin 2) (f : EthPort → EthPort) (q : Nat) : (s.modEth p f).nreg q = s.nreg q := rfl
@[simp] theorem modEth_now (p : Fin 2) (f : EthPort → EthPort) : (s.modEth p f).now = s.now := rfl
@[simp] theorem modEth_shadow (p : Fin 2) (f : EthPort → EthPort) : (s.modEth p f).shadow = s.shadow := rfl
@[simp] theorem modEth_cleShadow (p : Fin 2) (f : EthPort → EthPort) : (s.modEth p f).cleShadow = s.cleShadow := rfl
@[simp] theorem modEth_mem (p : Fin 2) (f : EthPort → EthPort) : (s.modEth p f).mem = s.mem := rfl
@[simp] theorem modEth_byte (p : Fin 2) (f : EthPort → EthPort) (b : Nat) : (s.modEth p f).byte b = s.byte b := rfl
@[simp] theorem modEth_word (p : Fin 2) (f : EthPort → EthPort) (b : Nat) : (s.modEth p f).word b = s.word b := rfl
@[simp] theorem modEth_mod (p : Fin 2) (f : EthPort → EthPort) : (s.modEth p f).mod = s.mod := rfl
@[simp] theorem modEth_mode (p : Fin 2) (f : EthPort → EthPort) : (s.modEth p f).mode = s.mode := rfl
@[simp] theorem modEth_clk (p : Fin 2) (f : EthPort → EthPort) : (s.modEth p f).clk = s.clk := rfl
@[simp] theorem modEth_seq (p : Fin 2) (f : EthPort → EthPort) : (s.modEth p f).seq = s.seq := rfl
@[simp] theorem modEth_engine (p : Fin 2) (f : EthPort → EthPort) (y : Fin 8) : (s.modEth p f).engine y = s.engine y := rfl
@[simp] theorem modEth_evt (p : Fin 2) (f : EthPort → EthPort) : (s.modEth p f).evt = s.evt := rfl
@[simp] theorem modEth_flash (p : Fin 2) (f : EthPort → EthPort) : (s.modEth p f).flash = s.flash := rfl
@[simp] theorem modEth_bus (p : Fin 2) (f : EthPort → EthPort) : (s.modEth p f).bus = s.bus := rfl
@[simp] theorem modEth_acq (p : Fin 2) (f : EthPort → EthPort) : (s.modEth p f).acq = s.acq := rfl
@[simp] theorem modEth_pos (p : Fin 2) (f : EthPort → EthPort) : (s.modEth p f).pos = s.pos := rfl
@[simp] theorem modEth_cle (p : Fin 2) (f : EthPort → EthPort) : (s.modEth p f).cle = s.cle := rfl
@[simp] theorem modEth_wfu (p : Fin 2) (f : EthPort → EthPort) : (s.modEth p f).wfu = s.wfu := rfl
@[simp] theorem modEth_gdp (p : Fin 2) (f : EthPort → EthPort) : (s.modEth p f).gdp = s.gdp := rfl
@[simp] theorem modEth_tdu (p : Fin 2) (f : EthPort → EthPort) : (s.modEth p f).tdu = s.tdu := rfl
@[simp] theorem modEth_budget (p : Fin 2) (f : EthPort → EthPort) : (s.modEth p f).budget = s.budget := rfl
@[simp] theorem modEth_act (p : Fin 2) (f : EthPort → EthPort) : (s.modEth p f).act = s.act := rfl
@[simp] theorem modEth_aux (p : Fin 2) (f : EthPort → EthPort) : (s.modEth p f).aux = s.aux := rfl
@[simp] theorem modEth_enp (p : Fin 2) (f : EthPort → EthPort) : (s.modEth p f).enp = s.enp := rfl
@[simp] theorem modEth_th (p : Fin 2) (f : EthPort → EthPort) : (s.modEth p f).th = s.th := rfl
@[simp] theorem modEth_gte (p : Fin 2) (f : EthPort → EthPort) : (s.modEth p f).gte = s.gte := rfl
@[simp] theorem modEth_cnv (p : Fin 2) (f : EthPort → EthPort) : (s.modEth p f).cnv = s.cnv := rfl
@[simp] theorem modEth_twn (p : Fin 2) (f : EthPort → EthPort) : (s.modEth p f).twn = s.twn := rfl
@[simp] theorem modEth_saf (p : Fin 2) (f : EthPort → EthPort) : (s.modEth p f).saf = s.saf := rfl
@[simp] theorem modEth_freeCount (p : Fin 2) (f : EthPort → EthPort) : (s.modEth p f).freeCount = s.freeCount := rfl

@[simp] theorem modSes_pending (n : Nat) (f : Session → Session) : (s.modSes n f).pending = s.pending := rfl
@[simp] theorem modSes_variant (n : Nat) (f : Session → Session) : (s.modSes n f).variant = s.variant := rfl
@[simp] theorem modSes_hasB (n : Nat) (f : Session → Session) : (s.modSes n f).hasB = s.hasB := rfl
@[simp] theorem modSes_hasCharger (n : Nat) (f : Session → Session) : (s.modSes n f).hasCharger = s.hasCharger := rfl
@[simp] theorem modSes_hasPairs (n : Nat) (f : Session → Session) : (s.modSes n f).hasPairs = s.hasPairs := rfl
@[simp] theorem modSes_regs (n : Nat) (f : Session → Session) : (s.modSes n f).regs = s.regs := rfl
@[simp] theorem modSes_reg (n : Nat) (f : Session → Session) (q : Nat) : (s.modSes n f).reg q = s.reg q := rfl
@[simp] theorem modSes_fld (n : Nat) (f : Session → Session) (q : Nat) (y : Fld) : (s.modSes n f).fld q y = s.fld q y := rfl
@[simp] theorem modSes_bit (n : Nat) (f : Session → Session) (q : Nat) (y : Fld) : (s.modSes n f).bit q y = s.bit q y := rfl
@[simp] theorem modSes_nreg (n : Nat) (f : Session → Session) (q : Nat) : (s.modSes n f).nreg q = s.nreg q := rfl
@[simp] theorem modSes_now (n : Nat) (f : Session → Session) : (s.modSes n f).now = s.now := rfl
@[simp] theorem modSes_shadow (n : Nat) (f : Session → Session) : (s.modSes n f).shadow = s.shadow := rfl
@[simp] theorem modSes_cleShadow (n : Nat) (f : Session → Session) : (s.modSes n f).cleShadow = s.cleShadow := rfl
@[simp] theorem modSes_mem (n : Nat) (f : Session → Session) : (s.modSes n f).mem = s.mem := rfl
@[simp] theorem modSes_byte (n : Nat) (f : Session → Session) (b : Nat) : (s.modSes n f).byte b = s.byte b := rfl
@[simp] theorem modSes_word (n : Nat) (f : Session → Session) (b : Nat) : (s.modSes n f).word b = s.word b := rfl
@[simp] theorem modSes_mod (n : Nat) (f : Session → Session) : (s.modSes n f).mod = s.mod := rfl
@[simp] theorem modSes_mode (n : Nat) (f : Session → Session) : (s.modSes n f).mode = s.mode := rfl
@[simp] theorem modSes_clk (n : Nat) (f : Session → Session) : (s.modSes n f).clk = s.clk := rfl
@[simp] theorem modSes_seq (n : Nat) (f : Session → Session) : (s.modSes n f).seq = s.seq := rfl
@[simp] theorem modSes_engine (n : Nat) (f : Session → Session) (y : Fin 8) : (s.modSes n f).engine y = s.engine y := rfl
@[simp] theorem modSes_evt (n : Nat) (f : Session → Session) : (s.modSes n f).evt = s.evt := rfl
@[simp] theorem modSes_flash (n : Nat) (f : Session → Session) : (s.modSes n f).flash = s.flash := rfl
@[simp] theorem modSes_bus (n : Nat) (f : Session → Session) : (s.modSes n f).bus = s.bus := rfl
@[simp] theorem modSes_acq (n : Nat) (f : Session → Session) : (s.modSes n f).acq = s.acq := rfl
@[simp] theorem modSes_pos (n : Nat) (f : Session → Session) : (s.modSes n f).pos = s.pos := rfl
@[simp] theorem modSes_cle (n : Nat) (f : Session → Session) : (s.modSes n f).cle = s.cle := rfl
@[simp] theorem modSes_wfu (n : Nat) (f : Session → Session) : (s.modSes n f).wfu = s.wfu := rfl
@[simp] theorem modSes_gdp (n : Nat) (f : Session → Session) : (s.modSes n f).gdp = s.gdp := rfl
@[simp] theorem modSes_tdu (n : Nat) (f : Session → Session) : (s.modSes n f).tdu = s.tdu := rfl
@[simp] theorem modSes_budget (n : Nat) (f : Session → Session) : (s.modSes n f).budget = s.budget := rfl
@[simp] theorem modSes_act (n : Nat) (f : Session → Session) : (s.modSes n f).act = s.act := rfl
@[simp] theorem modSes_aux (n : Nat) (f : Session → Session) : (s.modSes n f).aux = s.aux := rfl
@[simp] theorem modSes_enp (n : Nat) (f : Session → Session) : (s.modSes n f).enp = s.enp := rfl
@[simp] theorem modSes_th (n : Nat) (f : Session → Session) : (s.modSes n f).th = s.th := rfl
@[simp] theorem modSes_gte (n : Nat) (f : Session → Session) : (s.modSes n f).gte = s.gte := rfl
@[simp] theorem modSes_net (n : Nat) (f : Session → Session) : (s.modSes n f).net = s.net := rfl
@[simp] theorem modSes_twn (n : Nat) (f : Session → Session) : (s.modSes n f).twn = s.twn := rfl
@[simp] theorem modSes_saf (n : Nat) (f : Session → Session) : (s.modSes n f).saf = s.saf := rfl
@[simp] theorem modSes_freeCount (n : Nat) (f : Session → Session) : (s.modSes n f).freeCount = s.freeCount := rfl

end State
end Sys2Proof.Machine
end

