-- ==== Sys2Proof/Laws/Stores.lean ====
section
/-!
SUPPORT. The keyed stores behind registers and memory: a read after a write, and that every write keeps the canonical form.
-/

namespace Sys2Proof.Machine

section Store
variable {α : Type}

@[simp] theorem kvGet_kvErase_same (l : List (Nat × α)) (a : Nat) : kvGet (kvErase l a) a = none := by
  induction l with
  | nil => rfl
  | cons p t ih => unfold kvErase; split <;> simp_all [kvGet]

theorem kvGet_kvErase_ne (l : List (Nat × α)) {a b : Nat} (h : b ≠ a) : kvGet (kvErase l a) b = kvGet l b := by
  induction l with
  | nil => rfl
  | cons p t ih =>
    unfold kvErase; split
    · rename_i e; simp [kvGet, ih, show p.1 ≠ b by omega]
    · simp [kvGet, ih]

theorem kvGet_none_of_wf [DecidableEq α] {d : Nat → α} {lo a : Nat} {l : List (Nat × α)} (h : kvWf d lo l = true)
    (ha : a < lo) : kvGet l a = none := by
  induction l generalizing lo with
  | nil => rfl
  | cons p t ih =>
    simp only [kvWf, Bool.and_eq_true, decide_eq_true_eq] at h
    simp [kvGet, show p.1 ≠ a by omega, ih h.2 (by omega)]

theorem kvGet_kvInsert_same (l : List (Nat × α)) (a : Nat) (v : α) (h : kvGet l a = none) :
    kvGet (kvInsert l a v) a = some v := by
  induction l with
  | nil => simp [kvInsert, kvGet]
  | cons p t ih =>
    simp only [kvGet] at h
    split at h
    · cases h
    · rename_i hne
      unfold kvInsert; split
      · simp [kvGet]
      · simp [kvGet, hne, ih h]

theorem kvGet_kvInsert_ne (l : List (Nat × α)) {a b : Nat} (v : α) (h : b ≠ a) :
    kvGet (kvInsert l a v) b = kvGet l b := by
  induction l with
  | nil => simp [kvInsert, kvGet, Ne.symm h]
  | cons p t ih =>
    unfold kvInsert; split
    · simp [kvGet, Ne.symm h]
    · simp [kvGet, ih]

/-- A read after a write: the key written gives the value, every other key what it gave. -/
theorem kvSet_getD [DecidableEq α] (l : List (Nat × α)) (a b : Nat) (v : α) (d : Nat → α) :
    (kvGet (kvSet l a v (d a)) b).getD (d b) = if b = a then v else (kvGet l b).getD (d b) := by
  unfold kvSet
  by_cases hb : b = a
  · subst hb
    by_cases hv : v = d b
    · simp [hv]
    · simp [hv, kvGet_kvInsert_same _ _ _ (kvGet_kvErase_same l b)]
  · by_cases hv : v = d a
    · simp [hv, hb, kvGet_kvErase_ne l hb]
    · simp [hv, hb, kvGet_kvInsert_ne _ _ hb, kvGet_kvErase_ne l hb]

theorem kvWf_mono [DecidableEq α] {d : Nat → α} {lo lo' : Nat} {l : List (Nat × α)} (h : kvWf d lo l = true)
    (hl : lo' ≤ lo) : kvWf d lo' l = true := by
  cases l with
  | nil => rfl
  | cons p t =>
    simp only [kvWf, Bool.and_eq_true, decide_eq_true_eq] at h ⊢
    exact ⟨⟨by omega, h.1.2⟩, h.2⟩

theorem kvWf_kvErase [DecidableEq α] {d : Nat → α} {lo : Nat} {l : List (Nat × α)} (a : Nat) (h : kvWf d lo l = true) :
    kvWf d lo (kvErase l a) = true := by
  induction l generalizing lo with
  | nil => rfl
  | cons p t ih =>
    simp only [kvWf, Bool.and_eq_true, decide_eq_true_eq] at h
    unfold kvErase; split
    · exact kvWf_mono (ih h.2) (by omega)
    · simp only [kvWf, Bool.and_eq_true, decide_eq_true_eq]; exact ⟨h.1, ih h.2⟩

theorem kvWf_kvInsert [DecidableEq α] {d : Nat → α} {lo a : Nat} {v : α} {l : List (Nat × α)} (h : kvWf d lo l = true)
    (hv : v ≠ d a) (hl : lo ≤ a) (hn : kvGet l a = none) : kvWf d lo (kvInsert l a v) = true := by
  induction l generalizing lo with
  | nil => simp [kvInsert, kvWf, hl, hv]
  | cons p t ih =>
    simp only [kvWf, Bool.and_eq_true, decide_eq_true_eq] at h
    simp only [kvGet] at hn
    split at hn
    · cases hn
    · rename_i hne
      unfold kvInsert; split
      · simp only [kvWf, Bool.and_eq_true, decide_eq_true_eq, bne_iff_ne]
        exact ⟨⟨hl, hv⟩, ⟨by omega, by simpa using h.1.2⟩, h.2⟩
      · simp only [kvWf, Bool.and_eq_true, decide_eq_true_eq]
        exact ⟨h.1, ih h.2 (by omega) hn⟩

/-- Every write keeps the canonical form. -/
theorem kvWf_kvSet [DecidableEq α] {d : Nat → α} {l : List (Nat × α)} (a : Nat) (v : α) (h : kvWf d 0 l = true) :
    kvWf d 0 (kvSet l a v (d a)) = true := by
  unfold kvSet; split
  · exact kvWf_kvErase a h
  · exact kvWf_kvInsert (kvWf_kvErase a h) (by assumption) (by omega) (kvGet_kvErase_same l a)

end Store

namespace State

/-! ### Registers -/

theorem reg_setReg (s : State) (r q : Nat) (v : Word) : (s.setReg r v).reg q = if q = r then v else s.reg q :=
  kvSet_getD s.regs r q v regReset

@[simp] theorem reg_setReg_same (s : State) (r : Nat) (v : Word) : (s.setReg r v).reg r = v := by simp [reg_setReg]

theorem reg_setReg_ne (s : State) {r q : Nat} (v : Word) (h : q ≠ r) : (s.setReg r v).reg q = s.reg q := by
  simp [reg_setReg, h]

theorem setReg_wf (s : State) (r : Nat) (v : Word) (h : regsWf s.regs = true) : regsWf (s.setReg r v).regs = true :=
  kvWf_kvSet (d := regReset) r v h

/-! ### Memory -/

theorem byte_setByte (s : State) (a b : Nat) (v : Byte) : (s.setByte a v).byte b = if b = a then v else s.byte b :=
  kvSet_getD s.mem a b v memDefault

@[simp] theorem byte_setByte_same (s : State) (a : Nat) (v : Byte) : (s.setByte a v).byte a = v := by
  simp [byte_setByte]

theorem byte_setByte_ne (s : State) {a b : Nat} (v : Byte) (h : b ≠ a) : (s.setByte a v).byte b = s.byte b := by
  simp [byte_setByte, h]

theorem setByte_wf (s : State) (a : Nat) (v : Byte) (h : Memory.wf s.mem = true) :
    Memory.wf (s.setByte a v).mem = true :=
  kvWf_kvSet (d := memDefault) a v h

theorem setHalf_wf (s : State) (a : Nat) (v : BitVec 16) (h : Memory.wf s.mem = true) :
    Memory.wf (s.setHalf a v).mem = true :=
  setByte_wf _ _ _ (setByte_wf _ _ _ h)

theorem setWord_wf (s : State) (a : Nat) (v : Word) (h : Memory.wf s.mem = true) :
    Memory.wf (s.setWord a v).mem = true :=
  setByte_wf _ _ _ (setByte_wf _ _ _ (setByte_wf _ _ _ (setByte_wf _ _ _ h)))

theorem setBytes_wf (s : State) (a : Nat) (l : List Byte) (h : Memory.wf s.mem = true) :
    Memory.wf (s.setBytes a l).mem = true := by
  induction l generalizing s a with
  | nil => exact h
  | cons b t ih => exact ih _ _ (setByte_wf _ _ _ h)

theorem byte_setWord_ne (s : State) {a b : Nat} (v : Word) (h : b < a ∨ a + 4 ≤ b) :
    (s.setWord a v).byte b = s.byte b := by
  unfold setWord
  rw [byte_setByte_ne _ _ (by omega), byte_setByte_ne _ _ (by omega), byte_setByte_ne _ _ (by omega),
    byte_setByte_ne _ _ (by omega)]

theorem byte_setBytes_ne (s : State) {a b : Nat} (l : List Byte) (h : b < a ∨ a + l.length ≤ b) :
    (s.setBytes a l).byte b = s.byte b := by
  induction l generalizing s a with
  | nil => rfl
  | cons x t ih =>
    have h' : b < a ∨ a + (t.length + 1) ≤ b := by simpa using h
    rw [setBytes, ih _ (by omega), byte_setByte_ne _ _ (by omega)]

@[simp] theorem word_setWord (s : State) (a : Nat) (v : Word) : (s.setWord a v).word a = v := by
  have e0 : (s.setWord a v).byte a = v.extractLsb' 0 8 := by simp [setWord, byte_setByte]
  have e1 : (s.setWord a v).byte (a + 1) = v.extractLsb' 8 8 := by simp [setWord, byte_setByte]
  have e2 : (s.setWord a v).byte (a + 2) = v.extractLsb' 16 8 := by simp [setWord, byte_setByte]
  have e3 : (s.setWord a v).byte (a + 3) = v.extractLsb' 24 8 := by simp [setWord]
  rw [word, e0, e1, e2, e3]
  apply BitVec.eq_of_getLsbD_eq
  intro i hi
  simp only [BitVec.getLsbD_append, BitVec.getLsbD_extractLsb']
  split
  · simp_all
  · split
    · simp [show i - 8 < 8 by omega, show 8 + (i - 8) = i by omega]
    · split
      · simp [show i - 8 - 8 < 8 by omega, show 16 + (i - 8 - 8) = i by omega]
      · simp [show i - 8 - 8 - 8 < 8 by omega, show 24 + (i - 8 - 8 - 8) = i by omega]

theorem reset_memory_wf : Memory.wf State.reset.mem = true := by decide

end State
end Sys2Proof.Machine
end

