-- ==== Sys2Proof/Laws/Words.lean ====
section
/-!
SUPPORT. Bit ranges of words: a field read after a field is written, and the same for the fields of registers.
-/

namespace Sys2Proof

theorem Word.testBit_bits (w : Word) (hi lo i : Nat) :
    (w.bits hi lo).testBit i = (decide (i < hi + 1 - lo) && w.getLsbD (lo + i)) := by
  simp [Word.bits, Nat.testBit_mod_two_pow, Nat.testBit_div_two_pow, BitVec.getLsbD, Nat.add_comm]

theorem Word.getLsbD_field (hi lo v i : Nat) :
    (Word.field hi lo v).getLsbD i = (decide (i < 32) && decide (lo ≤ i) && decide (i < hi + 1) && v.testBit (i - lo)) := by
  simp only [Word.field, BitVec.getLsbD_ofNat, Nat.testBit_mul_two_pow, Nat.testBit_mod_two_pow]
  by_cases h1 : lo ≤ i
  · have e : decide (i - lo < hi + 1 - lo) = decide (i < hi + 1) := decide_eq_decide.mpr (by omega)
    by_cases h2 : i < 32 <;> simp [h1, h2, e]
  · simp [h1]

theorem Word.getLsbD_mask (hi lo i : Nat) :
    (Word.mask hi lo).getLsbD i = (decide (i < 32) && decide (lo ≤ i) && decide (i < hi + 1)) := by
  rw [Word.mask, Word.getLsbD_field, Nat.testBit_two_pow_sub_one]
  by_cases h : i < 32 <;> simp [h]
  omega

theorem Word.getLsbD_setBits (w : Word) (hi lo v i : Nat) :
    (w.setBits hi lo v).getLsbD i =
      if lo ≤ i ∧ i < hi + 1 then decide (i < 32) && v.testBit (i - lo) else w.getLsbD i := by
  simp only [Word.setBits, BitVec.getLsbD_or, BitVec.getLsbD_and, BitVec.getLsbD_not, Word.getLsbD_mask, Word.getLsbD_field]
  by_cases h : i < 32
  · by_cases h1 : lo ≤ i <;> by_cases h2 : i < hi + 1 <;> simp [h, h1, h2]
  · have : w.getLsbD i = false := BitVec.getLsbD_of_ge _ _ (by omega)
    simp [h, this]

/-- A field reads as what was written to it, cut to its width. -/
@[simp] theorem Word.bits_setBits_same (w : Word) {hi lo : Nat} (v : Nat) (h : hi < 32) :
    (w.setBits hi lo v).bits hi lo = v % 2 ^ (hi + 1 - lo) := by
  apply Nat.eq_of_testBit_eq
  intro i
  rw [Word.testBit_bits, Nat.testBit_mod_two_pow, Word.getLsbD_setBits]
  by_cases h1 : i < hi + 1 - lo
  · simp [h1, show lo ≤ lo + i ∧ lo + i < hi + 1 by omega, show lo + i < 32 by omega]
  · simp [h1]

/-- A field keeps its value where another range is written. -/
theorem Word.bits_setBits_ne (w : Word) {hi lo hi' lo' : Nat} (v : Nat) (h : hi' < lo ∨ hi < lo') :
    (w.setBits hi lo v).bits hi' lo' = w.bits hi' lo' := by
  apply Nat.eq_of_testBit_eq
  intro i
  rw [Word.testBit_bits, Word.testBit_bits, Word.getLsbD_setBits]
  by_cases h1 : i < hi' + 1 - lo'
  · rw [if_neg (by omega)]
  · simp [h1]

theorem Word.bit_setBits_ne (w : Word) {hi lo i : Nat} (v : Nat) (h : i < lo ∨ hi < i) :
    (w.setBits hi lo v).bit i = w.bit i := by
  rw [Word.bit, Word.getLsbD_setBits, if_neg (by omega), Word.bit]

theorem Word.bit_setBits_one (w : Word) {i v : Nat} (h : i < 32) : (w.setBits i i v).bit i = v.testBit 0 := by
  rw [Word.bit, Word.getLsbD_setBits, if_pos (by omega)]; simp [h]

end Sys2Proof

namespace Sys2Proof.Machine.State

theorem reg_setFld (s : State) (r q : Nat) (f : Fld) (v : Nat) :
    (s.setFld r f v).reg q = if q = r then (s.reg r).setBits f.hi f.lo v else s.reg q := reg_setReg s r q _

/-- A field of a register reads as what was written to it, cut to its width. -/
theorem fld_setFld_same (s : State) (r : Nat) (f : Fld) (v : Nat) (h : f.hi < 32) :
    (s.setFld r f v).fld r f = v % 2 ^ (f.hi + 1 - f.lo) := by
  simp [fld, reg_setFld, Word.bits_setBits_same _ _ h]

/-- Another field, of the same register or of another, keeps its value. -/
theorem fld_setFld_ne (s : State) (r q : Nat) (f g : Fld) (v : Nat) (h : q ≠ r ∨ g.hi < f.lo ∨ f.hi < g.lo) :
    (s.setFld r f v).fld q g = s.fld q g := by
  simp only [fld, reg_setFld]
  split
  · rename_i e; subst e
    exact Word.bits_setBits_ne _ _ (by omega)
  · rfl

theorem fld_setReg_ne (s : State) {r q : Nat} (g : Fld) (v : Word) (h : q ≠ r) : (s.setReg r v).fld q g = s.fld q g := by
  simp [fld, reg_setReg, h]

theorem bit_raise_same (s : State) (r : Nat) (f : Fld) (h : f.hi = f.lo) (h' : f.lo < 32) :
    (s.raise r f).bit r f = true := by
  simp only [bit, raise, reg_setFld, if_pos, h]
  rw [Word.bit_setBits_one _ h']; rfl

end Sys2Proof.Machine.State
end

