-- ==== Sys2Proof/Laws/Frames.lean ====
section
/-!
SUPPORT. What the shared operations do, in the terms of Frame.lean: changing one engine, firing an event source, and completing an
instruction.
-/

namespace Sys2Proof.Machine

@[simp] theorem vupd_same {α : Type} {n : Nat} (v : Vector α n) (i : Fin n) (f : α → α) : (vupd v i f)[i] = f v[i] := by
  simp [vupd]

theorem vupd_ne {α : Type} {n : Nat} (v : Vector α n) {i j : Fin n} (f : α → α) (h : j ≠ i) : (vupd v i f)[j] = v[j] := by
  have : i.val ≠ j.val := fun e => h (Fin.ext e.symm)
  simp [vupd, this]

theorem getLsbD_pow2 (m n : Nat) (h : n < m) (k : Nat) :
    (BitVec.ofNat m (2 ^ n)).getLsbD k = decide (k = n) := by
  rw [BitVec.getLsbD_ofNat, Nat.testBit_two_pow]
  by_cases hk : k = n
  · subst hk; simp [h]
  · simp [hk, Ne.symm hk]

namespace State

/-! ### Engines -/

@[simp] theorem engine_modEngine_same (s : State) (e : Fin 8) (f : Engine → Engine) :
    (s.modEngine e f).engine e = f (s.engine e) := vupd_same s.seq e f

theorem engine_modEngine_ne (s : State) {e x : Fin 8} (f : Engine → Engine) (h : x ≠ e) :
    (s.modEngine e f).engine x = s.engine x := vupd_ne s.seq f h

theorem engine_fire (s : State) (n : Nat) (e : Fin 8) :
    (s.fire n).engine e
      = { s.engine e with evl := (s.engine e).evl ||| if s.up then BitVec.ofNat 256 (2 ^ n) else 0 } := by
  show (if s.up then s.seq.map _ else s.seq)[e] = _
  split <;> simp_all [engine]

@[simp] theorem fire_up (s : State) (n : Nat) : (s.fire n).up = s.up := rfl

@[simp] theorem modEngine_up (s : State) (e : Fin 8) (f : Engine → Engine) : (s.modEngine e f).up = s.up := rfl

@[simp] theorem setReg_up (s : State) (r : Nat) (w : Word) : (s.setReg r w).up = s.up := rfl

/-! ### Frames -/

theorem sameBut_refl (s : State) (regs : List Nat) (parts : List Comp) : s.sameBut s regs parts :=
  ⟨rfl, fun _ _ => rfl, fun _ => rfl, fun c _ => by cases c <;> simp [Comp.same]⟩

theorem sameBut_trans {s t u : State} {regs : List Nat} {parts : List Comp} (h : s.sameBut t regs parts)
    (h' : t.sameBut u regs parts) : s.sameBut u regs parts := by
  obtain ⟨a, b, c, d⟩ := h
  obtain ⟨a', b', c', d'⟩ := h'
  refine ⟨a'.trans a, fun r hr => (b' r hr).trans (b r hr), fun x => (c' x).trans (c x), fun x hx => ?_⟩
  have h1 := d x hx
  have h2 := d' x hx
  cases x <;> simp only [Comp.same] at h1 h2 ⊢ <;> first | exact h2.trans h1 | exact fun e => (h2 e).trans (h1 e)

theorem sameBut_mono {s t : State} {regs regs' : List Nat} {parts parts' : List Comp} (h : s.sameBut t regs parts)
    (hr : ∀ r, r ∈ regs → r ∈ regs') (hp : ∀ c, c ∈ parts → c ∈ parts') : s.sameBut t regs' parts' :=
  ⟨h.1, fun r n => h.2.1 r fun m => n (hr r m), h.2.2.1, fun c n => h.2.2.2 c fun m => n (hp c m)⟩

theorem sameBut_setReg {s t : State} {regs : List Nat} {parts : List Comp} (h : s.sameBut t regs parts) (r : Nat) (v : Word)
    (hr : r ∈ regs) : s.sameBut (t.setReg r v) regs parts := by
  refine ⟨h.1, fun q hq => ?_, h.2.2.1, fun c hc => ?_⟩
  · rw [reg_setReg_ne _ _ (by rintro rfl; exact hq hr)]; exact h.2.1 q hq
  · have := h.2.2.2 c hc
    cases c <;> exact this

theorem sameBut_setFld {s t : State} {regs : List Nat} {parts : List Comp} (h : s.sameBut t regs parts) (r : Nat) (f : Fld)
    (v : Nat) (hr : r ∈ regs) : s.sameBut (t.setFld r f v) regs parts := sameBut_setReg h r _ hr

theorem sameBut_modEngine {s t : State} {regs : List Nat} {parts : List Comp} (h : s.sameBut t regs parts) (e : Fin 8)
    (f : Engine → Engine) (hp : .engines ∈ parts) (hl : .latches ∈ parts) : s.sameBut (t.modEngine e f) regs parts := by
  refine ⟨h.1, h.2.1, h.2.2.1, fun c hc => ?_⟩
  have := h.2.2.2 c hc
  cases c <;> first | exact this | exact absurd hp hc | exact absurd hl hc

/-- A change that leaves the engine's event latch alone. -/
theorem sameBut_modEngine' {s t : State} {regs : List Nat} {parts : List Comp} (h : s.sameBut t regs parts) (e : Fin 8)
    (f : Engine → Engine) (hp : .engines ∈ parts) (hl : ∀ x, (f x).evl = x.evl) :
    s.sameBut (t.modEngine e f) regs parts := by
  refine ⟨h.1, h.2.1, h.2.2.1, fun c hc => ?_⟩
  have := h.2.2.2 c hc
  cases c <;> first | exact this | exact absurd hp hc | skip
  intro x
  by_cases hx : x = e
  · subst hx; rw [engine_modEngine_same, hl]; exact this x
  · rw [engine_modEngine_ne _ _ hx]; exact this x

theorem sameBut_fire {s t : State} {regs : List Nat} {parts : List Comp} (h : s.sameBut t regs parts) (n : Nat)
    (hp : .pending ∈ parts) (hl : .latches ∈ parts) : s.sameBut (t.fire n) regs parts := by
  refine ⟨h.1, h.2.1, h.2.2.1, fun c hc => ?_⟩
  have := h.2.2.2 c hc
  cases c <;> first | exact this | exact absurd hp hc | exact absurd hl hc | skip
  intro e
  rw [engine_fire]; exact this e

/-! ### Firing -/

/-- What fires from `u` on shows in any later state with the same pending events and latches. -/
theorem fires_of_eq {s t : State} {l : List Nat} (u : State) (h : s.fires u l) (hp : t.evt.pend = u.evt.pend)
    (he : ∀ e, (t.engine e).evl = (u.engine e).evl) : s.fires t l :=
  ⟨fun n hn => by rw [hp]; exact h.1 n hn, fun e n hn => by rw [he]; exact h.2 e n hn⟩

/-- One source fires. -/
theorem fires_fire (s : State) (n : Nat) (h : n < 256) : s.fires (s.fire n) [n] := by
  refine ⟨fun k hk => ?_, fun e k hk => ?_⟩
  · show (s.evt.pend ||| BitVec.ofNat 256 (2 ^ n)).getLsbD k = _
    rw [BitVec.getLsbD_or, getLsbD_pow2 _ _ h]; simp
  · rw [engine_fire]
    show ((s.engine e).evl ||| if s.up then BitVec.ofNat 256 (2 ^ n) else 0).getLsbD k = _
    rw [BitVec.getLsbD_or]
    split
    · next hu => rw [getLsbD_pow2 _ _ h, hu]; simp
    · next hu => simp [hu]

theorem fires_trans {s t u : State} {l l' : List Nat} (h : s.fires t l) (h' : t.fires u l') (hu : t.up = s.up) :
    s.fires u (l ++ l') := by
  refine ⟨fun n hn => ?_, fun e n hn => ?_⟩
  · rw [h'.1 n hn, h.1 n hn]; simp [Bool.or_assoc]
  · rw [h'.2 e n hn, h.2 e n hn, hu]; simp [Bool.or_assoc, Bool.and_or_distrib_left]

/-! ### Completing an instruction -/

theorem completeInstr_ok (s : State) (e : Fin 8) (op pc : Nat) :
    s.completeInstr e op pc .ok =
      (s.setFld (R.SEQ_LAST e.val) F.SEQ_LAST_OPCODE op).setFld (R.SEQ_LAST e.val) F.SEQ_LAST_STATUS 0 := rfl

/-- A completion with OK, after a change of the engine that leaves its latch to `x`. -/
theorem engineOk_of {s u : State} (e : Fin 8) (op was : Nat) (x : Engine) (regs : List Nat) (ho : op < 64)
    (hx : u.engine e = { x with ending := none, busy := 0 }) (hy : ∀ y, y ≠ e → u.engine y = s.engine y)
    (hs : u.fld (R.SEQ_LAST e.val) F.SEQ_LAST_SIGVAL = s.fld (R.SEQ_LAST e.val) F.SEQ_LAST_SIGVAL)
    (h : s.sameBut u (R.SEQ_LAST e.val :: regs) [.engines, .latches]) :
    s.engineOk (u.completeInstr e op was .ok) e op x regs := by
  rw [completeInstr_ok]
  refine ⟨hx, hy, ?_, ?_, ?_, ?_⟩
  · rw [fld_setFld_ne _ _ _ _ _ _ (.inr (by decide)), fld_setFld_same _ _ _ _ (by decide)]
    exact Nat.mod_eq_of_lt (by simpa [F.SEQ_LAST_OPCODE] using ho)
  · rw [fld_setFld_same _ _ _ _ (by decide)]; rfl
  · rw [fld_setFld_ne _ _ _ _ _ _ (.inr (by decide)), fld_setFld_ne _ _ _ _ _ _ (.inr (by decide)), hs]
  · exact sameBut_setFld (sameBut_setFld h _ _ _ (by simp)) _ _ _ (by simp)

/-- An engine that may issue does what the instruction does. -/
theorem seqIssue_of {s : State} {e : Fin 8} {len : Nat} (h : s.mayIssue e len) (act : State → Option Issued) :
    s.seqIssue e len act = act s := by
  have h1 : ¬ seqWords < (s.engine e).pc + len := by have := h.2; simp [seqWords]; omega
  rw [seqIssue, h.1, if_neg (by simp), if_neg h1]

end State
end Sys2Proof.Machine
end

