-- ==== Sys2Proof/Laws/Engine.lean ====
section
/-!
SUPPORT. What the shared operations of the schedule instructions do: completing and going on, jumping, and faulting.
-/

namespace Sys2Proof.Machine
namespace State

theorem seqLast_ne_v (e : Fin 8) (k : Fin 16) : R.SEQ_LAST e.val ≠ R.SEQ_V e.val k.val := by
  simp only [R.SEQ_LAST, R.SEQ_V]; omega

/-- An instruction that acted on its unit, giving `u`, completes with OK: `u` differs from `s` at engine `e` and the registers
`regs` alone. -/
theorem finish_ok (s u : State) (e : Fin 8) (f : Finish) (x : Engine) (regs : List Nat) (ho : f.op < 64) (hst : f.st = .ok)
    (hv : f.vd = none) (hx : { u.engine e with pc := f.next } = x) (hy : ∀ y, y ≠ e → u.engine y = s.engine y)
    (hs : u.fld (R.SEQ_LAST e.val) F.SEQ_LAST_SIGVAL = s.fld (R.SEQ_LAST e.val) F.SEQ_LAST_SIGVAL)
    (h : s.sameBut u (R.SEQ_LAST e.val :: regs) [.engines, .latches]) :
    s.engineOk (u.finish e f) e f.op x regs := by
  rw [finish, hv, hst]
  refine engineOk_of (u := u.modEngine e fun x => { x with pc := f.next, ending := none, busy := 0 }) e f.op f.was x regs ho
    ?_ ?_ hs ?_
  · rw [engine_modEngine_same, ← hx]
  · intro y hne; rw [engine_modEngine_ne _ _ hne, hy _ hne]
  · exact sameBut_modEngine h _ _ (by simp) (by simp)

/-- An instruction that only goes on completes with OK. -/
theorem seqDone_ok_plain (s : State) (e : Fin 8) (op pc : Nat) (ho : op < 64) :
    s.engineOk ((s.seqDone e op pc .ok).now e) e op { s.engine e with pc := pc } [] :=
  finish_ok s s e _ _ [] ho rfl rfl rfl (fun _ _ => rfl) rfl (sameBut_refl _ _ _)

/-- An instruction that changes its engine completes with OK. -/
theorem seqDone_ok_mod (s : State) (e : Fin 8) (f : Engine → Engine) (op pc : Nat) (ho : op < 64) :
    s.engineOk (((s.modEngine e f).seqDone e op pc .ok).now e) e op { f (s.engine e) with pc := pc } [] :=
  finish_ok s _ e _ _ [] ho rfl rfl (by rw [engine_modEngine_same]) (fun _ h => engine_modEngine_ne _ _ h) rfl
    (sameBut_modEngine (sameBut_refl _ _ _) _ _ (by simp) (by simp))

/-- The instruction writes v`vd` and completes with OK. -/
theorem seqGive_ok (s : State) (e : Fin 8) (vd : Fin 16) (op len : Nat) (w : Word) (ho : op < 64) :
    ((s.seqGive e vd w op len .ok).now e).v e vd = w
      ∧ s.engineOk ((s.seqGive e vd w op len .ok).now e) e op { s.engine e with pc := (s.engine e).pc + len }
          [R.SEQ_V e.val vd.val] := by
  constructor
  · have h := (seqLast_ne_v e vd).symm
    show ((((s.setV e vd w).modEngine _ _).setFld _ _ _).setFld _ _ _).reg _ = _
    rw [reg_setFld, if_neg h, reg_setFld, if_neg h]
    simp [setV]
  · exact finish_ok s (s.setV e vd w) e ⟨op, (s.engine e).pc, (s.engine e).pc + len, .ok, none⟩ _ _ ho rfl rfl rfl
      (fun _ _ => rfl) (fld_setReg_ne _ _ _ (seqLast_ne_v e vd)) (sameBut_setReg (sameBut_refl _ _ _) _ _ (by simp))

/-- A jump whose target lies within schedule memory. -/
theorem seqJump_ok (s : State) (e : Fin 8) (op : Nat) (d : Int) (act : State → State)
    (h1 : 0 ≤ ((s.engine e).pc : Int) + d) (h2 : ((s.engine e).pc : Int) + d < 131072) :
    s.seqJump e op d act = (act s).seqDone e op (((s.engine e).pc : Int) + d).toNat .ok := by
  have h3 : ¬ (seqWords : Int) ≤ ((s.engine e).pc : Int) + d := by unfold seqWords; omega
  have h4 : ¬ ((s.engine e).pc : Int) + d < 0 := by omega
  simp [seqJump, h3, h4]

/-- A jump whose target lies outside. -/
theorem seqJump_fault (s : State) (e : Fin 8) (op : Nat) (d : Int) (act : State → State)
    (h : ((s.engine e).pc : Int) + d < 0 ∨ 131072 ≤ ((s.engine e).pc : Int) + d) :
    s.seqJump e op d act = .done (s.seqFault e 4) := by
  rw [seqJump, if_pos]
  rcases h with h | h
  · simp [h]
  · have h3 : (seqWords : Int) ≤ ((s.engine e).pc : Int) + d := by unfold seqWords; omega
    simp [h3]

/-- What a program fault does (R109). -/
theorem seqFault_spec (s : State) (e : Fin 8) (c : Nat) : s.engineFaulted (s.seqFault e c) e c := by
  refine ⟨?_, fun y hy => ?_, ?_, ?_⟩
  · rw [seqFault, engine_fire, engine_modEngine_same]
  · rw [seqFault, engine_fire, engine_modEngine_ne _ _ hy]
  · refine ⟨(fires_fire _ _ (by omega)).1, fun x n hn => ?_⟩
    rw [seqFault, (fires_fire _ _ (by omega)).2 x n hn, modEngine_up]
    by_cases hx : x = e
    · subst hx; simp
    · rw [engine_modEngine_ne _ _ hx]
  · exact sameBut_fire (sameBut_modEngine (sameBut_refl _ _ _) _ _ (by simp) (by simp)) _ (by simp) (by simp)

/-- An issuing engine whose instruction runs beyond schedule memory. -/
theorem seqIssue_fault {s : State} {e : Fin 8} {len : Nat} (h : s.issuing e = true) (hp : 131072 < (s.engine e).pc + len)
    (act : State → Option Issued) : s.seqIssue e len act = some (.done (s.seqFault e 4)) := by
  have h1 : seqWords < (s.engine e).pc + len := by unfold seqWords; omega
  rw [seqIssue, h, if_neg (by simp), if_pos h1]

end State
end Sys2Proof.Machine
end

