-- ==== Sys2Proof/Laws/PerInstr.lean ====
section
/-!
SUPPORT. Laws stated per command: the opcode field of the schedule instructions' words (R122, R125).
-/

namespace Sys2Proof.Laws.OpcodeField

open Sys2Proof.Machine

set_option linter.unusedSimpArgs false

/-- The opcode field as a bit vector. -/
def top (w : Word) : BitVec 6 := w.extractLsb' 26 6

/-- The opcode field as a number. -/
theorem bits_top (w : Word) : w.bits 31 26 = (top w).toNat := by
  simp [top, Word.bits, BitVec.extractLsb'_toNat, Nat.shiftRight_eq_div_pow]

/-- The opcode field of an or. -/
theorem top_or (a b : Word) : top (a ||| b) = top a ||| top b := BitVec.extractLsb'_or

/-- The opcode field of a number below 2 ^ 26. -/
theorem top_small (n : Nat) (h : n < 67108864) : top (BitVec.ofNat 32 n) = 0 := by
  apply BitVec.eq_of_toNat_eq
  simp [top, BitVec.extractLsb'_toNat, Nat.shiftRight_eq_div_pow]
  omega

/-- A field below bit 26 does not reach the opcode. -/
theorem top_field (hi lo v : Nat) (h : hi < 26) (hl : lo ≤ hi) : top (Word.field hi lo v) = 0 := by
  apply top_small
  calc v % 2 ^ (hi + 1 - lo) * 2 ^ lo < 2 ^ (hi + 1 - lo) * 2 ^ lo :=
        Nat.mul_lt_mul_of_pos_right (Nat.mod_lt _ (Nat.two_pow_pos _)) (Nat.two_pow_pos _)
    _ = 2 ^ (hi + 1) := by rw [← Nat.pow_add]; congr 1; omega
    _ ≤ 2 ^ 26 := Nat.pow_le_pow_right (by decide) (by omega)

/-- The opcode field of a v register's field. -/
theorem top_v (lo : Nat) (v : Fin 16) (h : lo + 3 < 26) : top (vField lo v) = 0 := top_field _ _ _ h (by omega)

/-- The opcode field of a one-bit field. -/
theorem top_bit (i : Nat) (b : Bool) (h : i < 26) : top (bitField i b) = 0 := top_field _ _ _ h (by omega)

/-- The opcode of the table of R125; none for a command that no schedule word spells. -/
def opcode? : Instr → Option Nat
  | .halt _ => some 0x00
  | .mov _ _ _ => some 0x01
  | .ldi _ _ _ => some 0x02
  | .alu _ _ _ _ _ => some 0x03
  | .ldu _ _ _ _ => some 0x04
  | .stu _ _ _ _ _ => some 0x05
  | .ldt _ _ _ _ => some 0x06
  | .commit _ _ _ => some 0x07
  | .wtm _ _ => some 0x08
  | .wsm _ _ _ _ => some 0x09
  | .wps _ _ _ _ _ => some 0x0A
  | .wtr _ _ _ _ _ => some 0x0B
  | .wev _ _ _ => some 0x0C
  | .jev _ _ _ _ _ => some 0x10
  | .jmd _ _ _ _ => some 0x11
  | .jmp _ _ => some 0x12
  | .call _ _ => some 0x13
  | .ret _ => some 0x14
  | .loop _ _ => some 0x15
  | .endl _ _ => some 0x16
  | .gate _ _ _ _ _ => some 0x18
  | .send _ _ _ _ _ => some 0x19
  | .sig _ _ => some 0x1A
  | .mreq _ _ => some 0x1B
  | _ => none

/-- The word of a schedule instruction carries its opcode in bits 31:26, and no other command has a word. -/
def Statement (i : Instr) : Prop := (encodeSched i).map (fun p => p.1.bits 31 26) = opcode? i

theorem registerWrite (m : Master) (addr value : Word) : Statement (.registerWrite m addr value) := rfl
theorem resultPortRead (m : Master) (addr : Word) (kind : CoreRead) (ecc : Ecc)
    : Statement (.resultPortRead m addr kind ecc) := rfl
theorem queueFlush (q : QueueId) : Statement (.queueFlush q) := rfl
theorem sampleBoundary (c0 c1 c2 c3 : BitVec 12) : Statement (.sampleBoundary c0 c1 c2 c3) := rfl
theorem sysSmplWrite (m : Master) (value : Word) : Statement (.sysSmplWrite m value) := rfl
theorem controlPhase : Statement (.controlPhase) := rfl
theorem clockFault (k : ClockFaultKind) : Statement (.clockFault k) := rfl
theorem modeRequest (m : Master) (tgt : BitVec 4) : Statement (.modeRequest m tgt) := rfl
theorem lockoutRequest (m : Master) : Statement (.lockoutRequest m) := rfl
theorem transitionTimeout : Statement (.transitionTimeout) := rfl
theorem lockoutSequence : Statement (.lockoutSequence) := rfl
theorem wake (w : WakeSource) (b : BootIn) : Statement (.wake w b) := rfl
theorem powerOn (b : BootIn) : Statement (.powerOn b) := rfl
theorem sleepEntryEnd (b : BootIn) : Statement (.sleepEntryEnd b) := rfl
theorem vinLow : Statement (.vinLow) := rfl
theorem vinHigh : Statement (.vinHigh) := rfl
theorem overVoltage : Statement (.overVoltage) := rfl
theorem brownOut (b : BootIn) : Statement (.brownOut b) := rfl
theorem railFault (rail : BitVec 8) : Statement (.railFault rail) := rfl
theorem nreset (b : BootIn) : Statement (.nreset b) := rfl
theorem engineStart (mask : BitVec 8) : Statement (.engineStart mask) := rfl
theorem engineStop (mask : BitVec 8) : Statement (.engineStop mask) := rfl
theorem swapRequest (e : Fin 8) (atRest : Bool) : Statement (.swapRequest e atRest) := rfl
theorem swapCancel (e : Fin 8) : Statement (.swapCancel e) := rfl
theorem eventLatchClear (e k : Fin 8) (mask : Word) : Statement (.eventLatchClear e k mask) := rfl
theorem debugHalt (c : Fin 2) : Statement (.debugHalt c) := rfl
theorem debugResume (c : Fin 2) (trace : Option (Fin 2)) (dpc : Option Word)
    : Statement (.debugResume c trace dpc) := rfl
theorem halt (e : Fin 8) : Statement (.halt e) := rfl
theorem mov (e : Fin 8) (vd vs : Fin 16) : Statement (.mov e vd vs) := by
  simp [Statement, encodeSched, opcode?, bits_top, top_or, top_field, top_v, top_bit, (by decide : top (opWord 0x01) = 0x01#6)]
theorem ldi (e : Fin 8) (vd : Fin 16) (v : LdiVal) : Statement (.ldi e vd v) := by
  cases v <;> simp [Statement, encodeSched, opcode?, bits_top, top_or, top_field, top_v, top_bit, (by decide : top (opWord 0x02) = 0x02#6)]
theorem alu (e : Fin 8) (vd va : Fin 16) (fn : AluFn) (b : RegExt) : Statement (.alu e vd va fn b) := by
  cases b <;> simp [Statement, encodeSched, opcode?, bits_top, top_or, top_field, top_v, top_bit, (by decide : top (opWord 0x03) = 0x03#6)]
theorem ldu (e : Fin 8) (vd : Fin 16) (blk : BitVec 5) (ofs : BitVec 14) : Statement (.ldu e vd blk ofs) := by
  simp [Statement, encodeSched, opcode?, bits_top, top_or, top_field, top_v, top_bit, (by decide : top (opWord 0x04) = 0x04#6)]
theorem stu (e : Fin 8) (v : RegExt) (g : Bool) (blk : BitVec 5) (ofs : BitVec 14) : Statement (.stu e v g blk ofs) := by
  cases v <;> simp [Statement, encodeSched, opcode?, bits_top, top_or, top_field, top_v, top_bit, (by decide : top (opWord 0x05) = 0x05#6)]
theorem ldt (e : Fin 8) (vd va : Fin 16) (wofs : BitVec 16) : Statement (.ldt e vd va wofs) := by
  simp [Statement, encodeSched, opcode?, bits_top, top_or, top_field, top_v, top_bit, (by decide : top (opWord 0x06) = 0x06#6)]
theorem commit (e : Fin 8) (w : Bool) (tmo : Timeout) : Statement (.commit e w tmo) := by
  simp [Statement, encodeSched, opcode?, bits_top, top_or, top_field, top_v, top_bit, (by decide : top (opWord 0x07) = 0x07#6)]
theorem commitComplete (e : Fin 8) : Statement (.commitComplete e) := rfl
theorem wtm (e : Fin 8) (t : TimeTarget) : Statement (.wtm e t) := by
  cases t <;> simp [Statement, encodeSched, opcode?, bits_top, top_or, top_field, top_v, top_bit, (by decide : top (opWord 0x08) = 0x08#6)]
theorem wsm (e : Fin 8) (cnt : BitVec 16) (ofs : BitVec 8) (tmo : Timeout) : Statement (.wsm e cnt ofs tmo) := by
  simp [Statement, encodeSched, opcode?, bits_top, top_or, top_field, top_v, top_bit, (by decide : top (opWord 0x09) = 0x09#6)]
theorem wps (e : Fin 8) (reverse : Bool) (vs : Fin 16) (axis : BitVec 4) (tmo : Timeout)
    : Statement (.wps e reverse vs axis tmo) := by
  simp [Statement, encodeSched, opcode?, bits_top, top_or, top_field, top_v, top_bit, (by decide : top (opWord 0x0A) = 0x0A#6)]
theorem wtr (e : Fin 8) (reverse : Bool) (vs : Fin 16) (axis : BitVec 4) (tmo : Timeout)
    : Statement (.wtr e reverse vs axis tmo) := by
  simp [Statement, encodeSched, opcode?, bits_top, top_or, top_field, top_v, top_bit, (by decide : top (opWord 0x0B) = 0x0B#6)]
theorem wev (e : Fin 8) (src : BitVec 8) (tmo : Timeout) : Statement (.wev e src tmo) := by
  simp [Statement, encodeSched, opcode?, bits_top, top_or, top_field, top_v, top_bit, (by decide : top (opWord 0x0C) = 0x0C#6)]
theorem waitComplete (e : Fin 8) : Statement (.waitComplete e) := rfl
theorem waitTimeout (e : Fin 8) : Statement (.waitTimeout e) := rfl
theorem jev (e : Fin 8) (clear ifClear : Bool) (src : BitVec 8) (disp : BitVec 16)
    : Statement (.jev e clear ifClear src disp) := by
  simp [Statement, encodeSched, opcode?, bits_top, top_or, top_field, top_v, top_bit, (by decide : top (opWord 0x10) = 0x10#6)]
theorem jmd (e : Fin 8) (ifClear : Bool) (mask : BitVec 12) (disp : BitVec 13) : Statement (.jmd e ifClear mask disp) := by
  simp [Statement, encodeSched, opcode?, bits_top, top_or, top_field, top_v, top_bit, (by decide : top (opWord 0x11) = 0x11#6)]
theorem jmp (e : Fin 8) (addr : BitVec 17) : Statement (.jmp e addr) := by
  simp [Statement, encodeSched, opcode?, bits_top, top_or, top_field, top_v, top_bit, (by decide : top (opWord 0x12) = 0x12#6)]
theorem call (e : Fin 8) (addr : BitVec 17) : Statement (.call e addr) := by
  simp [Statement, encodeSched, opcode?, bits_top, top_or, top_field, top_v, top_bit, (by decide : top (opWord 0x13) = 0x13#6)]
theorem ret (e : Fin 8) : Statement (.ret e) := by
  simp [Statement, encodeSched, opcode?, bits_top, top_or, top_field, top_v, top_bit, (by decide : top (opWord 0x14) = 0x14#6)]
theorem loop (e : Fin 8) (cnt : BitVec 16) : Statement (.loop e cnt) := by
  simp [Statement, encodeSched, opcode?, bits_top, top_or, top_field, top_v, top_bit, (by decide : top (opWord 0x15) = 0x15#6)]
theorem endl (e : Fin 8) (leave : Bool) : Statement (.endl e leave) := by
  simp [Statement, encodeSched, opcode?, bits_top, top_or, top_field, top_v, top_bit, (by decide : top (opWord 0x16) = 0x16#6)]
theorem gate (e : Fin 8) (va vb vc : Fin 16) (rel : Bool) : Statement (.gate e va vb vc rel) := by
  simp [Statement, encodeSched, opcode?, bits_top, top_or, top_field, top_v, top_bit, (by decide : top (opWord 0x18) = 0x18#6)]
theorem send (e : Fin 8) (p : Bool) (va : Fin 16) (widx : BitVec 9) (ses : BitVec 8)
    : Statement (.send e p va widx ses) := by
  simp [Statement, encodeSched, opcode?, bits_top, top_or, top_field, top_v, top_bit, (by decide : top (opWord 0x19) = 0x19#6)]
theorem sig (e : Fin 8) (val : BitVec 16) : Statement (.sig e val) := by
  simp [Statement, encodeSched, opcode?, bits_top, top_or, top_field, top_v, top_bit, (by decide : top (opWord 0x1A) = 0x1A#6)]
theorem mreq (e : Fin 8) (tgt : BitVec 4) : Statement (.mreq e tgt) := by
  simp [Statement, encodeSched, opcode?, bits_top, top_or, top_field, top_v, top_bit, (by decide : top (opWord 0x1B) = 0x1B#6)]
theorem acqSoftwareTrigger (k : Fin 8) : Statement (.acqSoftwareTrigger k) := rfl
theorem conversionComplete (k : Fin 8) (code : BitVec 12) : Statement (.conversionComplete k code) := rfl
theorem channelReturn (n : Fin 48) : Statement (.channelReturn n) := rfl
theorem resolverCheck (r : Fin 2) (amp : BitVec 12) (terr angle : BitVec 16) (speed : Word)
    : Statement (.resolverCheck r amp terr angle speed) := rfl
theorem encoderEdge (k : Fin 4) (a b : Bool) (t : Nat) : Statement (.encoderEdge k a b t) := rfl
theorem encoderIndex (k : Fin 4) (rising : Bool) : Statement (.encoderIndex k rising) := rfl
theorem hallChange (g : Fin 3) (code : BitVec 3) (t : Nat) : Statement (.hallChange g code t) := rfl
theorem ssiFrame (port : Fin 2) (raw : Word) (lineHigh : Bool) (t : Nat) : Statement (.ssiFrame port raw lineHigh t) := rfl
theorem axisReturn (a : Fin 11) : Statement (.axisReturn a) := rfl
theorem axisTimeout (a : Fin 11) : Statement (.axisTimeout a) := rfl
theorem travelUpdate : Statement (.travelUpdate) := rfl
theorem travelAdjust (value : Word) : Statement (.travelAdjust value) := rfl
theorem probeEdge (p : Fin 4) (rising : Bool) (fine : BitVec 8) : Statement (.probeEdge p rising fine) := rfl
theorem emulationEdge (m : Fin 2) : Statement (.emulationEdge m) := rfl
theorem commandPadEdge (p : Fin 4) (period high : Nat) : Statement (.commandPadEdge p period high) := rfl
theorem commandPadTimeout (p : Fin 4) : Statement (.commandPadTimeout p) := rfl
theorem captureStart (m : Master) (value : Word) : Statement (.captureStart m value) := rfl
theorem captureEnd : Statement (.captureEnd) := rfl
theorem slotReset (n : Fin 64) : Statement (.slotReset n) := rfl
theorem slotAltA (n : Fin 64) : Statement (.slotAltA n) := rfl
theorem slotAltB (n : Fin 64) : Statement (.slotAltB n) := rfl
theorem timebaseStart (mask : BitVec 10) : Statement (.timebaseStart mask) := rfl
theorem timebaseStop (mask : BitVec 10) : Statement (.timebaseStop mask) := rfl
theorem timebaseReload (t : Fin 10) : Statement (.timebaseReload t) := rfl
theorem timebasePeak (t : Fin 10) : Statement (.timebasePeak t) := rfl
theorem legCompareEdge (n : Fin 42) (p : LegPoint) : Statement (.legCompareEdge n p) := rfl
theorem deadTimeExpiry (n : Fin 42) : Statement (.deadTimeExpiry n) := rfl
theorem tripInput (k : Fin 4) (level : Bool) : Statement (.tripInput k level) := rfl
theorem tripClear (mask : BitVec 4) : Statement (.tripClear mask) := rfl
theorem tdTick (x : Fin 2) : Statement (.tdTick x) := rfl
theorem tdInput (x : Fin 2) (tint : Nat) (ton toff : Vector Nat 6) : Statement (.tdInput x tint ton toff) := rfl
theorem tdDecisionComplete (x : Fin 2) : Statement (.tdDecisionComplete x) := rfl
theorem desaturationDetection (i : Fin 15) (w : Switch) : Statement (.desaturationDetection i w) := rfl
theorem shuntDetection (c : Fin 9) (above : Bool) : Statement (.shuntDetection c above) := rfl
theorem faultLineDetection (n : Fin 27) (active : Bool) : Statement (.faultLineDetection n active) := rfl
theorem blankingExpiry (i : Fin 15) (w : Switch) : Statement (.blankingExpiry i w) := rfl
theorem softTurnOffEnd (i : Fin 15) : Statement (.softTurnOffEnd i) := rfl
theorem coolOffEnd (n : Fin 42) : Statement (.coolOffEnd n) := rfl
theorem watchEnd (n : Fin 42) : Statement (.watchEnd n) := rfl
theorem legClear (m : Master) (leg : BitVec 6) : Statement (.legClear m leg) := rfl
theorem driverSupplyDip (r : DriverRail) : Statement (.driverSupplyDip r) := rfl
theorem driverSupplyRecovery : Statement (.driverSupplyRecovery) := rfl
theorem driverSupplyDipExpiry : Statement (.driverSupplyDipExpiry) := rfl
theorem enableBlankExpiry (x : Fin 4) : Statement (.enableBlankExpiry x) := rfl
theorem actStop (d : Fin 5) : Statement (.actStop d) := rfl
theorem actMove (d : Fin 5) (tgt : Fin 8) : Statement (.actMove d tgt) := rfl
theorem actSpeed (d : Fin 5) (pad : Option (Fin 4)) : Statement (.actSpeed d pad) := rfl
theorem actProbePulseEnd (d : Fin 5) : Statement (.actProbePulseEnd d) := rfl
theorem actRampEnd (d : Fin 5) (obs : Word) : Statement (.actRampEnd d obs) := rfl
theorem actCommutation (d : Fin 5) (obs : Word) (eang : BitVec 16) : Statement (.actCommutation d obs eang) := rfl
theorem actLockedRotor (d : Fin 5) : Statement (.actLockedRotor d) := rfl
theorem actRetryDelayExpiry (d : Fin 5) : Statement (.actRetryDelayExpiry d) := rfl
theorem actLastingClear (d : Fin 5) : Statement (.actLastingClear d) := rfl
theorem nudgeStart (x : Fin 2) (n : BitVec 16) : Statement (.nudgeStart x n) := rfl
theorem enpStart (m : Master) : Statement (.enpStart m) := rfl
theorem enpStop (m : Master) : Statement (.enpStop m) := rfl
theorem enpRestart (m : Master) : Statement (.enpRestart m) := rfl
theorem enpWatch (half : BitVec 3) (v : Vector (BitVec 16) 3) (vpp : BitVec 16) (freq : BitVec 12)
    : Statement (.enpWatch half v vpp freq) := rfl
theorem pilotStateChange (hz : BitVec 16) (duty : BitVec 10) (upper lower : BitVec 9)
    : Statement (.pilotStateChange hz duty upper lower) := rfl
theorem proximityChange (res : BitVec 16) : Statement (.proximityChange res) := rfl
theorem mainsQualified : Statement .mainsQualified := rfl
theorem qualifyExpiry : Statement (.qualifyExpiry) := rfl
theorem relayConfirmed (level : Bool) : Statement (.relayConfirmed level) := rfl
theorem mainsQualifyTimeout : Statement (.mainsQualifyTimeout) := rfl
theorem prechargeTimeout : Statement (.prechargeTimeout) := rfl
theorem relayConfirmTimeout : Statement (.relayConfirmTimeout) := rfl
theorem enpRetryDelayExpiry : Statement (.enpRetryDelayExpiry) := rfl
theorem bmsMessage (m : Master) (value : BitVec 7) : Statement (.bmsMessage m value) := rfl
theorem bmsFreshnessTimeout : Statement (.bmsFreshnessTimeout) := rfl
theorem busHoldRestart : Statement (.busHoldRestart) := rfl
theorem holdoffEnd : Statement (.holdoffEnd) := rfl
theorem pilotZeroTimeout : Statement (.pilotZeroTimeout) := rfl
theorem inputCurrentCollapse : Statement (.inputCurrentCollapse) := rfl
theorem stopCurrentFall : Statement (.stopCurrentFall) := rfl
theorem exportOvercurrent : Statement (.exportOvercurrent) := rfl
theorem budgetTick : Statement (.budgetTick) := rfl
theorem budgetTimeout (port : Fin 12) : Statement (.budgetTimeout port) := rfl
theorem budgetFirmwareRequest (f : Fin 4) (cls : BitVec 4) : Statement (.budgetFirmwareRequest f cls) := rfl
theorem budgetFirmwareWithdraw (f : Fin 4) : Statement (.budgetFirmwareWithdraw f) := rfl
theorem auxStart (m : Master) : Statement (.auxStart m) := rfl
theorem auxStop (m : Master) : Statement (.auxStop m) := rfl
theorem auxHoldoffExpiry : Statement (.auxHoldoffExpiry) := rfl
theorem thermalUpdate (pmod : BitVec 16) (substrate : BitVec 16) : Statement (.thermalUpdate pmod substrate) := rfl
theorem gateAppend (m : Master) (sec : BitVec 8) (rel : Bool) : Statement (.gateAppend m sec rel) := rfl
theorem courseFlush (sec : BitVec 8) : Statement (.courseFlush sec) := rfl
theorem gateEvaluation : Statement (.gateEvaluation) := rfl
theorem haltRepeat : Statement (.haltRepeat) := rfl
theorem conf (f : NodeMsg) : Statement (.conf f) := rfl
theorem done (f : NodeMsg) : Statement (.done f) := rfl
theorem confTimeout (sec : Fin 256) : Statement (.confTimeout sec) := rfl
theorem doneTimeout (sec : Fin 256) : Statement (.doneTimeout sec) := rfl
theorem canFrameReceived (c : Fin 8) (f : CanFrame) (sof : Word) : Statement (.canFrameReceived c f sof) := rfl
theorem canFrameSent (c : Fin 8) (b : Fin 3) : Statement (.canFrameSent c b) := rfl
theorem canError (c : Fin 8) (step : CanStep) (b : Option (Fin 3)) (pxe : Bool) : Statement (.canError c step b pxe) := rfl
theorem busOffRecoveryEnd (c : Fin 8) : Statement (.busOffRecoveryEnd c) := rfl
theorem recoveryRequest (c : Fin 8) : Statement (.recoveryRequest c) := rfl
theorem txqPush (c : Fin 8) (word : Word) : Statement (.txqPush c word) := rfl
theorem txCancel (c : Fin 8) (mask : BitVec 3) : Statement (.txCancel c mask) := rfl
theorem referenceMessageDue : Statement (.referenceMessageDue) := rfl
theorem referenceSilenceTimeout : Statement (.referenceSilenceTimeout) := rfl
theorem timeMasterWrite (value : Word) : Statement (.timeMasterWrite value) := rfl
theorem ethFrameReceived (p : Fin 2) (f : EthFrame) : Statement (.ethFrameReceived p f) := rfl
theorem ethTxgo (p : Fin 2) : Statement (.ethTxgo p) := rfl
theorem ethFrameSent (p : Fin 2) (ns8 : Fin 125) (sfd : Word) : Statement (.ethFrameSent p ns8 sfd) := rfl
theorem ethLinkChange (p : Fin 2) (up spd100 : Bool) : Statement (.ethLinkChange p up spd100) := rfl
theorem ethSpeedFallback (p : Fin 2) : Statement (.ethSpeedFallback p) := rfl
theorem cnvStart (ses : BitVec 8) : Statement (.cnvStart ses) := rfl
theorem cnvAbort (ses : BitVec 8) : Statement (.cnvAbort ses) := rfl
theorem cnvRelease (ses : BitVec 8) : Statement (.cnvRelease ses) := rfl
theorem rts (c : Fin 8) (peer : BitVec 8) (etp : Bool) (size : Word) (maxPkts : BitVec 8) (pgn : BitVec 18)
    : Statement (.rts c peer etp size maxPkts pgn) := rfl
theorem cts (c : Fin 8) (peer : BitVec 8) (etp : Bool) (count : BitVec 8) (next : BitVec 24) (pgn : BitVec 18)
    : Statement (.cts c peer etp count next pgn) := rfl
theorem eoma (c : Fin 8) (peer : BitVec 8) (etp : Bool) (size : Word) (pkts : BitVec 8) (pgn : BitVec 18)
    : Statement (.eoma c peer etp size pkts pgn) := rfl
theorem bam (c : Fin 8) (peer : BitVec 8) (size : BitVec 16) (pgn : BitVec 18) : Statement (.bam c peer size pgn) := rfl
theorem tpAbort (c : Fin 8) (peer : BitVec 8) (etp : Bool) (reason : BitVec 8) (pgn : BitVec 18)
    : Statement (.tpAbort c peer etp reason pgn) := rfl
theorem dataFrame (c : Fin 8) (peer : BitVec 8) (global etp : Bool) (seq : BitVec 8) (data : Vector Byte 7)
    : Statement (.dataFrame c peer global etp seq data) := rfl
theorem dpo (c : Fin 8) (peer : BitVec 8) (count : BitVec 8) (offset : BitVec 24) (pgn : BitVec 18)
    : Statement (.dpo c peer count offset pgn) := rfl
theorem transportTimerExpiry (ses : Fin 256) : Statement (.transportTimerExpiry ses) := rfl
theorem cts0Repeat (ses : Fin 256) : Statement (.cts0Repeat ses) := rfl
theorem bamGapExpiry (ses : Fin 256) : Statement (.bamGapExpiry ses) := rfl
theorem addressChange (c : Fin 8) (addr : BitVec 8) : Statement (.addressChange c addr) := rfl
theorem cnvEnable : Statement (.cnvEnable) := rfl
theorem cnvDisable : Statement (.cnvDisable) := rfl
theorem laneTrained (k : Fin 4) : Statement (.laneTrained k) := rfl
theorem ident (uid0 uid1 : Word) (role : BitVec 2) (accepts : Bool) : Statement (.ident uid0 uid1 role accepts) := rfl
theorem timingSymbol (err : BitVec 16) (leadTime : Word) (leadSub : Fin 250) : Statement (.timingSymbol err leadTime leadSub) := rfl
theorem heartbeat (h : HeartbeatIn) : Statement (.heartbeat h) := rfl
theorem agree (items : List AgreeItem) : Statement (.agree items) := rfl
theorem agreeMiss : Statement (.agreeMiss) := rfl
theorem dec (x : Fin 2) (d : DecIn) : Statement (.dec x d) := rfl
theorem snap (segment : BitVec 6) (data : List Byte) (ok : Bool) : Statement (.snap segment data ok) := rfl
theorem sigFrame (win : BitVec 16) (sig : Word) : Statement (.sigFrame win sig) := rfl
theorem budgetFrame (port : Fin 12) (cls : BitVec 4) (outcome : Option (BitVec 8))
    : Statement (.budgetFrame port cls outcome) := rfl
theorem laneFailure (k : Fin 4) : Statement (.laneFailure k) := rfl
theorem laneClear (m : Master) (mask : BitVec 4) : Statement (.laneClear m mask) := rfl
theorem heartbeatMiss (aliveHigh : Bool) : Statement (.heartbeatMiss aliveHigh) := rfl
theorem snapshotCapture : Statement (.snapshotCapture) := rfl
theorem snapshotClose : Statement (.snapshotClose) := rfl
theorem safetyScan (i : ScanIn) : Statement (.safetyScan i) := rfl
theorem controlledStopDeadline : Statement (.controlledStopDeadline) := rfl
theorem safetySignatureWindow (sig0 sig1 rep0 rep1 : Word) : Statement (.safetySignatureWindow sig0 sig1 rep0 rep1) := rfl
theorem safetyInputChange (k : Fin 16) (a b : Bool) : Statement (.safetyInputChange k a b) := rfl
theorem tumblerTimeout (k : Fin 16) : Statement (.tumblerTimeout k) := rfl
theorem outputOnStep (j : Fin 8) : Statement (.outputOnStep j) := rfl
theorem outputReadbackTimeout (j : Fin 8) : Statement (.outputReadbackTimeout j) := rfl
theorem offPulse (j : Fin 2) (fell : Bool) : Statement (.offPulse j fell) := rfl
theorem resetRelease (hold : Nat) (clkNow : BitVec 2) (railsOk vinOk : Bool) (b : BootIn)
    : Statement (.resetRelease hold clkNow railsOk vinOk b) := rfl
theorem presenceWindowExpiry : Statement (.presenceWindowExpiry) := rfl
theorem safetyLoad (m : Master) : Statement (.safetyLoad m) := rfl
theorem safetyLoadComplete : Statement (.safetyLoadComplete) := rfl
theorem safetyConfirm (m : Master) : Statement (.safetyConfirm m) := rfl
theorem safetyDiscard (m : Master) : Statement (.safetyDiscard m) := rfl
theorem eventDelivery (c : Fin 2) : Statement (.eventDelivery c) := rfl
theorem mret (c : Fin 2) : Statement (.mret c) := rfl
theorem eventPendingClear (k : Fin 8) (mask : Word) : Statement (.eventPendingClear k mask) := rfl
theorem groupHoldoffExpiry (g : Fin 16) : Statement (.groupHoldoffExpiry g) := rfl
theorem coreRelease (mask : BitVec 2) : Statement (.coreRelease mask) := rfl
theorem flashProgram (m : Master) (key : Byte) : Statement (.flashProgram m key) := rfl
theorem flashErase (m : Master) (key : Byte) : Statement (.flashErase m key) := rfl
theorem flashOperationComplete (verified : Bool) : Statement (.flashOperationComplete verified) := rfl
theorem hostPortRead (size : BitVec 2) (inc : Bool) (addr : Word) (n : Nat) (ecc : List Ecc)
    : Statement (.hostPortRead size inc addr n ecc) := rfl
theorem hostPortWrite (size : BitVec 2) (inc : Bool) (addr : Word) (items : List Word)
    : Statement (.hostPortWrite size inc addr items) := rfl
theorem hostPortBadCommand : Statement (.hostPortBadCommand) := rfl
theorem doorbell (mask : BitVec 2) : Statement (.doorbell mask) := rfl
theorem irqSet (mask : BitVec 16) : Statement (.irqSet mask) := rfl
theorem canStartOfFrame (c : Fin 8) (b : Fin 3) : Statement (.canStartOfFrame c b) := rfl
theorem arbitrationLoss (c : Fin 8) (b : Fin 3) : Statement (.arbitrationLoss c b) := rfl
theorem singleShuntSamplingPoint (d : Fin 3) : Statement (.singleShuntSamplingPoint d) := rfl
theorem probeDecayEnd (d : Fin 5) : Statement (.probeDecayEnd d) := rfl
theorem synchronousException (c : Fin 2) : Statement (.synchronousException c) := rfl

end Sys2Proof.Laws.OpcodeField
end

