-- ==== Sys2Proof/WellFormed.lean ====
section
/-!
DEFINITION. The commands whose operands the manual admits. Machine/Dispatch.lean gives a meaning to every command, well-formed or
not; what a meaning does with operands outside these bounds stands there.
-/

namespace Sys2Proof

/-- The data bytes a CAN frame of data length code `dlc` carries (R423, R446). -/
def dlcBytes (fdf : Bool) (dlc : Nat) : Nat :=
  if fdf then
    match dlc with
    | 9 => 12 | 10 => 16 | 11 => 20 | 12 => 24 | 13 => 32 | 14 => 48 | 15 => 64 | n => n
  else min dlc 8

/-- A CAN frame of ISO 11898-1 (R423, R428): as many bytes as its length code says, none in a remote frame, no remote
frame in CAN FD format, and a base identifier in bits 28:18 alone (R427). -/
def CanFrame.wellFormed (f : CanFrame) : Bool :=
  f.data.length == (if f.rtr then 0 else dlcBytes f.fdf f.dlc.toNat) && !(f.rtr && f.fdf) && (f.fdf || !(f.brs || f.esi))
    && (f.ext || f.id.toNat % 0x40000 == 0)

/-- An Ethernet frame between its addresses and its type at least, and within the length a descriptor holds (R441). -/
def EthFrame.wellFormed (f : EthFrame) : Bool := decide (14 ≤ f.bytes.length) && decide (f.bytes.length ≤ 2000)

/-- The operands of a command lie where the manual admits them: addresses of words are aligned (R36), axis codes are not
reserved (R128, R129), frames have their form, and a level lasts no longer than its period (R326). -/
def Instr.wellFormed : Instr → Bool
  | .registerWrite _ addr _ => addr.toNat % 4 == 0
  | .resultPortRead m addr kind _ =>
    addr.toNat % 4 == 0 && (m != .host || (match kind with | .load _ => true | _ => false))
  | .wps _ _ _ axis _ => decide (axis.toNat ≤ 10)
  | .wtr _ _ _ axis _ => decide (axis.toNat ≤ 2)
  | .commandPadEdge _ period high => decide (0 < period) && decide (high ≤ period)
  | .tdInput _ tint ton toff => decide (0 < tint) && (List.finRange 6).all fun k => decide (ton[k] + toff[k] ≤ tint)
  | .heartbeat h => decide (h.mode.toNat ≤ 11)
  | .canFrameReceived _ f _ => f.wellFormed
  | .ethFrameReceived _ f => f.wellFormed
  | .snap _ data ok => !ok || decide (0 < data.length)
  | .hostPortRead size _ addr n _ => size != 3 && addr.toNat % 2 ^ size.toNat == 0 && decide (0 < n)
  | .hostPortWrite size _ addr items => size != 3 && addr.toNat % 2 ^ size.toNat == 0 && !items.isEmpty
  | _ => true

end Sys2Proof
end

