-- ==== Sys2Proof/Tests/Slice0.lean ====
section
/-!
SUPPORT. Tests: ill-formed commands, schedule words written out from their encodings, steps whose results the manual's tables and
examples give, and a witness for the hypotheses of each statement.
-/

namespace Sys2Proof.Tests
open Sys2Proof Sys2Proof.Machine

set_option Elab.async false

/-! ### Small states -/

/-- The state after an outcome; the state after reset where it gives none. -/
def after : Host.Outcome State Fault Refusal → State
  | .next t => t
  | _ => State.reset

/-- The outcome is a fault. -/
def faults : Host.Outcome State Fault Refusal → Bool
  | .fault _ => true
  | _ => false

/-- The module in mode `m`, BOOT behind it. -/
def inMode (m : Mode) : State :=
  { State.reset with
    mod := ⟨m, .boot, none, .none, false, .done, false, 0, none, false, false⟩
    clk := { State.reset.clk with smplEff := 0x132, started := true, clocked := true } }

/-- The module in IDLE. -/
def idle : State := inMode .idle

/-- The module in IDLE as another part. -/
def part (p : Part) : State := { idle with variant := { idle.variant with part := p } }

/-- The module in IDLE with engine 0 as given. -/
def eng (x : Engine) : State := { idle with seq := idle.seq.set 0 x }

/-- Engine 0 running at `pc`. -/
def run (pc : Nat) : Engine := { Engine.reset with state := .running, pc := pc }

/-- Engine 0 waiting for `w`, at an instruction of opcode `op` and one word. -/
def waits (op : Nat) (w : Wait) : Engine := { Engine.reset with state := .waiting, pc := 16, waitOp := op, waitLen := 1, wait := w }

/-- `s` under a lock-out in force. -/
def locked (s : State) : State := { s with mod := { s.mod with lock := .inForce } }

/-! ### Ill-formed commands -/

theorem test_write_of_a_misaligned_word_is_ill_formed :
    (Instr.registerWrite .host 0x20000002 0).wellFormed = false ∧ (Instr.registerWrite .host 0x20000004 0).wellFormed = true := by
  decide

theorem test_read_of_a_misaligned_word_is_ill_formed : (Instr.resultPortRead .core1 0x20000001 (.load 0) .good).wellFormed = false := by decide

theorem test_wait_on_a_reserved_axis_is_ill_formed :
    (Instr.wps 0 false 0 11 none).wellFormed = false ∧ (Instr.wps 0 false 0 10 none).wellFormed = true := by decide

theorem test_wait_on_a_reserved_travel_is_ill_formed :
    (Instr.wtr 0 false 0 3 none).wellFormed = false ∧ (Instr.wtr 0 false 0 2 none).wellFormed = true := by decide

theorem test_level_longer_than_its_period_is_ill_formed :
    (Instr.commandPadEdge 0 100 101).wellFormed = false ∧ (Instr.commandPadEdge 0 0 0).wellFormed = false := by decide

theorem test_switch_times_beyond_the_interval_are_ill_formed :
    (Instr.tdInput 0 10 (Vector.replicate 6 6) (Vector.replicate 6 5)).wellFormed = false
      ∧ (Instr.tdInput 0 0 (Vector.replicate 6 0) (Vector.replicate 6 0)).wellFormed = false := by decide

theorem test_heartbeat_of_no_mode_is_ill_formed :
    (Instr.heartbeat ⟨12, none, none, none, 0, 0, 0, false, true, false, 0⟩).wellFormed = false := by decide

theorem test_frame_longer_than_its_code_is_ill_formed :
    (Instr.canFrameReceived 0 ⟨true, 0, false, false, false, false, 1, [0, 0]⟩ 0).wellFormed = false := by decide

theorem test_remote_frame_in_fd_format_is_ill_formed :
    (Instr.canFrameReceived 0 ⟨true, 0, true, false, true, false, 0, []⟩ 0).wellFormed = false := by decide

theorem test_fast_bits_in_a_classical_frame_are_ill_formed :
    (Instr.canFrameReceived 0 ⟨true, 0, false, true, false, false, 0, []⟩ 0).wellFormed = false := by decide

theorem test_base_frame_with_extended_bits_is_ill_formed :
    (Instr.canFrameReceived 0 ⟨false, 1, false, false, false, false, 0, []⟩ 0).wellFormed = false
      ∧ (Instr.canFrameReceived 0 ⟨false, 0x40000, false, false, false, false, 0, []⟩ 0).wellFormed = true := by decide

theorem test_ethernet_frame_without_a_header_is_ill_formed :
    (Instr.ethFrameReceived 0 ⟨List.replicate 13 0, false, 0, 0⟩).wellFormed = false := by decide

theorem test_good_segment_without_bytes_is_ill_formed : (Instr.snap 0 [] true).wellFormed = false := by decide

theorem test_host_read_forms :
    (Instr.hostPortRead 3 true 0 1 []).wellFormed = false ∧ (Instr.hostPortRead 2 true 2 1 []).wellFormed = false
      ∧ (Instr.hostPortRead 0 true 0 0 []).wellFormed = false := by decide

theorem test_host_write_forms :
    (Instr.hostPortWrite 3 true 0 [0]).wellFormed = false ∧ (Instr.hostPortWrite 1 true 1 [0]).wellFormed = false
      ∧ (Instr.hostPortWrite 2 true 0 []).wellFormed = false := by decide

/-! ### Schedule words, written out bit by bit from R122 to R148 -/

/-- OP 0x09, X = 0, OFS 0, CNT 1 (R138). -/
theorem test_word_wsm : decodeSched 0 0x24000001 0 = some (.wsm 0 1 0 none) := by decide

/-- OP 0x10, C = 1, N = 0, SRC 0x10, DISP −2 (R141): 010000 10 00010000 1111111111111110. -/
theorem test_word_jev : decodeSched 0 0x4210FFFE 0 = some (.jev 0 true false 0x10 0xFFFE) := by decide

/-- OP 0x05, extension word, G = 0, BLK 0, word offset 7 (R134): 000101 0000 0 00000 00000000000111 1 0, then 2. -/
theorem test_word_stu : decodeSched 0 0x1400001E 2 = some (.stu 0 (.ext 2) false 0 7) := by decide

/-- OP 0x05, VS v3, G = 1, BLK 5, word offset 0x51 (R134): 000101 0011 1 00101 00000001010001 0 0. -/
theorem test_word_stu_grouped : decodeSched 2 0x14E50144 0 = some (.stu 2 (.reg 3) true 5 0x51) := by decide

/-- OP 0x03, VD v15, VA v1, FN 0x8, VB v2 (R132): 000011 1111 0001 1000 0 000000000 0010. -/
theorem test_word_alu : decodeSched 0 0x0FC60002 0 = some (.alu 0 15 1 .mul (.reg 2)) := by decide

/-- OP 0x02, VD v1, IMM 0x8000 (R131): 000010 0001 0 00000 1000000000000000. -/
theorem test_word_ldi : decodeSched 0 0x08408000 0 = some (.ldi 0 1 (.imm 0x8000)) := by decide

/-- OP 0x04, VD v2, BLK 18, word offset 1 (R133): 000100 0010 0 10010 00000000000001 00. -/
theorem test_word_ldu : decodeSched 0 0x10920004 0 = some (.ldu 0 2 18 1) := by decide

/-- OP 0x07, W = 1, X = 1 (R136), with the timeout 100. -/
theorem test_word_commit : decodeSched 0 0x1F000000 100 = some (.commit 0 true (some 100)) := by decide

/-- OP 0x18, VA v1, VB v2, VC v3, R = 1 (R145): 011000 0001 0010 0011 1 0000000000000. -/
theorem test_word_gate : decodeSched 0 0x6048E000 0 = some (.gate 0 1 2 3 true) := by decide

/-- OP 0x19, P = 1, VA v4, WIDX 0x1FF, SES 0xAB (R146): 011001 1 0100 111111111 0000 10101011. -/
theorem test_word_send : decodeSched 0 0x669FF0AB 0 = some (.send 0 true 4 0x1FF 0xAB) := by decide

/-- OP 0x1B, TGT 6 (R148). -/
theorem test_word_mreq : decodeSched 7 0x6C000006 0 = some (.mreq 7 6) := by decide

/-- OP 0x11, N = 0, MASK 0x060, DISP −1 (R142): 010001 0 000001100000 1111111111111. -/
theorem test_word_jmd : decodeSched 0 0x440C1FFF 0 = some (.jmd 0 false 0x060 0x1FFF) := by decide

/-- R123: an opcode that is not listed, and a reserved bit of `ret`. -/
theorem test_malformed_words : decodeSched 0 0x34000000 0 = none ∧ decodeSched 0 0x50000001 0 = none := by decide

/-! ### Schedule engines -/

theorem test_ldi_extends_its_sign : (after (exec (.ldi 0 1 (.imm 0xFFFE)) (eng (run 0)))).v 0 1 = 0xFFFFFFFE := by decide +kernel

theorem test_mul_wraps :
    (after (exec (.alu 0 2 1 .mul (.ext 0x10001)) ((eng (run 0)).setReg (R.SEQ_V 0 1) 0x10000))).v 0 2 = 0x10000 := by decide +kernel

theorem test_shift_is_modulo_32 :
    (after (exec (.alu 0 1 1 .sar (.ext 36)) ((eng (run 0)).setReg (R.SEQ_V 0 1) 0x80000000))).v 0 1 = 0xF8000000 := by decide +kernel

theorem test_loop_of_zero_counts_65536 :
    ((after (exec (.loop 0 0) (eng (run 5)))).engine 0).loops = [(65536, 6)] := by decide +kernel

theorem test_fifth_call_faults :
    let t := after (exec (.call 0 0) (eng { run 0 with calls := [1, 2, 3, 4] }))
    (t.engine 0).state = .faulted ∧ (t.engine 0).fault = 1 := by decide +kernel

theorem test_wait_for_time_now_goes_on :
    ((after (exec (.wtm 0 (.rel 0)) (eng (run 0)))).engine 0).pc = 2
      ∧ ((after (exec (.wtm 0 (.rel 5)) (eng (run 0)))).engine 0).wait = .time 5 := by decide +kernel

/-! ### Registers, queues and memory -/

/-- R40: an IXL-4810-K at step 2 reads 0x1C0A_1012; an IXL-4800-E of step 1, by the table of R40, 0x1C0A_0001. -/
theorem test_sys_id : State.reset.reg R.SYS_ID = 0x1C0A0001 := by decide +kernel

theorem test_words_are_little_endian : (idle.setWord 0x20000000 0x11223344).byte 0x20000000 = 0x44 := by decide +kernel

theorem test_flash_is_not_written :
    (after (exec (.registerWrite .host 0x00000000 0) idle)).bit R.HPT_STAT F.HPT_STAT_ACCERR = true := by decide +kernel

theorem test_misaligned_read_is_a_host_mistake :
    faults (exec (.resultPortRead .host 0x20000002 (.load 0) .good) idle) = true := by decide +kernel

theorem test_boundary_counts : (after (exec (.sampleBoundary 0 0 0 0) idle)).reg R.SYS_SMPLCNT = 1 := by decide +kernel

theorem test_sample_register_outside_idle_is_ignored :
    let t := after (exec (.sysSmplWrite .host 0x164) (inMode .drive))
    t.reg R.SYS_SMPL = 0x132 ∧ t.bit R.SYS_STAT F.SYS_STAT_SMPL_IGN = true := by decide +kernel

/-! ### Acquisition, position and control -/

/-- The example of the 12 V network sense: code 62 outside 1,489 to 3,847 is rejected with event 145. -/
theorem test_first_code_outside_the_window :
    let s := { idle with acq := { idle.acq with conv := idle.acq.conv.set 6 { idle.acq.conv[6] with scan := [40, 41] } } }
    let t := after (exec (.conversionComplete 6 62) (s.setReg (R.ACQ_CH_WIN 40) 0x0F0705D1))
    t.evt.pend.getLsbD 145 = true ∧ (t.acq.chan[40]).rejected = true := by decide +kernel

theorem test_encoder_skip_is_a_failure :
    let t := after (exec (.encoderEdge 0 true true 0) idle)
    t.evt.pend.getLsbD 161 = true ∧ t.reg (R.POS_AX_POS 2) = 0 := by decide +kernel

/-- The phase-current loop of the example at a low speed, sample k: v 31,468, y 28,000 at its limit, I stands at 20,000. -/
def loopK : SlotIn :=
  { law := 1, spk := 0x100, spofs := 0, slew := 0, c0 := 0x0088890A, c1 := 0x0006D40A, c2 := 0, c3 := 0, imax := 28000, imin := -28000
    omax := 0x6D60, omin := -28000, x := 6400, m := 6080, tff := none, vff := some 61451, i := 20000, d := 0, e1 := 0, v1 := 0
    r1 := none }

theorem test_slot_at_its_limit :
    (slotEval loopK).e = 320 ∧ (slotEval loopK).v = 31468 ∧ (slotEval loopK).y = 28000 ∧ (slotEval loopK).lim = true
      ∧ (slotEval loopK).i = 20000 := by decide +kernel

/-- Sample k + 1 of the same example: v 24,587, y 25,659, I 20,218. -/
theorem test_slot_inside_its_limit :
    let o := slotEval { loopK with m := 6272, vff := some 68394 }
    o.v = 24587 ∧ o.y = 25659 ∧ o.i = 20218 := by decide +kernel

theorem test_capture_outside_service_is_refused :
    (after (exec (.captureStart .host 0) idle)).lastStatus .host = .wrongMode := by decide +kernel

/-! ### Modes and resets -/

theorem test_commission_is_reached_from_idle :
    (after (exec (.modeRequest .host 3) idle)).mod.trans = some ⟨masterSource .host, .commission, false, false, 0⟩ := by decide +kernel

theorem test_drive_is_not_reached_from_idle :
    (after (exec (.modeRequest .host 5) (idle.setFld R.SAF_STATE F.SAF_STATE_BLOCK 1))).lastStatus .host = .wrongMode := by
  decide +kernel

theorem test_over_voltage_locks_out :
    let t := after (exec .overVoltage idle)
    t.mod.lock = .inForce ∧ t.fld R.MOD_LOCKCAUSE F.MOD_LOCKCAUSE_CAUSE = 3 := by decide +kernel

theorem test_power_on_boots :
    let t := after (exec (.powerOn ⟨0, false, true, true, none⟩) idle)
    t.mode = .boot ∧ t.reg R.MOD_RSTCAUSE = 1 := by decide +kernel

/-! ### Waveforms and legs -/

/-- The example of a converter leg at 13.8 V: 0x7183 is raised to 1,817 at dither positions 5, 10 and 15 alone. -/
theorem test_dither_positions :
    (List.range 16).map (fun k => State.dithered 0x7183 k false) =
      [1816, 1816, 1816, 1816, 1816, 1817, 1816, 1816, 1816, 1816, 1817, 1816, 1816, 1816, 1816, 1817] := by decide +kernel

theorem test_timebase_starts_with_a_reload :
    let t := after (exec (.timebaseStart 2) idle)
    t.tbRunning 1 = true ∧ t.evt.pend.getLsbD 97 = true := by decide +kernel

theorem test_trip_clear_of_an_active_input_is_refused :
    let s := { idle with wfu := { idle.wfu with trip := 3, tripPad := 1 } }
    let t := after (exec (.tripClear 3) s)
    t.wfu.trip = 1 ∧ t.evt.pend.getLsbD 107 = true := by decide +kernel

/-! ### Actuators, energy path, converter -/

theorem test_act_move_outside_its_modes :
    (after (exec (.actMove 0 0) idle)).fld (R.ACT_D_ST 0) F.ACT_D_ST_STATUS = Status.wrongMode.code := by decide +kernel

/-- R339: a duty of 26.6 % allows 16 A, 256 in sixteenths; 90 % allows (900 − 640) × 4 sixteenths, 65 A. -/
theorem test_pilot_limits :
    (after (exec (.pilotStateChange 1000 267 60 (-120)) idle)).fld R.ENP_LIM0 F.ENP_LIM0_PILOT = 256
      ∧ (after (exec (.pilotStateChange 1000 900 60 (-120)) idle)).fld R.ENP_LIM0 F.ENP_LIM0_PILOT = 1040 := by decide +kernel

/-- R340: 220 Ω is a 32 A cable, and 680 Ω one of 20 A. -/
theorem test_cable_ratings :
    (after (exec (.proximityChange 220) idle)).fld R.ENP_LIM0 F.ENP_LIM0_CABLE = 512
      ∧ (after (exec (.proximityChange 680) idle)).fld R.ENP_LIM0 F.ENP_LIM0_CABLE = 320 := by decide +kernel

theorem test_aux_start_outside_its_modes :
    (after (exec (.auxStart .host) idle)).lastStatus .host = .wrongMode := by decide +kernel

/-! ### Gates, network, conversations, pairs -/

theorem test_gate_outside_field_is_refused :
    (after (exec (.gateAppend .host 0 false) idle)).fld R.GTE_ASTAT F.GTE_ASTAT_STATUS = 3 := by decide +kernel

theorem test_recovery_ends_bus_off :
    let s := (idle.setFld (R.NET_CH_CFG 0) F.NET_CH_CFG_EN 1).setFld (R.NET_CH_ST 0) F.NET_CH_ST_BUSOFF 1
    let s := after (exec (.recoveryRequest 0) s)
    let t := after (exec (.busOffRecoveryEnd 0) s)
    t.busOff 0 = false ∧ t.evt.pend.getLsbD 216 = true := by decide +kernel

/-- The record of the example of a gap in a tractor's message: WIN 16, PRI 7, KEEP, TP, channel 2, receive. -/
theorem test_rts_opens_the_receiver :
    let a := 0x23080300
    let s := (((idle.setWord a 0x10072422).setWord (a + 4) 0x0080EF00).setWord (a + 8) 0x0003FFFF).setWord (a + 16) 0x0000010C
    let s := ((s.setFld R.CNV_CFG F.CNV_CFG_EN 1).setFld (R.NET_CH_CFG 2) F.NET_CH_CFG_EN 1).setReg R.CNV_SA0 0x00860000
    let t := after (exec (.rts 2 0x90 false 300 0xFF 0x0EF00) s)
    t.recState 12 = 5 ∧ t.recTotal 12 = 43 ∧ t.recEnd 12 = 16 := by decide +kernel

theorem test_session_of_no_size_is_out_of_range :
    (after (exec (.cnvStart 0) idle)).fld R.CNV_CMDST F.CNV_CMDST_STATUS = 4 := by decide +kernel

theorem test_lane_without_link_is_ignored : (after (exec (.laneTrained 0) idle)).reg R.TWN_LANE = idle.reg R.TWN_LANE := by decide +kernel

/-! ### Safety, events, host port -/

theorem test_safety_load_outside_commission :
    let t := after (exec (.safetyLoad .host) idle)
    t.fld R.SAF_CMDST F.SAF_CMDST_STATUS = 3 ∧ t.evt.pend.getLsbD 30 = true := by decide +kernel

theorem test_delivery_takes_the_least_priority :
    let s := (idle.setReg (R.EVT_SRC_CFG 5) 0x80000002).setReg (R.EVT_SRC_CFG 9) 0x80000001
    let s := { s with evt := { s.evt with pend := 0x220, core0 := { Core.reset with released := true } } }
    let t := after (exec (.eventDelivery 0) s)
    t.evt.core0.active = some 9 ∧ t.evt.core0.mcause = 0x80000019 ∧ t.evt.pend = 0x20 := by decide +kernel

theorem test_doorbell_raises_its_event : (after (exec (.doorbell 2) idle)).evt.pend.getLsbD 253 = true := by decide +kernel

theorem test_flash_key : (after (exec (.flashErase .host 0x5B) idle)).lastStatus .host = .outOfRange := by decide +kernel

theorem test_queue_is_first_in_first_out :
    (after (step { idle with pending := [.doorbell 1, .doorbell 2] })).pending = [.doorbell 2] := by decide +kernel

/-! ### Witnesses

For each statement that has hypotheses, states and operands that meet them, at the boundaries of their ranges where they have some.
-/

theorem witness_EngineDataInstructionsCompute :
    (eng (run 131071)).mayIssue 0 1 ∧ (eng (run 131070)).mayIssue 0 2
      ∧ ((0x0C024000 : Word).bits 31 26 = 0x03 ∧ 8 < (0x0C024000 : Word).bits 17 14) := by
  refine ⟨⟨?_, ?_⟩, ⟨?_, ?_⟩, ?_⟩ <;> decide +kernel

theorem witness_EngineControlFlow :
    let s := eng { run 0 with calls := [7, 8, 9], loops := [(1, 3), (65536, 2), (2, 1)], evl := 1 }
    let full := eng { run 131071 with calls := [1, 2, 3, 4], loops := [(1, 1), (1, 2), (1, 3), (1, 4)], evl := 1 }
    let empty := eng (run 0)
    s.mayIssue 0 1 ∧ full.mayIssue 0 1 ∧ empty.mayIssue 0 1
      ∧ (s.engine 0).calls.length < 4 ∧ (s.engine 0).calls = 7 :: [8, 9]
      ∧ (s.engine 0).loops.length < 4 ∧ (s.engine 0).loops = (1, 3) :: [(65536, 2), (2, 1)]
      ∧ (s.engine 0).evl.getLsbD 0 = true ∧ (s.engine 0).evl.getLsbD 255 = false
      ∧ (0 ≤ ((s.engine 0).pc : Int) + (0 : BitVec 16).toInt ∧ ((s.engine 0).pc : Int) + (0 : BitVec 16).toInt < 131072)
      ∧ (0x004 : BitVec 12).getLsbD s.mode.code = true
      ∧ 4 ≤ (full.engine 0).calls.length ∧ (empty.engine 0).calls = [] ∧ 4 ≤ (full.engine 0).loops.length
      ∧ 131072 ≤ ((full.engine 0).pc : Int) + (1 : BitVec 16).toInt
      ∧ ((empty.engine 0).pc : Int) + (0xFFFF : BitVec 16).toInt < 0 ∧ ((empty.engine 0).pc : Int) + (0x1FFF : BitVec 13).toInt < 0
      ∧ (eng (run 131072)).issuing 0 = true ∧ 131072 ≤ ((eng (run 131072)).engine 0).pc := by
  refine ⟨⟨?_, ?_⟩, ⟨?_, ?_⟩, ⟨?_, ?_⟩, ?_⟩ <;> decide +kernel

theorem witness_EngineHaltsSignalsAndWaits :
    (eng (run 131071)).mayIssue 0 1 ∧ (eng (run 131070)).mayIssue 0 2
      ∧ (10#4).toNat ≤ 10 ∧ (1#4).toNat = 1 ∧ idle.hasB = true ∧ (2#4).toNat ≤ 2 := by
  refine ⟨⟨?_, ?_⟩, ⟨?_, ?_⟩, ?_⟩ <;> decide +kernel

/-- Register 0x00180 is node 16's; an IXL-4830 has no legs of motor B. -/
theorem witness_EngineLoadsFromUnits :
    (eng (run 0)).mayIssue 0 1 ∧ 18 < (19#5).toNat ∧ (18#5).toNat ≤ 18
      ∧ (part .ixl4830).regAbsent (R.TDU_TREF 1) = true ∧ idle.regAbsent (R.TDU_TREF 1) = false
      ∧ regRow? 0x0FFFC = none ∧ idle.regAbsent 0x0FFFC = false
      ∧ (regRow? R.SYS_ID).isSome = true ∧ (idle.portRead R.SYS_ID).isNone = true ∧ idle.regView R.SYS_ID = none
      ∧ State.seqForeign 0 (R.SEQ_V 1 0) = true ∧ State.seqForeign 0 (R.SEQ_V 0 0) = false
      ∧ R.ACQ_QPOP / 0x10000 = 7 ∧ (⟨[], [⟨0, [5]⟩]⟩ : PktQueue).pop.isSome = true := by
  refine ⟨⟨?_, ?_⟩, ?_⟩ <;> decide +kernel

theorem witness_EngineStoresToUnits :
    (eng (run 131071)).mayIssue 0 1 ∧ (eng (run 131070)).mayIssue 0 2 ∧ (part .ixl4830).regAbsent (R.TDU_TREF 1) = true
      ∧ (locked idle).gateStatus (R.TDU_TREF 0) = .locked ∧ idle.gateStatus (R.TDU_TREF 0) = .wrongMode
      ∧ (inMode .drive).gateStatus (R.TDU_TREF 0) = .ok ∧ shadowed (R.TDU_TREF 0) = true ∧ R.TDU_TREF 0 / 0x10000 = 5
      ∧ (inMode .drive).writeBad (R.TDU_TREF 0) 5 = false
      ∧ idle.gateStatus R.SYS_THHYS = .ok ∧ (regRow? R.SYS_THHYS).isSome = true ∧ idle.writeBad R.SYS_THHYS 5 = false
      ∧ idle.storeBad R.SYS_THHYS 5 = false ∧ idle.gateStatus (R.CLE_CMD_CFG 0) = .ok
      ∧ idle.storeBad (R.CLE_CMD_CFG 0) 0xFFFFFFFF = true ∧ State.seqForeign 0 (R.CLE_CMD_CFG 0) = false
      ∧ State.seqForeign 0 (R.SEQ_V 1 0) = true ∧ idle.gateStatus (R.SEQ_V 1 0) = .ok
      ∧ 32 ≤ (List.replicate 32 ((0 : Nat), (0 : Word))).length ∧ (List.replicate 31 ((0 : Nat), (0 : Word))).length < 32 := by
  refine ⟨⟨?_, ?_⟩, ⟨?_, ?_⟩, ?_⟩ <;> decide +kernel

theorem witness_EngineCommitTransfersStaged :
    let s := { inMode .drive with seq := idle.seq.set 0 { run 0 with staging := [(R.TDU_TREF 0, 5)] } }
    (eng (run 0)).mayIssue 0 2 ∧ ((eng (run 0)).engine 0).staging = [] ∧ s.mayIssue 0 1
      ∧ (s.engine 0).staging = [(R.TDU_TREF 0, 5)] ∧ R.TDU_TREF 0 / 0x10000 = 5 ∧ shadowed (R.TDU_TREF 0) = true
      ∧ s.gateStatus (R.TDU_TREF 0) = .ok ∧ (locked s).gateStatus (R.TDU_TREF 0) = .locked
      ∧ s.writeBad (R.TDU_TREF 0) 5 = false ∧ s.writeBad (R.TDU_CFG 0) 0xFFFFFFFF = true ∧ s.gateStatus (R.TDU_CFG 0) = .ok
      ∧ shadowed (R.TDU_CFG 0) = true ∧ R.TDU_CFG 0 / 0x10000 = 5 := by
  refine ⟨⟨?_, ?_⟩, ?_, ⟨?_, ?_⟩, ?_⟩ <;> decide +kernel

theorem witness_EngineWaitsEnd :
    let time := eng (waits 8 (.time 0))
    let event := eng { waits 12 (.event 255) with evl := BitVec.ofNat 256 (2 ^ 255) }
    let sample := eng (waits 9 (.sample 0 0 (some 0)))
    let late := eng { waits 8 (.time 1) with expires := some 0 }
    time.testing 0 = true ∧ (time.engine 0).waitOp < 64 ∧ 0 ≤ (time.reg R.NET_TIME - 0).toInt
      ∧ event.testing 0 = true ∧ (event.engine 0).evl.getLsbD (255#8).toNat = true
      ∧ sample.testing 0 = true ∧ ((0 : Nat) : Int) ≤ (sample.reg R.NET_TIME - 0).toInt
      ∧ (eng (waits 7 (.commit [] .ok))).testing 0 = true ∧ (eng (waits 7 (.commit [] .locked))).testing 0 = true
      ∧ late.testing 0 = true ∧ (late.engine 0).ending ≠ some .waitOk ∧ late.waitHolds 0 = false ∧ 0 ≤ (late.reg R.NET_TIME - 0).toInt
      ∧ ((eng { run 0 with frozen := true }).engine 0).frozen = true := by
  decide +kernel

theorem witness_EnginesStartStopAndFreeze :
    let s := idle.setFld R.SYS_DBG F.SYS_DBG_FREEZE 1
    let held := { s with evt := { s.evt with core1 := { Core.reset with halted := true } } }
    let waiting := { s with seq := s.seq.set 0 { waits 8 (.time 0) with frozen := true } }
    idle.up = true ∧ s.bit R.SYS_DBG F.SYS_DBG_FREEZE = true ∧ ((eng (run 0)).engine 0).state = .running
      ∧ (∀ d : Fin 2, d ≠ 0 → (s.core d).halted = false) ∧ (∃ d : Fin 2, d ≠ 0 ∧ (held.core d).halted = true)
      ∧ (waiting.engine 0).state = .waiting ∧ (waiting.engine 0).frozen = true ∧ (waiting.engine 0).wait = .time 0
      ∧ 0 ≤ (waiting.reg R.NET_TIME - 0).toInt := by
  decide +kernel

theorem witness_RegisterWriteReachesItsTarget :
    (inMode .off).mode = .off ∧ idle.mode ≠ .off ∧ (0x20000003 : Word).toNat % 4 ≠ 0 ∧ (0x200FFFFC : Word).toNat % 4 = 0
      ∧ idle.putBad 0x200FFFFC 4 0 = false ∧ (eng (run 1)).putBad 0x21000004 4 0 = true ∧ region? 0x21000004 = some .sched
      ∧ region? 0x200FFFFC = some .sram ∧ region? 0x003FFFFC = some .flash ∧ region? 0x20100000 = none ∧ busReg? 0x20100000 = none
      ∧ busReg? 0x40050244 = some (R.TDU_TREF 1) ∧ (part .ixl4830).regAbsent (R.TDU_TREF 1) = true
      ∧ busReg? 0x40050144 = some (R.TDU_TREF 0) ∧ idle.gateStatus (R.TDU_TREF 0) = .wrongMode
      ∧ (locked idle).gateStatus (R.TDU_TREF 0) = .locked ∧ (inMode .drive).gateStatus (R.TDU_TREF 0) = .ok
      ∧ (inMode .drive).regAbsent (R.TDU_TREF 0) = false ∧ (inMode .drive).writeBad (R.TDU_TREF 0) 5 = false
      ∧ idle.writeBad (R.CLE_CMD_CFG 0) 0xFFFFFFFF = true ∧ idle.regAbsent (R.CLE_CMD_CFG 0) = false
      ∧ busReg? (0x40000000 + R.MOD_REQ) = some R.MOD_REQ ∧ idle.writeBad R.MOD_REQ 3 = false ∧ idle.regAbsent R.MOD_REQ = false
      ∧ busReg? (0x40000000 + R.MOD_REFAPP) = some R.MOD_REFAPP ∧ idle.writeBad R.MOD_REFAPP 0x80000000 = false
      ∧ idle.regAbsent R.MOD_REFAPP = false ∧ idle.writeBad R.MOD_REFAPP 0 = false
      ∧ busReg? (0x40000000 + R.SAF_CARG) = some R.SAF_CARG ∧ idle.writeBad R.SAF_CARG 4 = false ∧ idle.regAbsent R.SAF_CARG = false
      ∧ busReg? (0x40000000 + R.SAF_INLVL) = some R.SAF_INLVL ∧ idle.writeBad R.SAF_INLVL 0 = false
      ∧ idle.regAbsent R.SAF_INLVL = false ∧ (inMode .drive).gateStatus R.SYS_THHYS = .ok
      ∧ busReg? 0x40000108 = some R.SYS_THHYS ∧ idle.writeBad R.SYS_THHYS 0 = false ∧ idle.regAbsent R.SYS_THHYS = false := by
  decide +kernel

/-- Core 0 waits for a word of code flash; its cache holds the first one, and it has reserved the last word of SRAM. -/
def fetched : State :=
  { idle with
    flash := some ⟨false, 16, false⟩
    evt := { idle.evt with core0 := { Core.reset with released := true, reservation := some 0x200FFFFC } }
    bus := { idle.bus with own0 := { CoreOwn.reset with cache := [(0, 7)] } } }

theorem witness_ResultsAreConsumed :
    let own := ((idle.setFld (R.NET_ETH_CFG 0) F.NET_ETH_CFG_EN 1).setReg (R.NET_ETH_RXR 0) 0x00100000).setWord 0x20000004 0x80000040
    idle.mode ≠ .off ∧ (inMode .off).mode = .off ∧ (region? 0x00000000).isSome = true ∧ idle.flash = none
      ∧ busReg? (0x40000000 + R.ACQ_QPOP) = some R.ACQ_QPOP ∧ busReg? (0x40000000 + R.GTE_QPOP) = some R.GTE_QPOP
      ∧ busReg? (0x40000000 + R.NET_RXQ) = some R.NET_RXQ ∧ busReg? (0x40000000 + R.CNV_CPL) = some R.CNV_CPL
      ∧ busReg? (0x40000000 + R.SYS_ID) = some R.SYS_ID ∧ idle.regAbsent R.SYS_ID = false ∧ (regRow? R.SYS_ID).isSome = true
      ∧ (idle.portRead R.SYS_ID).isNone = true ∧ idle.regView R.SYS_ID = none
      ∧ State.coreOf .core0 = some 0 ∧ State.coreOf .host = none ∧ fetched.flash ≠ none ∧ region? 0x003FFFFC = some .flash
      ∧ fetched.cached .core0 0 (.fetch true) = some 7 ∧ fetched.cached .core0 4 (.fetch true) = none
      ∧ fetched.cached .core0 0 (.fetch false) = none ∧ idle.cached .core1 0 (.load 31) = none
      ∧ fetched.atomicBad .core0 0x200FFFFC (.conditional 31 5) = false ∧ (fetched.core 0).reservation = some 0x200FFFFC
      ∧ (idle.core 0).reservation ≠ some 0x200FFFFC ∧ region? 0x200FFFFC = some .sram ∧ region? 0x21000000 ≠ some .sram
      ∧ fetched.atomicBad .core0 0x21000000 (.reserve 1) = false ∧ idle.clk.fault = false
      ∧ own.atomicBad .core0 0x20000004 (.amo 1 .swap 0) = true := by
  decide +kernel

/-- Converter 6 scans channels 40 and 41. -/
def scanning : State :=
  ({ idle with acq := { idle.acq with conv := idle.acq.conv.set 6 { idle.acq.conv[6] with scan := [40, 41] } } }).setReg
    (R.ACQ_CH_WIN 40) 0x0F0705D1

theorem witness_AcquisitionScansAndJudges :
    let held := { scanning with acq := { scanning.acq with conv := scanning.acq.conv.set 6 { scanning.acq.conv[6] with held := some none } } }
    let again := { scanning with acq := { scanning.acq with chan := scanning.acq.chan.set 40 { scanning.acq.chan[40] with rejected := true } } }
    let queued := (idle.setFld (R.ACQ_C_CFG 0) F.ACQ_C_CFG_MASK 63).setFld (R.ACQ_C_CFG 0) F.ACQ_C_CFG_QMASK 63
    let full := { queued with acq := { queued.acq with queue := ⟨List.replicate 507 0, []⟩ } }
    (queued.fld (R.ACQ_C_CFG 0) F.ACQ_C_CFG_MASK = 63 ∧ queued.fld (R.ACQ_C_CFG 0) F.ACQ_C_CFG_QMASK = 63)
      ∧ full.acq.queue.words + 6 = 513 ∧ queued.acq.queue.words = 0
      ∧ (idle.acq.conv[0]).scan = [] ∧ (scanning.acq.conv[6]).scan ≠ [] ∧ (scanning.acq.conv[6]).held = none
      ∧ (held.acq.conv[6]).held ≠ none ∧ (scanning.acq.conv[6]).scan.head? = some 40 ∧ (scanning.acq.conv[6]).scan.tail ≠ []
      ∧ scanning.acq.conv[6].scanTd = none ∧ (∀ d : Fin 5, scanning.fld (R.ACT_D_ST d.val) F.ACT_D_ST_STATE < 2)
      ∧ scanning.up = true ∧ (inMode .off).up = false ∧ scanning.enp.phase = .idle
      ∧ (part .ixl4810).hasCharger = false ∧ (scanning.setFld (R.ACQ_CH_ST 40) F.ACQ_CH_ST_INVALID 1).bit (R.ACQ_CH_ST 40) F.ACQ_CH_ST_INVALID = true
      ∧ scanning.bit (R.ACQ_CH_ST 40) F.ACQ_CH_ST_INVALID = false
      ∧ scanning.fld (R.ACQ_CH_WIN 40) F.ACQ_CH_WIN_MIN ≤ (1489#12).toNat ∧ (3847#12).toNat ≤ scanning.fld (R.ACQ_CH_WIN 40) F.ACQ_CH_WIN_MAX
      ∧ ¬ scanning.fld (R.ACQ_CH_WIN 40) F.ACQ_CH_WIN_MIN ≤ (1488#12).toNat
      ∧ (scanning.acq.chan[40]).rejected = false ∧ (again.acq.chan[40]).rejected = true := by
  decide +kernel

theorem witness_PositionInputsMoveAxes :
    let hall := { idle with pos := { idle.pos with axis := idle.pos.axis.set 8 { Axis.reset with seen := true, sensor := 1 } } }
    let ssi := (idle.setFld (R.POS_SSI_CFG 0) F.POS_SSI_CFG_MT 12).setFld (R.POS_SSI_CFG 0) F.POS_SSI_CFG_ST 16
    let zero := idle.setFld (R.POS_SSI_CFG 1) F.POS_SSI_CFG_MT 0
    idle.up = true ∧ idle.bit (R.POS_AX_ST 2) F.POS_AX_ST_INVALID = false ∧ (idle.pos.axis[2]).failed = false
      ∧ (idle.pos.axis[2]).sensor < 4 ∧ (idle.pos.axis[2]).sensor ^^^ 0 = 0 ∧ (idle.pos.axis[2]).sensor ^^^ 3 = 3
      ∧ (idle.pos.axis[2]).sensor ^^^ 1 = 1 ∧ (idle.pos.axis[2]).sensor ^^^ 2 = 2
      ∧ (idle.setFld (R.POS_ENC_CFG 3) F.POS_ENC_CFG_ZEN 1).bit (R.POS_ENC_CFG 3) F.POS_ENC_CFG_ZEN = true
      ∧ (idle.pos.axis[8]).sensor ≠ 7 ∧ (hall.pos.axis[8]).sensor ≠ 0 ∧ 0 < (hall.pos.axis[8]).sensor
      ∧ 3 ^^^ (hall.pos.axis[8]).sensor = 2 ∧ (hall.pos.axis[8]).failed = false ∧ hall.bit (R.POS_AX_ST 8) F.POS_AX_ST_INVALID = false
      ∧ idle.hasB = true ∧ idle.fld (R.POS_MOT_CFG 0) F.POS_MOT_CFG_SRC = 0 ∧ idle.bit (R.POS_AX_ST 0) F.POS_AX_ST_INVALID = false
      ∧ idle.fld (R.POS_RES_CFG 0) F.POS_RES_CFG_AMIN ≤ (0xFFF : BitVec 12).toNat ∧ (0 : BitVec 16).toInt.natAbs ≤ 0
      ∧ ssi.fld (R.POS_SSI_CFG 0) F.POS_SSI_CFG_MT + ssi.fld (R.POS_SSI_CFG 0) F.POS_SSI_CFG_ST
          + (if ssi.bit (R.POS_SSI_CFG 0) F.POS_SSI_CFG_PAR then 1 else 0) ≤ 32
      ∧ ssi.fld (R.POS_SSI_CFG 0) F.POS_SSI_CFG_ST ≤ 16 ∧ 0 < ssi.fld (R.POS_SSI_CFG 0) F.POS_SSI_CFG_MT
      ∧ ssi.bit (R.POS_SSI_CFG 0) F.POS_SSI_CFG_PAR = false ∧ ssi.bit (R.POS_SSI_CFG 0) F.POS_SSI_CFG_GRAY = false
      ∧ zero.fld (R.POS_SSI_CFG 1) F.POS_SSI_CFG_MT = 0 ∧ (zero.pos.axis[7]).seen = false := by
  decide +kernel

theorem witness_TravelFollowsTheWheels :
    let s := idle.setReg R.POS_TRVSRC 0x00003210
    s.up = true ∧ s.bit R.POS_TRVSRC F.POS_TRVSRC_SEL = false ∧ s.fld R.POS_TRVSRC F.POS_TRVSRC_LPRIM ≤ 10
      ∧ s.fld R.POS_TRVSRC F.POS_TRVSRC_RPRIM ≤ 10 ∧ s.hasB = true
      ∧ s.bit (R.POS_AX_ST (s.fld R.POS_TRVSRC F.POS_TRVSRC_RPRIM)) F.POS_AX_ST_INVALID = false
      ∧ s.bit R.POS_TRVSTAT F.POS_TRVSTAT_RFRZ = false ∧ s.bit R.POS_TRVSTAT F.POS_TRVSTAT_LFRZ = false
      ∧ s.bit (R.POS_AX_ST 2) F.POS_AX_ST_STOP = false
      ∧ (s.setFld (R.POS_AX_ST 10) F.POS_AX_ST_INVALID 1).bit (R.POS_AX_ST 10) F.POS_AX_ST_INVALID = true := by
  decide +kernel

theorem witness_ProbesEmulationAndPads :
    let s := idle.setFld (R.POS_PRB_CFG 0) F.POS_PRB_CFG_EDGE 3
    let w := { s with pos := { s.pos with probe := s.pos.probe.set 0 ⟨true, true, false, 0⟩ } }
    let e := idle.setFld (R.POS_EMU_CFG 0) F.POS_EMU_CFG_SRC 0
    let e := { e with pos := { e.pos with emu := e.pos.emu.set 0 ⟨0, -1, 3, true, 0, none, false⟩ } }
    let p1 := idle.setFld (R.CLE_CMD_CFG 0) F.CLE_CMD_CFG_FORM 1
    let p2 := idle.setFld (R.CLE_CMD_CFG 0) F.CLE_CMD_CFG_FORM 2
    (s.fld (R.POS_PRB_CFG 0) F.POS_PRB_CFG_EDGE).testBit 0 = true ∧ (s.fld (R.POS_PRB_CFG 0) F.POS_PRB_CFG_EDGE).testBit 1 = true
      ∧ (idle.fld (R.POS_PRB_CFG 0) F.POS_PRB_CFG_EDGE).testBit 0 = false
      ∧ (w.pos.probe[0]).waiting = true ∧ (s.pos.probe[0]).waiting = false ∧ (idle.pos.emu[0]).owed = 0 ∧ (e.pos.emu[0]).owed ≠ 0
      ∧ e.fld (R.POS_EMU_CFG 0) F.POS_EMU_CFG_SRC ≠ 3 ∧ e.clk.fault = false ∧ e.bit (R.POS_EMU_CFG 0) F.POS_EMU_CFG_MODE = false
      ∧ (e.setFld (R.POS_EMU_CFG 0) F.POS_EMU_CFG_MODE 1).bit (R.POS_EMU_CFG 0) F.POS_EMU_CFG_MODE = true
      ∧ (e.pos.emu[0]).phase < 4 ∧ p1.fld (R.CLE_CMD_CFG 0) F.CLE_CMD_CFG_FORM = 1
      ∧ p2.fld (R.CLE_CMD_CFG 0) F.CLE_CMD_CFG_FORM = 2 ∧ p1.up = true ∧ p2.up = true ∧ w.up = true ∧ e.up = true := by
  decide +kernel

theorem witness_CaptureAndSlotRequests :
    let c : Capture := ⟨[(0, (6, 2)), (255, (-7, 2))], 65536, 0⟩
    let s := { idle.setFld R.CLE_CAP F.CLE_CAP_REVS 1 with cle := { idle.cle with capture := some c } }
    (0x01000000 : Word) &&& 0x7F0000C0 ≠ 0 ∧ (0 : Word) &&& 0x7F0000C0 = 0 ∧ (locked idle).lockInForce = true
      ∧ idle.lockInForce = false ∧ (inMode .service).modePermits .stageTest = true ∧ idle.modePermits .stageTest = false
      ∧ idle.cle.capture = none ∧ s.cle.capture = some c ∧ s.fld R.CLE_CAP F.CLE_CAP_REVS = 1
      ∧ 1 * 65536 ≤ c.travelled ∧ ({ c with travelled := 65535 } : Capture).travelled < 1 * 65536 ∧ (c.bins.map (·.1)).Nodup ∧ (∀ b ∈ c.bins, b.1 < 256) := by
  decide +kernel

theorem witness_SlotOutputsStayWithinLimits :
    loopK.omin ≤ loopK.omax ∧ loopK.imin ≤ loopK.imax ∧ loopK.imin ≤ loopK.i ∧ loopK.i ≤ loopK.imax
      ∧ ({ loopK with omin := 5, omax := 5, imin := 0, imax := 0, law := 3 } : SlotIn).law = 3 := by
  decide +kernel

theorem witness_BoundaryAndControlPhase :
    let full := (idle.setFld (R.CLE_SL_CFG 63) F.CLE_SL_CFG_LAW 1).setFld (R.CLE_SL_CFG 63) F.CLE_SL_CFG_HOLD 65535
    let between : State :=
      { idle with clk := { idle.clk with smplEff := 0x1132, aligned := true }
                  wfu := { idle.wfu with tb := idle.wfu.tb.set 0 ⟨true, false, false, 0⟩ } }
    (idle.clk.started = true ∧ idle.clk.clocked = true ∧ idle.mode ≠ .off ∧ idle.boundaryDue = true) ∧ idle.settingsBad = false
      ∧ full.settingsBad = true ∧ between.boundaryDue = false ∧ idle.clk.smplEff.bit 12 = false ∧ idle.tbRunning 0 = false
      ∧ idle.up = true ∧ idle.twn.sigWait = false ∧ State.reset.up = false ∧ (0x2000 : Word).bits 31 13 ≠ 0
      ∧ (0x1FFF : Word).bits 31 13 = 0 := by
  decide +kernel

theorem witness_ModeRequestsAreJudged :
    let s := { idle with seq := idle.seq.set 0 (run 131071) }
    s.quiet = false ∧ s.twn.forwarded = none ∧ (3#4) ≠ 11 ∧ s.mod.trans = none ∧
      ({ s with mod := { s.mod with trans := some ⟨.host, .parked, false, true, 0⟩ } } : State).judged 3 = some .busy ∧ s.judged 3 = none ∧ s.judged 5 = some .wrongMode
      ∧ s.judged 15 = some .outOfRange ∧ s.judged 2 = some .ok ∧ (part .ixl4830).judged 7 = some .notPresent
      ∧ (locked s).judged 4 = some .locked ∧ s.issuing 0 = true ∧ (s.engine 0).pc + 1 ≤ 131072 := by
  decide +kernel

theorem witness_LockoutAndTimeout :
    let l := locked idle
    let w := { idle with mod := { idle.mod with trans := some ⟨.host, .parked, false, true, 0⟩ } }
    l.mod.lock = .inForce ∧ l.mod.lockDone = false ∧ idle.mod.trans = none ∧ w.entryDone .idle .parked = false
      ∧ idle.up = true := by
  decide +kernel

theorem witness_SupplyAndClockFaults :
    idle.mode ≠ .off ∧ (inMode .off).mode = .off ∧ ({ idle with gdp := { idle.gdp with dip := true } } : State).gdp.dip = true
      ∧ idle.clk.clocked = true := by
  decide +kernel

theorem witness_ResetsStartInBoot :
    let off := inMode .off
    let asleep := { off with mod := { off.mod with sleeping := true, keptWake := 1 } }
    off.mode = .off ∧ off.reg R.MOD_WAKECFG &&& 1 ≠ 0 ∧ asleep.mod.sleeping = true ∧ asleep.mod.keptWake ≠ 0
      ∧ off.mod.sleeping = false ∧ (locked idle).mod.lock = .inForce
      ∧ (idle.setFld R.MOD_LOCKCAUSE F.MOD_LOCKCAUSE_LATCHED 1).bit R.MOD_LOCKCAUSE F.MOD_LOCKCAUSE_LATCHED = true := by
  decide +kernel

/-- FIELD, with a course of two gates for section 0; one gate stands in `one`, two in `two`. -/
def field0 : State := (inMode .field).setFld (R.GTE_SEC_CRS 0) F.GTE_SEC_CRS_LEN 2

def field1 : State := (field0.setFld (R.GTE_SEC_PTR 0) F.GTE_SEC_PTR_COUNT 1).setWord 0x25000000 100

theorem witness_GateIsAppended :
    let two := (field0.setFld (R.GTE_SEC_PTR 0) F.GTE_SEC_PTR_COUNT 2).setWord 0x25000008 100
    (0x0800 : Word).bits 15 11 ≠ 0 ∧ (0xFFFF07FF : Word).bits 15 11 = 0 ∧ field0.appendStatus 0 100 0 = .ok
      ∧ field1.appendStatus 0 100 0 = .outOfRange ∧ two.appendStatus 0 101 0 = .busy ∧ idle.appendStatus 0 100 0 = .wrongMode
      ∧ (locked field0).appendStatus 0 100 0 = .locked ∧ field0.appendStatus 0 (-1) 0 = .late
      ∧ (eng (run 0)).issuing 0 = true := by
  decide +kernel

/-- Section 0 converses with its node; `g` is its gate conversation. -/
def talking (g : GateConv) : State :=
  let s := ((inMode .field).setReg (R.GTE_SEC_CFG 0) 0xA0000190).setFld R.GTE_NETCFG F.GTE_NETCFG_CHMASK 1
  { s with gte := { s.gte with sec := s.gte.sec.set 0 { GateSec.reset with on := true, conv := some g } } }

/-- An ARM served and neither confirmed nor sent again. -/
def arm : GateConv := ⟨false, 7, 1, 0, none, true, false, false, false, true, false⟩

theorem witness_SectionNodesConverse :
    let f : NodeMsg := ⟨0, 0, 0, 1, 7, 0, 0⟩
    let s := talking arm
    s.up = true ∧ s.gte.halting = false ∧ idle.nodeSection f = none ∧ s.nodeSection f = some 0
      ∧ (s.sec 0).conv = some arm ∧ f.seq = arm.seq ∧ f.state.toNat = arm.word.bits 7 0 ∧ f.time = arm.ta ∧ arm.confirmed = false
      ∧ { f with seq := 8 }.seq ≠ arm.seq ∧ arm.served = true ∧ arm.retried = false ∧ ({ arm with retried := true }).retried = true
      ∧ 0 ≤ (s.reg R.NET_TIME - arm.ta).toInt ∧ (idle.sec 255).conv = none ∧ s.quiet = false
      ∧ ({ idle with gte := { idle.gte with halting := true } } : State).gte.halting = true ∧ arm.late = false
      ∧ ({ arm with late := true, fire := true }).late = true ∧ ({ arm with confirmed := true }).confirmed = true
      ∧ ¬ 0 ≤ (s.reg R.NET_TIME - ({ arm with ta := 1 }).ta).toInt := by
  decide +kernel

theorem witness_EvaluationServesDueGates :
    let s := (field1.setFld (R.GTE_SEC_CFG 0) F.GTE_SEC_CFG_EN 1).setWord 0x25000000 (-1)
    let on := { s with gte := { s.gte with granted := true, sec := s.gte.sec.set 0 { GateSec.reset with on := true, held := false } } }
    let before := { on with gte := { on.gte with sec := on.gte.sec.set 0 { GateSec.reset with on := true, prev := some (-2, 0) } } }
    let held := { s with gte := { s.gte with sec := s.gte.sec.set 0 { GateSec.reset with on := true } } }
    field0.up = true ∧ field0.gte.last = none ∧ field0.shadow = [] ∧ field0.gte.inbox = [] ∧ field0.mode ≠ .service
      ∧ (∀ j, j < 256 → (field0.sec j).on = false) ∧ (∀ j, j < 256 → (field0.sec j).on = field0.bit (R.GTE_SEC_CFG j) F.GTE_SEC_CFG_EN)
      ∧ (∀ j, j < 256 → (on.sec j).on = on.bit (R.GTE_SEC_CFG j) F.GTE_SEC_CFG_EN ∧ (on.sec j).flush = false)
      ∧ (∀ j, j < 256 → j ≠ 0 → (on.sec j).on = false) ∧ (on.sec 0).on = true ∧ (held.sec 0).held = true
      ∧ on.gateAt 0 0 = some (-1, 0) ∧ on.secCount 0 = 1 ∧ on.gateDue 0 (-1, 0) = true ∧ (on.sec 0).held = false
      ∧ (on.sec 0).restore = false ∧ on.secTgt 0 ≠ 2 ∧ on.gteAdvance.gateDue 0 (-1, 0) = true ∧ on.secHeldBy 0 = false
      ∧ idle.secHeldBy 0 = true ∧ on.gteAdvance.gateLate 0 (-1, 0) = true
      ∧ before.gteAdvance.gateLate 0 (-1, 0) = false
      ∧ on.gte.service = false ∧ ({ on with gte := { on.gte with last := some (1, 2, 3) } } : State).gte.last = some (1, 2, 3)
      ∧ (∀ j, j < 256 → (field0.sec j).flush = false) := by
  decide +kernel

/-- The record of session `n` with these words from the first on. -/
def withRecord (s : State) (n : Nat) (l : List Word) : State :=
  l.zipIdx.foldl (fun s w => s.setWord (0x23080000 + 64 * n + 4 * w.2) w.1) s

/-- IDLE with the conversation engine and channel 2 enabled, its address 0x86. -/
def talk : State :=
  ((idle.setFld R.CNV_CFG F.CNV_CFG_EN 1).setFld (R.NET_CH_CFG 2) F.NET_CH_CFG_EN 1).setReg R.CNV_SA0 0x00860000

/-- Session 3 of channel 2 sends 20 bytes to 0x90; the word of its state is `st`, and its next words follow. -/
def sender (st : Word) (l : List Word) : State := withRecord talk 3 ([0x00070421, 0x9000EF00, 0x0003FFFF, 20, 0x0000010C, st] ++ l)

/-- Session 12 of channel 2 receives; the word of its state is `st`, and its next words follow. -/
def receiver (st : Word) (l : List Word) : State :=
  withRecord talk 12 ([0x10072422, 0x0080EF00, 0x0003FFFF, 300, 0x0000010C, st] ++ l)

theorem witness_SessionsStart :
    (sender 0 []).startJudged 3 false = .ok ∧ (sender 0x9011 []).startJudged 3 false = .busy ∧ idle.startJudged 3 false = .outOfRange
      ∧ (eng (run 131071)).issuing 0 = true ∧ ((eng (run 131071)).engine 0).pc + 1 ≤ 131072 := by
  decide +kernel

theorem witness_SessionCommands :
    let s := sender 0x9011 []
    (s.recState 3 ≠ 0 ∧ s.recState 3 ≠ 6 ∧ s.recBits 3 5 7 7 = 0) ∧ idle.recState 255 = 0
      ∧ (sender 0x9016 []).recState 3 = 6
      ∧ (receiver 0x9013 []).recKind 12 = 2 ∧ (receiver 0x9013 []).recState 12 = 3 ∧ (receiver 0x9013 []).recBits 12 5 7 7 = 0
      ∧ s.recCh 3 = 2 ∧ s.recState 3 ≠ 6 ∧ s.recCh 4 ≠ 2 ∧ talk.ownSa 2 ≠ (0x87#8).toNat ∧ talk.ownSa 2 = (0x86#8).toNat := by
  decide +kernel

theorem witness_TransportFramesMoveSessions :
    let r := receiver 0 []
    let b := withRecord talk 12 [0x10072822, 0x0080EF00, 0x0003FFFF, 300, 0x0000010C, 0]
    let tx := sender 0x9011 [1, 3, 20, 0, 0]
    let tx := { tx with cnv := { tx.cnv with ses := tx.cnv.ses.set 3 { Session.reset with pgn := 0xEF00 } } }
    let rx := receiver 0x9015 [1, 16, 300, 0, 0]
    let rx := { rx with cnv := { rx.cnv with ses := rx.cnv.ses.set 12 { Session.reset with pgn := 0xEF00 } } }
    let bc := withRecord talk 12 [0x10072822, 0x0080EF00, 0x0003FFFF, 300, 0x0000010C, 0x9025, 1, 43, 300, 0, 0x30000000]
    let bc := { bc with cnv := { bc.cnv with ses := bc.cnv.ses.set 12 { Session.reset with pgn := 0xEF00 } } }
    let late := sender 0x9013 [4, 3, 20, 0, 0]
    let late := { late with cnv := { late.cnv with ses := late.cnv.ses.set 3 { Session.reset with pgn := 0xEF00 } } }
    talk.mode ≠ .off ∧ talk.bit R.CNV_CFG F.CNV_CFG_EN = true ∧ talk.bit R.CNV_CFG F.CNV_CFG_QUIET = false
      ∧ r.rxSession 2 0x90 1 (some 0xEF00) = none ∧ r.rxMatch 2 0x90 1 0xEF00 = some 12 ∧ talk.rxMatch 2 0x90 1 0xEF00 = none
      ∧ 300 ≤ r.recRoom 12 ∧ b.rxSession 2 0x90 2 none = none ∧ b.rxMatch 2 0x90 2 0xEF00 = some 12
      ∧ talk.txSession 2 0x90 false 0xEF00 = none ∧ tx.txSession 2 0x90 false 0xEF00 = some 3 ∧ tx.recState 3 ≠ 2
      ∧ (tx.ses 3).cts ≠ some (3, 1) ∧ tx.recNext 3 = 1 ∧ 1 + 3 ≤ tx.recTotal 3 + 1 ∧ tx.recSize 3 = 20
      ∧ rx.rxSession 2 0x90 1 none = some 12 ∧ rx.recState 12 = 5 ∧ rx.recBits 12 5 7 7 = 0 ∧ (rx.ses 12).ignoring = false
      ∧ rx.recNext 12 = 1 ∧ 1 < rx.recTotal 12 ∧ 1 < rx.recEnd 12 ∧ rx.msgAddr 12 0 + 7 ≤ 0x23080000
      ∧ talk.rxSession 2 0x90 3 (some 0xEF00) = none ∧ talk.canOn 2 = true ∧ talk.ownSa 2 ≠ 0xFE ∧ talk.canOn 0 = false
      ∧ idle.bit R.CNV_CFG F.CNV_CFG_EN = false ∧ (talk.setReg R.CNV_SA0 0x00FE0000).ownSa 2 = 0xFE
      ∧ r.rxEarlier 2 0x90 1 0xEF00 = none ∧ rx.rxEarlier 2 0x90 1 0xEF00 = some 12 ∧ rx.rxEarlier 2 0x90 3 0xEF00 = some 12
      ∧ r.recRoom 12 < 70000 ∧ bc.rxSession 2 0x90 2 none = some 12
      ∧ late.txSession 2 0x90 false 0xEF00 = some 3 ∧ late.recState 3 = 3 ∧ 1 < late.recNext 3 ∧ late.recBits 3 5 6 6 = 0
      ∧ (late.ses 3).cts ≠ some (3, 1) ∧ (20 : Word).toNat = late.recSize 3 ∧ (3 : BitVec 8).toNat = late.recTotal 3 := by
  decide +kernel

theorem witness_TransportTimersExpire :
    talk.mode ≠ .off ∧ (sender 0x9011 [1, 3, 20, 0, 0x10000000]).recTimer 3 = 1 ∧ (sender 0x9011 [1, 3, 1]).recBits 3 5 6 6 = 0
      ∧ (sender 0x9051 [1, 3, 1]).recBits 3 5 6 6 = 1 ∧ (sender 0x9051 [1, 3, 1]).recState 3 = 1
      ∧ (receiver 0x9025 [1, 16, 300, 0, 0x30000000]).recTimer 12 = 3 ∧ (receiver 0x9025 [1, 16, 3]).recProto 12 = 2
      ∧ (sender 0x9002 [1, 3, 8, 0, 0x50000000]).recTimer 3 = 5 ∧ (sender 0x9002 [1, 3, 5]).recProto 3 = 0
      ∧ (receiver 0x9013 []).recKind 12 = 2 ∧ (receiver 0x9013 []).recState 12 = 3
      ∧ (sender 0x9022 []).recKind 3 = 1 ∧ (sender 0x9022 []).recProto 3 = 2 ∧ (sender 0x9022 []).recState 3 = 2 := by
  decide +kernel

/-- Channel 0 is enabled, and its buffer 1 holds a frame of the queue, on the bus or not. -/
def sending (active : Bool) : State :=
  let s := idle.setFld (R.NET_CH_CFG 0) F.NET_CH_CFG_EN 1
  let f : CanFrame := ⟨true, 5, false, false, false, false, 0, []⟩
  let c := { CanChan.reset with buf := (Vector.replicate 3 none).set 1 (some ⟨f, .queue, active, 0, false⟩) }
  { s with net := { s.net with chan := s.net.chan.set 0 c } }

/-- Channel 0's packet being pushed is as given. -/
def pushing (l : List Word) (dropping : Bool) : State :=
  { idle with net := { idle.net with chan := idle.net.chan.set 0 { CanChan.reset with push := l, dropping := dropping } } }

/-- A module commissioned as a lead, its link in the state of code `st`. -/
def linked (st : Nat) : State :=
  let s := (idle.setFld R.TWN_CFG F.TWN_CFG_EN 1).setFld R.TWN_ST F.TWN_ST_STATE st
  { s with saf := { s.saf with role := 1, puid0 := 7 } }

theorem witness_CanTransmission :
    let f : CanFrame := ⟨true, 5, false, false, false, false, 0, []⟩
    let quietly := (((linked 4).setReg R.CNV_SA0 0x86).setFld (R.NET_CH_CFG 0) F.NET_CH_CFG_EN 1)
    let q : List Word := [0x00100000, 0x40000086]
    let cancelled := (sending true).setBuf 0 1 (some ⟨f, .queue, true, 0, true⟩)
    let fd := sending false
    let bulk := (sending true).setBuf 0 1 (some ⟨f, .bulk 3, true, 0, false⟩)
    let bulk := { bulk with net := { bulk.net with chan := bulk.net.chan.set 0 { bulk.net.chan[0] with gate := [(3, f)] } } }
    (0x40000000 : Word).bit 30 = true ∧ pushedOk ([] ++ [0x40000000]) = false ∧ pushedOk ([0x00000000] ++ [0x40000000]) = true
      ∧ (0 : Word).bit 30 = false ∧ (pushing [] true).net.chan[0].dropping = true
      ∧ 256 ≤ ((pushing (List.replicate 256 0) false).chan 0).txq.words + ((pushing (List.replicate 256 0) false).chan 0).push.length
      ∧ ((pushing (List.replicate 255 0) false).chan 0).txq.words + ((pushing (List.replicate 255 0) false).chan 0).push.length < 256
      ∧ (idle.setFld (R.NET_CH_ST 0) F.NET_CH_ST_BUSOFF 1).busOff 0 = true ∧ ((idle.chan 0).buf[0]).isNone = true
      ∧ (((sending false).chan 0).buf[1]).isSome = true ∧ (sending false).canOn 0 = true ∧ (sending false).busOff 0 = false
      ∧ (sending false).bit (R.NET_CH_CFG 0) F.NET_CH_CFG_LOM = false
      ∧ ({ idle with clk := { idle.clk with fault := true } } : State).clk.fault = true ∧ idle.clk.fault = false
      ∧ ((((sending true).chan 0).buf[1]).any fun x => x.active && !x.cancel) = true
      ∧ ((((sending false).chan 0).buf[1]).any fun x => !x.active) = true ∧ (sending false).offered 0 1 = true
      ∧ ((sending false).setBuf 0 0 ((sending false).chan 0).buf[1]).offered 0 1 = false
      ∧ pushedOk (0x08000000 :: [0x40000000]) = true ∧ (idle.canOn 0 = false)
      ∧ (quietly.quiet = true ∧ (pushedFrame [0, 0x40000086]).ext = false ∧ (pushedFrame q).ext = true
        ∧ quietly.ownSa 0 ≠ 0xFE ∧ (pushedFrame q).id.toNat % 256 = quietly.ownSa 0 ∧ pushedOk q = true)
      ∧ ((cancelled.chan 0).buf[1].any fun x => x.active && x.cancel) = true ∧ cancelled.canOn 0 = true
      ∧ (fd.sendable 0 ⟨⟨true, 5, true, false, false, false, 0, []⟩, .queue, false, 0, false⟩) = false
      ∧ (bulk.chan 0).gate = [(3, f)] ∧ ((bulk.chan 0).buf[1].any fun x => x.active && State.txTransport x) = true := by
  decide +kernel

theorem witness_CanReceptionAndErrors :
    let f : CanFrame := ⟨true, 5, false, false, false, false, 0, []⟩
    let fd : CanFrame := ⟨true, 5, true, false, false, false, 0, []⟩
    let s := sending false
    let hit := (s.setFld (R.NET_FLT_MSK 15) F.NET_FLT_MSK_TGT 1).setFld (R.NET_FLT_ID 15) F.NET_FLT_ID_IDE 1
    let full := { hit with net := { hit.net with rxq := ⟨List.replicate 2048 0, []⟩ } }
    let master := (s.setFld R.NET_TMST F.NET_TMST_ACT 1).setFld R.NET_TM F.NET_TM_CHMASK 1
    let own : CanFrame := ⟨false, 0, false, false, false, false, 8, List.replicate 8 0⟩
    let off := idle.setFld (R.NET_CH_ST 0) F.NET_CH_ST_BUSOFF 1
    let rcv := { off with net := { off.net with chan := off.net.chan.set 0 { CanChan.reset with recovering := true } } }
    idle.canOn 0 = false ∧ (fd.fdf = true ∧ s.bit (R.NET_CH_CFG 0) F.NET_CH_CFG_FDE = false)
      ∧ s.canOn 0 = true ∧ s.busOff 0 = false ∧ s.gateChan 0 = false ∧ f.ext = true
      ∧ s.fld (R.NET_CH_ST 0) F.NET_CH_ST_REC ≤ 127 ∧ firstN 16 (s.filterHit 0 f) = none
      ∧ firstN 16 (hit.filterHit 0 f) = some 15 ∧ hit.fld (R.NET_FLT_MSK 15) F.NET_FLT_MSK_TGT = 1
      ∧ hit.net.rxq.words + (rxPacket 0 f 0 (some 15) 0).length ≤ 2048 ∧ 2048 < full.net.rxq.words + (rxPacket 0 f 0 (some 15) 0).length
      ∧ off.busOff 0 = true ∧ rcv.busOff 0 = true ∧ (rcv.chan 0).recovering = true
      ∧ (rcv.setFld (R.NET_CH_CFG 0) F.NET_CH_CFG_EN 1).canOn 0 = true
      ∧ 256 ≤ (s.setFld (R.NET_CH_ST 0) F.NET_CH_ST_TEC 248).fld (R.NET_CH_ST 0) F.NET_CH_ST_TEC + 8
      ∧ (s.setFld (R.NET_CH_ST 0) F.NET_CH_ST_TEC 247).fld (R.NET_CH_ST 0) F.NET_CH_ST_TEC + 8 < 256
      ∧ master.refClash 0 own = true ∧ master.refClash 1 own = false ∧ s.refClash 0 f = false := by
  decide +kernel

theorem witness_ReferenceMessages :
    let s := (idle.setFld R.NET_TMST F.NET_TMST_ACT 1).setFld R.NET_TM F.NET_TM_CHMASK 1
    let off := s.setFld (R.NET_CH_ST 0) F.NET_CH_ST_BUSOFF 1
    let backup := idle.setFld R.NET_TM F.NET_TM_ROLE 2
    s.timeMaster = true ∧ off.refChan 0 = true ∧ off.busOff 0 = true ∧ (off.chan 0).buf[0] = none ∧ s.refChan 1 = false
      ∧ idle.timeMaster = false ∧ backup.timeMaster = false ∧ backup.fld R.NET_TM F.NET_TM_ROLE = 2 ∧ s.mode ≠ .off
      ∧ ({ idle with net := { idle.net with stood := true } } : State).net.stood = true
      ∧ (0x40000000 : Word).bits F.NET_TM_ROLE.hi F.NET_TM_ROLE.lo = 1 ∧ (0 : Word).bits F.NET_TM_ROLE.hi F.NET_TM_ROLE.lo = 0
      ∧ (0x08000000 : Word).bits 29 27 ≠ 0 ∧ (0xC7FFFFFF : Word).bits 29 27 = 0 := by
  decide +kernel

theorem witness_EthernetFrames :
    let s := (idle.setFld (R.NET_ETH_CFG 0) F.NET_ETH_CFG_EN 1).setReg (R.NET_ETH_RXR 0) 0x00100000
    let own := (s.setWord 0x20000000 0x20000100).setWord 0x20000004 0x80000040
    let tx := (s.setReg (R.NET_ETH_TXR 0) 0x00100000).setWord 0x20000004 0x80000040
    let go := { tx with net := { tx.net with eth := tx.net.eth.set 0 ⟨true, false, none⟩ } }
    let auto := s.setFld (R.NET_ETH_CFG 0) F.NET_ETH_CFG_SPEED 2
    s.mode ≠ .off ∧ s.bit (R.NET_ETH_CFG 0) F.NET_ETH_CFG_EN = true ∧ idle.bit (R.NET_ETH_CFG 1) F.NET_ETH_CFG_EN = false
      ∧ (s.word (s.ringAddr (R.NET_ETH_RXR 0) 0 + 4)).bit 31 = false ∧ 0 < own.ringLen (R.NET_ETH_RXR 0)
      ∧ (own.word (own.ringAddr (R.NET_ETH_RXR 0) 0 + 4)).bit 31 = true
      ∧ own.ringAddr (R.NET_ETH_RXR 0) 0 + 8 ≤ (own.word (own.ringAddr (R.NET_ETH_RXR 0) 0)).toNat
      ∧ s.clk.fault = false ∧ ({ s with clk := { s.clk with fault := true } } : State).clk.fault = true
      ∧ (List.replicate 6 (0xFF : Byte) ++ [0]).take 6 = List.replicate 6 0xFF
      ∧ (List.range 6).map (fun k => BitVec.ofNat 8 ((s.nreg (R.NET_ETH_MAC0 0) + s.nreg (R.NET_ETH_MAC1 0) % 65536 * 2 ^ 32) / 2 ^ (8 * k)))
          = List.replicate 6 (0 : Byte)
      ∧ (List.replicate 2000 (0xFF : Byte)).length ≤ 2000 ∧ ¬ (List.replicate 2001 (0xFF : Byte)).length ≤ 2000
      ∧ ([0, 0, 0, 0, 0, 0, 0, 0, 0, 0, 0, 0, 0x88, 0xF7, 0x13] : List Byte).getD 12 0 = 0x88 ∧ (0x13 : Byte).toNat % 16 ≤ 3
      ∧ ¬ (0x14 : Byte).toNat % 16 ≤ 3 ∧ (s.net.eth[0]).tag = none
      ∧ (go.word (go.ringAddr (R.NET_ETH_TXR 0) 0 + 4)).bits 15 0 ≤ 2000
      ∧ auto.fld (R.NET_ETH_CFG 0) F.NET_ETH_CFG_SPEED = 2 ∧ (auto.net.eth[0]).try100 = false
      ∧ (go.net.eth[0]).sending = true ∧ go.ethOwned 0 = true ∧ auto.fld (R.NET_ETH_CFG 0) F.NET_ETH_CFG_SPEED = 2
      ∧ auto.bit (R.NET_ETH_ST 0) F.NET_ETH_ST_LINK = false := by
  decide +kernel

/-- Timebase 0 runs, and leg 0 is as given. -/
def legs (l : Leg) : State :=
  { (inMode .drive).setFld (R.WFU_LEG_CFG 0) F.WFU_LEG_CFG_EN 1 with
    wfu := { idle.wfu with leg := idle.wfu.leg.set 0 l, tb := idle.wfu.tb.set 0 ⟨true, true, false, 0⟩ }
    gdp := { idle.gdp with en := 0x3FF } }

theorem witness_TimebasesRun :
    let counts := { legs Leg.reset with clk := { (legs Leg.reset).clk with smplEff := 0x1132, aligned := true } }
    let first (n : Nat) : State := { counts with clk := { counts.clk with aligned := false, began := -BitVec.ofNat 32 n } }
    idle.up = true ∧ (2#10).getLsbD 1 = true ∧ (idle.wfu.tb[1]).running = false ∧ (2#10).getLsbD 0 = false ∧ (inMode .off).up = false
      ∧ (legs Leg.reset).up = true ∧ counts.clk.smplEff.bit 12 = true ∧ counts.clk.fallback = false ∧ counts.clk.aligned = true
      ∧ (counts.wfu.tb[0]).running = true ∧ ((legs Leg.reset).wfu.tb[0]).running = true
      ∧ ((legs Leg.reset).wfu.tb[0]).stopping = true ∧ counts.clk.fallback = false
      ∧ 10000 ≤ (first 10).sampleAge ∧ (first 9).sampleAge < 10000 ∧ (first 10).clk.aligned = false := by
  decide +kernel

theorem witness_LegsFollowTheirCompares :
    let s := legs { Leg.reset with dead := some .high, a := 1 }
    let up := legs { Leg.reset with perm := true, per := 1000, a := 1, b := 1 }
    (inMode .off).up = false ∧ up.up = true ∧ ((s.leg 0).hi && (s.leg 0).lo) = false ∧ (s.leg 0).dead = some .high ∧ (s.leg 0).cmdL = false ∧ s.legPresent 0 = true
      ∧ s.legEnabled 0 = true ∧ (idle.leg 0).dead = none ∧ (part .ixl4830).legPresent 6 = false
      ∧ idle.tbRunning (idle.legTb 0) = false ∧ up.tbRunning (up.legTb 0) = true ∧ up.legPresent 0 = true
      ∧ (legs { Leg.reset with perm := true, resume := true }).legRow 0 = .wave ∧ up.legRow 0 = .wave ∧ (up.leg 0).resume = false
      ∧ up.legIndependent 0 = false ∧ 0 < up.legTH 0 ∧ (up.leg 0).supH = false ∧ (up.leg 0).supL = false ∧ (up.leg 0).cmdH = false
      ∧ (up.leg 0).cmdL = false ∧ (up.leg 0).dead = none ∧ 0 < (up.leg 0).b
      ∧ up.fld (R.WFU_LEG_CFG 0) F.WFU_LEG_CFG_PHS % (2 * up.tbPeriod (up.legTb 0)) = 0 := by
  decide +kernel

theorem witness_TripsHoldTheirLegs :
    let s := idle.setFld (R.WFU_TRIP_CFG 3) F.WFU_TRIP_CFG_EN 1
    let low := s.setFld (R.WFU_TRIP_CFG 3) F.WFU_TRIP_CFG_POL 1
    s.up = true ∧ ((true != s.bit (R.WFU_TRIP_CFG 3) F.WFU_TRIP_CFG_POL) && s.bit (R.WFU_TRIP_CFG 3) F.WFU_TRIP_CFG_EN && !s.wfu.trip.getLsbD 3) = true
      ∧ (false != low.bit (R.WFU_TRIP_CFG 3) F.WFU_TRIP_CFG_POL) = true ∧ (8#4 &&& low.tripLive) ≠ 0 ∧ s.legPresent 41 = true
      ∧ (s.leg 41).hiz = false ∧ s.bit (R.GDP_LEG_ST 41) F.GDP_LEG_ST_ASC = false := by
  decide +kernel

theorem witness_DetectionsMakeLegsHighImpedance :
    let s := idle.setFld (R.GDP_DRV_CFG 14) F.GDP_DRV_CFG_DSEN 1
    let s := { s with wfu := { s.wfu with leg := s.wfu.leg.set 41 { Leg.reset with hi := true } } }
    let c := idle.setFld (R.GDP_OC_CFG 8) F.GDP_OC_CFG_EN 1
    let line := { idle with wfu := { idle.wfu with leg := idle.wfu.leg.set 26 { Leg.reset with line := true } }
                            gdp := { idle.gdp with en := 0x3FF } }
    s.up = true ∧ s.bit (R.GDP_DRV_CFG 14) F.GDP_DRV_CFG_DSEN = true ∧ (s.leg 41).hiz = false ∧ (s.leg 41).hi = true
      ∧ (s.leg 41).blankH = false ∧ c.gdp.shunt.getLsbD 8 = false ∧ c.bit (R.GDP_OC_CFG 8) F.GDP_OC_CFG_EN = true ∧ (c.leg 41).hiz = false
      ∧ (part .ixl4830).legPresent 6 = false ∧ line.legPresent 26 = true ∧ (line.leg 26).hiz = false
      ∧ line.gdp.en.getLsbD (legStage 26) = true ∧ line.gdp.blank.getLsbD (legEnable 26) = false ∧ legEnable 26 = 3
      ∧ (line.leg 26).line = true := by
  decide +kernel

theorem witness_LegsRetryAndClear :
    let cool := idle.setFld (R.GDP_LEG_ST 0) F.GDP_LEG_ST_COOL 1
    let still := { cool with wfu := { cool.wfu with leg := cool.wfu.leg.set 0 { Leg.reset with line := true, hiz := true } }
                             gdp := { cool.gdp with en := 0x3FF } }
    let w := idle.setFld (R.GDP_LEG_ST 41) F.GDP_LEG_ST_WATCH 1
    let hiz := { idle with wfu := { idle.wfu with leg := idle.wfu.leg.set 0 { Leg.reset with hiz := true } } }
    cool.bit (R.GDP_LEG_ST 0) F.GDP_LEG_ST_COOL = true ∧ (cool.leg 0).group = false ∧ cool.sourceActive 0 = false
      ∧ still.bit (R.GDP_LEG_ST 0) F.GDP_LEG_ST_COOL = true ∧ (still.leg 0).group = false ∧ still.sourceActive 0 = true
      ∧ w.bit (R.GDP_LEG_ST 41) F.GDP_LEG_ST_WATCH = true ∧ (w.leg 41).group = false ∧ 41 < (42#6).toNat ∧ ¬ 41 < (41#6).toNat
      ∧ (part .ixl4830).legPresent 6 = false ∧ (locked idle).mod.lock = .inForce ∧ (inMode .drive).mode ≠ .service
      ∧ (inMode .drive).legModePermits 0 = true ∧ hiz.legClearStatus 0 = .ok ∧ (hiz.leg 0).hiz = true
      ∧ ({ idle with gdp := { idle.gdp with dip := true } } : State).gdp.dip = true ∧ idle.up = true := by
  decide +kernel

theorem witness_TableDriveDecides :
    let on (c : TdChan) : State := { inMode .drive with tdu := idle.tdu.set 0 c }
    let table := on { TdChan.reset with op := .table, deciding := true, next := some 0 }
    let table := { legs { Leg.reset with td := true, perm := true } with tdu := table.tdu }
    let ticked := on { TdChan.reset with op := .table, ticked := true }
    (inMode .drive).up = true ∧ (part .ixl4830).hasB = false ∧ (idle.tdu[0]).op = .off
      ∧ ((on { TdChan.reset with op := .modulated, ticked := true }).tdu[0]).op ≠ .off
      ∧ ((on { TdChan.reset with op := .modulated, ticked := true }).tdu[0]).ticked = true
      ∧ (table.tdu[0]).deciding = true ∧ (table.tdu[0]).op = .table ∧ (table.tdu[0]).next = some 0
      ∧ (table.tdu[0]).dwell = 0 ∧ table.legRow 0 = .table ∧ (table.leg 0).resume = false ∧ (0x040#12).getLsbD 6 = true
      ∧ ((0x001#12).getLsbD 6 = false ∧ (0x001#12).getLsbD 0 = true) ∧ kvGet [(3, 5)] 3 = some 5
      ∧ (ticked.tdu[0]).op = .table ∧ (ticked.tdu[0]).ticked = true
      ∧ (∀ k, k < 7 → ∀ e, e < 72 → (ticked.tableWord (ticked.fld (R.TDU_TBASE 0) F.TDU_TBASE_TBASE + 36 * k + e / 2)).extractLsb'
          (16 * (e % 2)) 16 = 0)
      ∧ (0#12).getLsbD 6 = false ∧ (0#12).getLsbD 0 = false := by
  decide +kernel

/-- A module in FIELD whose drive `d` stands in the state of code `c`, its stages enabled. -/
def driveIn (d : Fin 5) (c : Nat) (x : ActDrive) : State :=
  let s := ((inMode .field).setFld (R.ACT_D_ST d.val) F.ACT_D_ST_STATE c).setFld (R.ACT_D_ICH d.val) F.ACT_D_ICH_PCH 0
  { s with gdp := { s.gdp with en := 0x3FF }, act := { s.act with drive := s.act.drive.set d x } }

theorem witness_ActuatorsTakeCommands :
    let s := driveIn 0 0 ActDrive.reset
    let fault := (driveIn 0 7 ActDrive.reset).setFld (R.ACT_D_ST 0) F.ACT_D_ST_LASTING 1
    let quick := (((driveIn 1 0 ActDrive.reset).setReg R.POS_GSPD 5).setReg R.ACT_PARKSPD 5).setFld (R.ACT_D_CFG 1) F.ACT_D_CFG_PAR 0
    let quick := quick.setWord (0x22000000 + 4 * 14) 0x04000000
    let sync := (idle.setFld R.ACT_SYNC F.ACT_SYNC_EN 1).setFld (R.CLE_SL_CFG (idle.syncSlot 0)) F.CLE_SL_CFG_LAW 1
    s.up = true ∧ s.actBlocked 0 = false ∧ (driveIn 0 0 ActDrive.reset).quiet = false ∧ s.bit R.ENP_SBCFG F.ENP_SBCFG_EN = false
      ∧ fault.actState 0 = 7 ∧ fault.bit (R.ACT_D_ST 0) F.ACT_D_ST_LASTING = true ∧ s.bit (R.ACT_D_ST 0) F.ACT_D_ST_LASTING = false
      ∧ idle.permits (actFunc 0) = false ∧ s.permits (actFunc 0) = true ∧ (s.actCode 0).2 = true
      ∧ ((driveIn 0 0 ActDrive.reset).setFld (R.ACT_D_ICH 0) F.ACT_D_ICH_PCH 63 |>.actCode 0).2 = false
      ∧ s.actState 0 = 0 ∧ (driveIn 0 6 ActDrive.reset).actState 0 = 6 ∧ (driveIn 0 3 ActDrive.reset).actState 0 ∈ [1, 2, 3]
      ∧ (Word.field 31 30 1 ||| Word.field 2 0 7) ≠ (driveIn 0 3 ActDrive.reset).reg (R.ACT_D_CMD 0)
      ∧ (driveIn 0 5 ActDrive.reset).actState 0 ∈ [4, 5] ∧ quick.permits .parkLock = true ∧ quick.targetKind 1 0 = 4
      ∧ (quick.actCode 1).2 = true ∧ quick.nreg R.ACT_PARKSPD ≤ (quick.sreg R.POS_GSPD).natAbs ∧ (part .ixl4830).hasB = false
      ∧ sync.bit R.ACT_SYNC F.ACT_SYNC_EN = true ∧ sync.fld (R.CLE_SL_CFG (sync.syncSlot 0)) F.CLE_SL_CFG_LAW ≠ 0 := by
  decide +kernel

theorem witness_ActuatorsStartAndRetry :
    let probing (n k : Nat) := driveIn 4 2 { ActDrive.reset with m := List.replicate n 1, taken := k }
    let auto := (driveIn 0 6 ActDrive.reset).setFld (R.ACT_D_CFG 0) F.ACT_D_CFG_AUTO 1
    (probing 0 0).actState 4 = 2 ∧ ((probing 0 0).drive 4).taken = 0 ∧ ((probing 10 1).drive 4).taken ≠ 0
      ∧ (probing 10 1).actState 4 = 2 ∧ ((probing 10 1).drive 4).m.length < 11 ∧ 11 ≤ ((probing 11 1).drive 4).m.length
      ∧ 41 ∈ actLegs (4 : Fin 5).val ∧ (probing 11 1).actState 4 = 2 ∧ (driveIn 0 3 ActDrive.reset).actState 0 = 3
      ∧ ¬ (driveIn 0 3 ActDrive.reset).fld (R.ACT_D_CFG 0) F.ACT_D_CFG_ANG ≠ 0
      ∧ ((driveIn 0 3 ActDrive.reset).setFld (R.ACT_D_CFG 0) F.ACT_D_CFG_ANG 1).fld (R.ACT_D_CFG 0) F.ACT_D_CFG_ANG ≠ 0
      ∧ (driveIn 0 4 ActDrive.reset).actState 0 ∈ [3, 4, 5] ∧ auto.actState 0 = 6 ∧ auto.actCfg 0 F.ACT_D_CFG_AUTO = true
      ∧ auto.actBlocked 0 = false ∧ auto.quiet = false ∧ auto.bit R.ENP_SBCFG F.ENP_SBCFG_EN = false
      ∧ idle.actDriving 0 = false := by
  decide +kernel

/-- The energy path of a module in CHARGE in state `p`. -/
def path (p : EnpPhase) : State := { inMode .charge with enp := { EnpState.reset with phase := p } }

theorem witness_EnergyPathTakesCommands :
    let tool := (inMode .supply).setFld R.ENP_CFG F.ENP_CFG_EXTOOL 1
    (part .ixl4810).hasCharger = false ∧ (path .idle).hasCharger = true ∧ (locked (path .idle)).mod.lock = .inForce
      ∧ (inMode .drive).mode ≠ .charge ∧ (inMode .drive).mode ≠ .supply ∧ (path .idle).mode = .charge ∧ (path .idle).pendTarget = none
      ∧ (path .halted).enp.phase = .halted ∧ (inMode .supply).mode = .supply
      ∧ (inMode .supply).bit R.ENP_CFG F.ENP_CFG_EXTOOL = false ∧ tool.bit R.ENP_CFG F.ENP_CFG_EXTOOL = true
      ∧ tool.enp.asked = false ∧ tool.quiet = false ∧ tool.bit R.ENP_SBCFG F.ENP_SBCFG_EN = false
      ∧ (path .fault).enp.phase = .fault ∧ (path .hinge).enp.phase = .hinge ∧ ({ path .close with enp := { (path .close).enp with confirmed := none } } : State).enpSafe = false ∧ (path .mains).enpSafe = true
      ∧ (path .qualify).enpSafe = true ∧ (path .run).enp.phase = .run := by
  decide +kernel

theorem witness_EnergyPathWatches :
    let ex := { inMode .supply with enp := { EnpState.reset with phase := .expWait, exporting := true } }
    let out (p : EnpPhase) (pilot : Nat) : State :=
      { inMode .supply with enp := { EnpState.reset with phase := p, exporting := true, pilot := pilot } }
    let at' (s : State) (up : BitVec 9) : State := after (exec (.pilotStateChange 1000 500 up 392) s)
    let asks := { path .mains with enp := { (path .mains).enp with asked := true } }
    let shown (hz : BitVec 16) (duty : BitVec 10) (up : BitVec 9) : State :=
      after (exec (.pilotStateChange hz duty up 392) (path .run))
    let gone := { (path .run).setFld R.ENP_MAINS F.ENP_MAINS_VMIN 100 with
      enp := { (path .run).enp with used := 1, miss := #v[1, 0, 0], count := #v[2, 0, 0], sumsq := #v[18, 0, 0] } }
    ((path .idle).hasCharger = true ∧ (path .idle).up = true) ∧ (part .ixl4810).hasCharger = false ∧ (path .run).enp.exporting = false
      ∧ (900 ≤ (900#16).toNat ∧ (1100#16).toNat ≤ 1100) ∧ (407#9).toInt ≤ -105 ∧ -105 < (408#9).toInt ∧ (0#16) = 0
      ∧ (105 ≤ (105#9).toInt ∧ (135#9).toInt < 136) ∧ (45 ≤ (45#9).toInt ∧ (74#9).toInt < 75) ∧ (15 ≤ (15#9).toInt ∧ (44#9).toInt < 45)
      ∧ (shown 1000 267 90).fld R.ENP_SRCST F.ENP_SRCST_PSTATE = 1 ∧ (shown 1000 267 60).fld R.ENP_SRCST F.ENP_SRCST_PSTATE = 2
      ∧ (shown 1000 267 30).fld R.ENP_SRCST F.ENP_SRCST_PSTATE = 3 ∧ (shown 1000 267 120).fld R.ENP_SRCST F.ENP_SRCST_PSTATE = 0
      ∧ (shown 1000 267 60).fld R.ENP_SRCST F.ENP_SRCST_PL ≠ (path .run).fld R.ENP_SRCST F.ENP_SRCST_PL
      ∧ (path .hinge).fld R.ENP_SRCST F.ENP_SRCST_PSTATE ≠ 1 ∧ (path .hinge).fld R.ENP_SRCST F.ENP_SRCST_PSTATE ≠ 2
      ∧ (path .hinge).enpConn = false
      ∧ (gone.enp.used.getLsbD 0 = true ∧ gone.fld R.ENP_MAINS F.ENP_MAINS_VMIN = 100 ∧ 2 ≤ gone.enp.miss[0] + 1)
      ∧ (1#3).getLsbD 0 = true ∧ gone.enp.exporting = false ∧ 0 < gone.enp.count[0] ∧ gone.enp.sumsq[0] / gone.enp.count[0] < 2 ^ 60
      ∧ 30 ≤ (30#10).toNat ∧ (79#10).toNat < 80 ∧ (path .detect).enp.phase = .detect
      ∧ (path .qualify).enp.phase = .qualify ∧ (path .close).enp.phase ∈ [.precharge, .close] ∧ asks.enp.asked = true
      ∧ (path .hinge).enp.phase = .hinge ∧ ex.enp.exporting = true ∧ ex.bit R.ENP_CFG F.ENP_CFG_EXTOOL = false
      ∧ ex.enp.asked = false ∧ ex.quiet = false ∧ ex.bit R.ENP_SBCFG F.ENP_SBCFG_EN = false
      ∧ (out .expWait 2).enp.pilot = 2 ∧ (out .expWait 1).enp.pilot ≠ 2 ∧ (out .expWait 2).up = true
      ∧ (at' (out .expWait 2) 60).fld R.ENP_SRCST F.ENP_SRCST_PSTATE = 2 ∧ (at' (out .expRun 2) 90).fld R.ENP_SRCST F.ENP_SRCST_PSTATE = 1
      ∧ (at' (out .close 2) 30).fld R.ENP_SRCST F.ENP_SRCST_PSTATE = 3 ∧ (at' (out .expRun 2) 120).fld R.ENP_SRCST F.ENP_SRCST_PSTATE = 0
      ∧ (out .hinge 2).enp.phase = .hinge ∧ (path .hinge).fld R.ENP_MAINSST F.ENP_MAINSST_PRES = 0 ∧ (path .precharge).enp.pause = false
      ∧ (74#16).toNat < 75 ∧ 1000 ≤ (2700#16).toNat ∧ (2700#16).toNat ≤ 2700 := by
  decide +kernel

theorem witness_EnergyPathStartSteps :
    let s := ((path .mains).setFld R.ENP_MAINSST F.ENP_MAINSST_PRES 1).setFld R.ENP_MAINSST F.ENP_MAINSST_FREQ 450
    let fed := (path .close).setFld R.ENP_RLY F.ENP_RLY_FBEN 1
    let twice := { fed with enp := { fed.enp with relayFailed := true, confirmed := none } }
    let src := s.setWord 0x22000000 0x00008000
    let live := (src.setFld R.ENP_BMSST F.ENP_BMSST_STATE 1).setFld R.ENP_BMSST F.ENP_BMSST_CONT 1
    let close := { path .close with enp := { (path .close).enp with relay := true, confirmed := none } }
    let sent := { close with mod := (inMode .supply).mod, enp := { close.enp with exporting := true } }
    let lost := sent.setFld R.ENP_BMSST F.ENP_BMSST_STATE 3
    let stops := { sent with enp := { sent.enp with bmsSeq := some 0 } }
    let opening := { path .hinge with enp := { (path .hinge).enp with hinge := 5, confirmed := none } }
    let live2 := (close.setFld R.ENP_BMSST F.ENP_BMSST_STATE 1).setFld R.ENP_BMSST F.ENP_BMSST_CONT 1
    (s.fld R.ENP_MAINSST F.ENP_MAINSST_PRES ≠ 0 ∧ 450 ≤ s.fld R.ENP_MAINSST F.ENP_MAINSST_FREQ
        ∧ s.fld R.ENP_MAINSST F.ENP_MAINSST_FREQ ≤ 650) ∧ (path .mains).fld R.ENP_MAINSST F.ENP_MAINSST_PRES = 0
      ∧ fed.bit R.ENP_RLY F.ENP_RLY_FBEN = true ∧ close.bit R.ENP_RLY F.ENP_RLY_FBEN = false
      ∧ (true != fed.bit R.ENP_RLY F.ENP_RLY_FBPOL) = true ∧ twice.enp.relayFailed = true ∧ twice.enp.confirmed = none
      ∧ (s.hasCharger = true ∧ s.up = true) ∧ (path .qualify).enp.phase = .qualify ∧ s.enp.pause = false ∧ s.enp.asked = false
      ∧ s.fld R.ENP_SRCTAB F.ENP_SRCTAB_TBASE + 32 * 0 + 4 * s.fld R.ENP_SRCST F.ENP_SRCST_PX + s.fld R.ENP_SRCST F.ENP_SRCST_PL = 0
      ∧ (s.tableWord 0).bit 15 = false ∧ (src.tableWord 0).bit 15 = true ∧ src.bit R.ENP_CFG F.ENP_CFG_BHOLD = false
      ∧ live.fld R.ENP_BMSST F.ENP_BMSST_STATE = 1 ∧ live.bit R.ENP_BMSST F.ENP_BMSST_CONT = true ∧ live.quiet = false
      ∧ live.bit R.ENP_SBCFG F.ENP_SBCFG_EN = false
      ∧ close.enp.relay = true ∧ close.enp.confirmed = none ∧ close.enp.exporting = false ∧ close.enp.toHold = false
      ∧ live2.fld R.ENP_BMSST F.ENP_BMSST_STATE = 1 ∧ live2.bit R.ENP_BMSST F.ENP_BMSST_CONT = true ∧ close.enp.relayFailed = false
      ∧ opening.enp.relay = false ∧ opening.enp.hinge = 5 ∧ opening.enp.ending.cause < 16 ∧ opening.enp.phase ≠ .close
      ∧ (path .precharge).enp.pause = false ∧ (path .precharge).enp.linkFailed = false
      ∧ sent.enp.exporting = true ∧ sent.enp.bmsSeq = none ∧ sent.fld R.ENP_BMSST F.ENP_BMSST_STATE ≠ 3 ∧ sent.enp.removal = false
      ∧ lost.fld R.ENP_BMSST F.ENP_BMSST_STATE = 3 ∧ lost.enp.phase = .close ∧ lost.enp.relay = true ∧ lost.enp.exporting = true
      ∧ (stops.enp.bmsSeq ≠ none ∧ stops.bit R.ENP_BMSST F.ENP_BMSST_CONT = false)
      ∧ ({ close with enp := { close.enp with toHold := true } } : State).enp.toHold = true
      ∧ (path .mains).enp.mainsFailed = false ∧ ({ s with enp := { s.enp with mainsFailed := true } } : State).enp.mainsFailed = true
      ∧ ({ fed with enp := { fed.enp with linkFailed := true } } : State).enp.linkFailed = true
      ∧ ({ s with enp := { s.enp with pause := true } } : State).enp.pause = true := by
  decide +kernel

theorem witness_EnergyPathEnds :
    let heard := { path .run with enp := { (path .run).enp with bmsSeq := some 15 } }
    let removed := { path .run with enp := { (path .run).enp with removal := true } }
    let limit := (path .run).setFld R.ENP_LIM1 F.ENP_LIM1_IREF 32
    let stopping := { path .run with enp := { (path .run).enp with stopping := true } }
    let low := { limit.setFld R.ENP_MAINS F.ENP_MAINS_ICOL 1 with enp := { limit.enp with used := 7 } }
    let out (p : EnpPhase) : State := { inMode .supply with enp := { EnpState.reset with phase := p, exporting := true } }
    let tool := (out .holdOff).setFld R.ENP_CFG F.ENP_CFG_EXTOOL 1
    let much := (path .expRun).setFld R.ENP_EXPST F.ENP_EXPST_IOUT 1
    (∀ i : Fin 3, low.enp.used.getLsbD i.val = true ∧ low.enp.rms[i] < low.fld R.ENP_MAINS F.ENP_MAINS_ICOL)
      ∧ (path .run).fld R.ENP_LIM0 F.ENP_LIM0_PILOT = 0 ∧ 11 * much.enp.adv < 10 * much.fld R.ENP_EXPST F.ENP_EXPST_IOUT
      ∧ (part .ixl4810).hasCharger = false ∧ ((path .run).hasCharger = true ∧ (path .run).up = true) ∧ heard.enp.bmsSeq = some ((0x0F : BitVec 7).toNat % 16)
      ∧ heard.enp.bmsSeq ≠ some ((0 : BitVec 7).toNat % 16) ∧ ((15 : Nat) + 1) % 16 = 0 ∧ (path .run).enp.removal = false
      ∧ (0 : BitVec 7).getLsbD 4 = false ∧ (0x10 : BitVec 7).getLsbD 4 = true ∧ (path .run).fld R.ENP_BMSST F.ENP_BMSST_STATE ≠ 3
      ∧ ((path .run).setFld R.ENP_BMSST F.ENP_BMSST_STATE 1).fld R.ENP_BMSST F.ENP_BMSST_STATE = 1
      ∧ ((path .run).setFld R.ENP_BMSST F.ENP_BMSST_STATE 2).fld R.ENP_BMSST F.ENP_BMSST_STATE = 2
      ∧ removed.enp.removal = true ∧ removed.enp.phase = .run ∧ (path .holdOff).enp.phase = .holdOff ∧ limit.enp.phase ∈ [.run, .busHold]
      ∧ (out .holdOff).enp.exporting = true ∧ (out .holdOff).enp.phase = .holdOff ∧ (path .hinge).enp.ending.cause < 7
      ∧ (path .hinge).enp.removal = false ∧ 9 < ({ (path .hinge).enp.ending with cause := 10 }).cause
      ∧ (out .holdOff).bit R.ENP_CFG F.ENP_CFG_EXTOOL = false ∧ tool.bit R.ENP_CFG F.ENP_CFG_EXTOOL = true ∧ tool.enp.asked = false
      ∧ tool.quiet = false ∧ tool.bit R.ENP_SBCFG F.ENP_SBCFG_EN = false
      ∧ 32 ≤ limit.fld R.ENP_LIM1 F.ENP_LIM1_IREF ∧ stopping.enp.stopping = true ∧ (path .expRun).enp.phase = .expRun := by
  decide +kernel

theorem witness_StartBudgetGrants :
    let s := (idle.setFld R.ENP_SBCFG F.ENP_SBCFG_EN 1).setFld R.ENP_SBCFG F.ENP_SBCFG_CAP 5
    let priced := s.setWord 0x22000000 5
    let dear := s.setWord 0x22000000 6
    let q : BudgetReq := ⟨0, 0, 5, 0, 7, false⟩
    let waits := { s with budget := { s.budget with queue := [q] } }
    let full := { waits with budget := { waits.budget with tokens := 256000 * 5 } }
    let sent := { idle with budget := { idle.budget with sent := [(8, 0)] } }
    let quietly := (idle.setFld R.TWN_ST F.TWN_ST_STATE 2)
    s.bit R.ENP_SBCFG F.ENP_SBCFG_EN = true ∧ idle.budget.queue = [] ∧ full.budget.queue = [q]
      ∧ ¬ (256000 * 5 < 256000 * q.cost) ∧ waits.budget.tokens + (waits.reg R.ENP_SBRATE).bits 15 0 < 256000 * q.cost
      ∧ (waits.budget.queue.find? fun q => q.port == 0 && q.wait != 0) = some q
      ∧ (waits.budget.queue.find? fun q => q.port == 11 && q.wait != 0) = none ∧ State.reset.up = false
      ∧ priced.fld R.ENP_SBCFG F.ENP_SBCFG_CBASE = 0 ∧ (priced.costWord 0).bits 15 0 = 5 ∧ priced.fld R.ENP_SBCFG F.ENP_SBCFG_CAP = 5
      ∧ dear.fld R.ENP_SBCFG F.ENP_SBCFG_CAP < (dear.costWord 0).bits 15 0 ∧ idle.up = true ∧ sent.budgetWaits 8 = true
      ∧ quietly.quiet = true ∧ (8, 0) ∈ sent.budget.sent ∧ (8, 1) ∉ sent.budget.sent := by
  decide +kernel

theorem witness_AuxiliaryConverterCommands :
    (locked idle).mod.lock = .inForce ∧ idle.modePermits .aux = false ∧ (inMode .drive).modePermits .aux = true
      ∧ (inMode .drive).up = true ∧ State.reset.up = false ∧ (inMode .drive).mode ≠ .service ∧ (inMode .drive).aux.run = .stopped ∧ (inMode .drive).quiet = false
      ∧ (inMode .drive).bit R.ENP_SBCFG F.ENP_SBCFG_EN = false ∧ (inMode .drive).gdp.en.getLsbD 2 = false
      ∧ ({ inMode .drive with gdp := { (inMode .drive).gdp with en := 4 } }).gdp.en.getLsbD 2 = true := by
  decide +kernel

theorem witness_ThermalUpdateMoves :
    let s := idle.setFld R.SYS_THCFG F.SYS_THCFG_EN 1
    let far := ((List.range 6).foldl (fun s q => s.setWord (0x22000000 + 4 * (8 * q + 6)) 0x06E008C0) s).setWord
      (0x22000000 + 4 * (8 * 42 + 6)) 0x06E008C0
    s.mode ≠ .off ∧ s.thOn = true ∧ idle.thOn = false ∧ s.nodePresent 44 = true ∧ (part .ixl4830).nodePresent 6 = false
      ∧ (s.thWord 0 0).bits 5 0 ≠ 63 ∧ ((s.setWord 0x22000000 63).thWord 0 0).bits 5 0 = 63 ∧ far.thWarn 0 < far.thTrip 0
      ∧ (∀ q, q < 6 → far.thWarn q < far.thTrip q) ∧ far.thWarn 42 < far.thTrip 42
      ∧ (∀ q ∈ [0, 1, 2, 3, 4, 5, 42], far.thWarn q < far.thTrip q) ∧ s.legPresent 5 = true ∧ s.th.on = false
      ∧ ({ s with th := { s.th with on := true } } : State).th.on = true := by
  decide +kernel

theorem witness_PairFormsOnItsLanes :
    let s := (linked 1).setFld R.TWN_CFG F.TWN_CFG_LANES 15
    let up := s.setFld R.TWN_LANE F.TWN_LANE_UP 1
    let failed := { s with twn := { s.twn with failed := s.twn.failed.set 3 (some 0) } }
    let down := s.setFld R.TWN_LANE F.TWN_LANE_DOWN 8
    let far := { up with twn := { up.twn with heard := some ⟨4, none, none, none, 0, 5, 0, true, true, false, 0⟩ } }
    (part .ixl4830).hasPairs = false ∧ s.hasPairs = true ∧ s.twnOn = true ∧ (s.fld R.TWN_CFG F.TWN_CFG_LANES).testBit 3 = true ∧ (s.fld R.TWN_LANE F.TWN_LANE_DOWN).testBit 3 = false
      ∧ failed.twn.failed[3] = some 0 ∧ (failed.reg R.NET_TIME - 0).toInt ≤ 1000000 ∧ s.twn.failed[0] = none ∧ s.up = true
      ∧ up.twnPhase = 1 ∧ up.fld R.TWN_LANE F.TWN_LANE_UP ≠ 0 ∧ up.saf.puid0 = 7 ∧ up.saf.role = 1 ∧ up.twn.heard = none
      ∧ up.mode ≠ .lockout ∧ up.mode ≠ .commission ∧ s.quiet = false ∧ (linked 2).quiet = true ∧ (linked 2).twnPhase = 2
      ∧ (down.fld R.TWN_LANE F.TWN_LANE_DOWN).testBit 3 = true ∧ (linked 2).twn.stepped = false
      ∧ ({ linked 2 with twn := { (linked 2).twn with stepped := true } } : State).twn.stepped = true
      ∧ (linked 5).twnPhase = 5 ∧ (far.twn.heard.any fun h => h.acting) = true ∧ far.locking = false ∧ far.mode.code ≠ 4
      ∧ (∀ h, far.twn.heard = some h → h.mode.toNat = 4) ∧ ({ far with saf := { far.saf with role := 2 } } : State).saf.role = 2
      ∧ ¬ (0xFFFFFFFF - 0 : Word).toNat ≤ 1000000 := by
  decide +kernel

theorem witness_PairExchangesEachSample :
    let s := linked 4
    let lead := s.setFld R.TWN_ST F.TWN_ST_ACTLEAD 1
    let late := { s with twn := { s.twn with missed := 2 } }
    let asked := { s with twn := { s.twn with forwarded := some (.host, 5, 0) } }
    let warm := (linked 2).setFld R.TWN_ST F.TWN_ST_ACTLEAD 1
    let owed := { s.setFld (R.ACT_D_ICH 0) F.ACT_D_ICH_PCH 47 with twn := { s.twn with owed := true } }
    let window := { s with twn := { s.twn with sigWait := true, sigAgain := true, sigBad := 1 } }
    s.twnOn = true ∧ idle.twnOn = false ∧ s.paired = true ∧ (linked 1).paired = false ∧ s.twn.missed < 2 ∧ 2 ≤ late.twn.missed
      ∧ s.quiet = true ∧ asked.twn.forwarded = some (.host, 5, 0) ∧ lead.quiet = false ∧ (3#4) ≠ 11 ∧ lead.mod.trans = none
      ∧ window.twn.sigWait = true ∧ (0#16).toNat = window.fld R.TWN_SIGST F.TWN_SIGST_WIN ∧ window.reg R.TWN_SIG = 0
      ∧ (1 : Word) ≠ window.reg R.TWN_SIG ∧ window.twn.sigAgain = true ∧ 1 ≤ window.twn.sigBad ∧ s.twn.sigAgain = false
      ∧ (warm.twnPhase = 2 ∧ warm.actLead = true ∧ warm.bit R.MOD_DEG F.MOD_DEG_PARTNER = false) ∧ s.twn.sigWait = false
      ∧ s.twn.owed = false ∧ owed.twn.owed = true ∧ owed.fld (R.ACT_D_ICH 0) F.ACT_D_ICH_PCH < 48
      ∧ (late.saf.role = 1 ∧ ({ late with saf := { late.saf with role := 2 } } : State).saf.role = 2)
      ∧ (late.setFld R.NET_TM F.NET_TM_ROLE 2).fld R.NET_TM F.NET_TM_ROLE = 2
      ∧ lead.judged 3 = none ∧ lead.judged 15 = some .outOfRange ∧ s.agreePolicy 0 = 0
      ∧ (∀ k : Fin 5, 0 < k.val → (s.setFld (R.TWN_APOL 0) ⟨2, 0⟩ k.val).agreePolicy 0 = k.val) ∧ (s.agreeOwn 0).flagged = false
      ∧ ((s.setFld (R.ACQ_CH_ST 0) F.ACQ_CH_ST_INVALID 1).agreeOwn 0).flagged = true := by
  decide +kernel

theorem witness_SnapshotsMirrorTheLead :
    let lead := ((linked 4).setFld R.TWN_ST F.TWN_ST_ACTLEAD 1).setFld R.TWN_LANE F.TWN_LANE_UP 15
    let fits := (lead.setFld R.TWN_MWIN F.TWN_MWIN_OPEN 0).setFld R.TWN_MWIN F.TWN_MWIN_CLOSE 40
    let none' := (lead.setFld R.TWN_MWIN F.TWN_MWIN_OPEN 0).setFld R.TWN_MWIN F.TWN_MWIN_CLOSE 0
    let whole := { linked 4 with twn := { (linked 4).twn with got := List.range 25 } }
    (linked 4).twnOn = true ∧ (linked 4).paired = true ∧ (linked 4).quiet = true ∧ lead.quiet = false ∧ fits.snapFits 0 = true
      ∧ none'.snapFits 0 = false ∧ lead.twn.size = 0 ∧ whole.twn.got.contains 0 = true ∧ whole.twn.broken = false
      ∧ (inMode .lockout).mode = .lockout ∧ fits.snapFits 1 = true ∧ fits.snapSessions.length = 0 ∧ fits.mode ≠ .lockout
      ∧ (6335 : Nat) < 6336 + 64 * 0 ∧ (whole.word 0x2400800C).toNat = 0 ∧ (∀ k, k < (6336 + 255) / 256 → whole.twn.got.contains k = true) := by
  decide +kernel

theorem witness_SafetyInputsAndOutputs :
    let open' := { idle with saf := { idle.saf with tumble := idle.saf.tumble.set 15 [⟨true, true⟩, ⟨false, false⟩] } }
    let stop := { idle with saf := { idle.saf with stop := some ⟨none, 0x1FF, some (5, 0), 0, []⟩ } }
    let used := { idle with saf := { idle.saf with block := [(0x140, 1), (0x141, 1)], out := idle.saf.out.set 0 .on } }
    let rising := { used with saf := { used.saf with out := used.saf.out.set 0 .rising } }
    let held := { used with saf := { used.saf with out := used.saf.out.set 0 .lowHeld } }
    idle.safOn = true ∧ idle.saf.block.inType 15 = 1 ∧ idle.saf.block.inType 0 = 0 ∧ idle.saf.tumble[15] = []
      ∧ (idle.reg R.SAF_INLVL).bit 15 ≠ true ∧ (idle.reg R.SAF_INLVL).bit 31 ≠ true ∧ (true == (idle.saf.block.inType 15 == 1)) = true
      ∧ open'.saf.tumble[15] = [⟨true, true⟩, ⟨false, false⟩] ∧ ⟨!true, false⟩ ∈ open'.saf.tumble[15] ∧
      ⟨!true, true⟩ ∉ open'.saf.tumble[15] ∧ held.saf.out[0] = .lowHeld ∧ used.saf.block.outUse 0 = true ∧ used.saf.block.outOffp 0 = true
      ∧ used.saf.out[0] = .on ∧ rising.saf.out[0] ∈ [OutPhase.lowOn, .rising, .unproved, .falling] ∧ stop.saf.stop = some ⟨none, 0x1FF, some (5, 0), 0, []⟩ ∧ (0 : Word) ≠ 1 ∧ idle.saf.sigBad = 0 := by
  decide +kernel

theorem witness_SafetyScanActs :
    let fn := { (inMode .drive).setReg R.SAF_FUNC 0 with saf := { idle.saf with block := [(0x180, 1), (0x181, 1), (0x182, 1), (0x183, 15)], demand := 0x8000 } }
    let used := { idle with saf := { idle.saf with block := [(0x178, 1)] } }
    let latched := fn.setFld R.SAF_FUNC ⟨1, 0⟩ 2
    let slow := { fn with saf := { fn.saf with invalid := true, disagree := 65535 } }
    let gone := (locked idle).setFld R.MOD_LOCKCAUSE F.MOD_LOCKCAUSE_LATCHED 1
    fn.safOn = true ∧ fn.saf.block.fnKind 0 = 1 ∧ fn.fnState 0 = 0 ∧ fn.saf.block.fnIn1 0 < 16 ∧ fn.saf.demand.getLsbD 15 = true
      ∧ fn.saf.block.fnReact 0 = 1 ∧ fn.saf.block.fnManrst 0 = true ∧ idle.saf.block.fnKind 15 = 0 ∧ used.saf.block.outUse 7 = true
      ∧ idle.saf.block.rstHold * 100 ≤ 500 ∧ ¬ idle.saf.block.rstHold * 100 ≤ 499 ∧ (10000 : Nat) ≤ 10000
      ∧ gone.bit R.MOD_LOCKCAUSE F.MOD_LOCKCAUSE_LATCHED = true ∧ gone.causesGone true true = true ∧ gone.clk.fault = false
      ∧ gone.saf.flash.bad gone.variant.part.code = none ∧ gone.saf.flashKey = gone.saf.flash.key
      ∧ latched.fnState 0 = 2 ∧ idle.saf.out[7] = .off ∧ (0x80#8).getLsbD 7 = true ∧ (1#4).getLsbD 0 = true
      ∧ (idle.reg R.SAF_EN).bit 0 = false ∧ fn.safeSpeed < 1 ∧ ¬ fn.saf.block.vRoad < fn.safeSpeed
      ∧ (fn.saf.stop = none ∧ fn.mod.lock ≠ .inForce ∧ fn.enablePermitted fn.mode 0 = true) ∧ fn.saf.withheld = 0
      ∧ idle.enablePermitted .idle 0 = false ∧ slow.saf.invalid = true ∧ slow.saf.block.tDisc ≤ slow.saf.disagree
      ∧ (locked idle).mod.lock = .inForce ∧ State.reset.up = false
      ∧ (latched.saf.demand.getLsbD 14 = false ∧ latched.saf.fresh.getLsbD 0 = false) := by
  decide +kernel

theorem witness_SafetyBlockIsCommissioned :
    let c := inMode .commission
    let l := locked (c.setFld R.MOD_LOCKCAUSE F.MOD_LOCKCAUSE_ALL 64)
    let clash := { c with saf := { c.saf with cargBy := some .core0 } }
    let loading := { c with saf := { c.saf with loading := some 0 } }
    let loaded := { c with saf := { c.saf with loaded := some [], presence := true } }
    (locked c).mod.lock = .inForce ∧ (locked c).fld R.MOD_LOCKCAUSE F.MOD_LOCKCAUSE_ALL ≠ 64
      ∧ l.fld R.MOD_LOCKCAUSE F.MOD_LOCKCAUSE_ALL = 64 ∧ idle.mode ≠ .commission ∧ idle.mode ≠ .lockout ∧ c.mod.lock ≠ .inForce
      ∧ c.nreg R.SAF_CARG % 4 = 0 ∧ ¬ 0x100000 < c.nreg R.SAF_CARG + 2048 ∧ (c.setReg R.SAF_CARG 1).nreg R.SAF_CARG % 4 ≠ 0
      ∧ 0x100000 < (c.setReg R.SAF_CARG 0xFF804).nreg R.SAF_CARG + 2048 ∧ c.saf.loading = none ∧ loading.saf.loading ≠ none
      ∧ c.safOn = true ∧ c.saf.loaded = none ∧ loaded.saf.loaded = some [] ∧ ¬ 600000 < loaded.saf.sinceLoad
      ∧ loaded.saf.presence = true ∧ clash.saf.cargBy = some .core0 ∧ Master.core0 ≠ Master.host ∧ c.saf.cargBy = none
      ∧ 600000 < ({ loaded with saf := { loaded.saf with sinceLoad := 600001 } } : State).saf.sinceLoad
      ∧ (loaded.setReg R.SAF_CARG (SafBlock.key [])).reg R.SAF_CARG = SafBlock.key []
      ∧ (loaded.setReg R.SAF_CARG (SafBlock.key [] + 1)).reg R.SAF_CARG ≠ SafBlock.key []
      ∧ (inMode .off).safOn = false
      ∧ (SafBlock.ofBytes (c.bytes 0x20000000 2048)).bad c.variant.part.code ≠ none := by
  decide +kernel

theorem witness_EventsReachTheCores :
    let s := (idle.setReg (R.EVT_SRC_CFG 255) 0x80000002).setReg (R.EVT_SRC_CFG 9) 0x80000002
    let s := { s with evt := { s.evt with pend := BitVec.ofNat 256 (2 ^ 255 + 2 ^ 9), core0 := { Core.reset with released := true } } }
    let boot := idle.setFld R.HPT_BOOTCTL F.HPT_BOOTCTL_BOOTSEL 1
    let nested := { s with evt := { s.evt with core0 := { Core.reset with released := true, active := some 9, depth := 1 } } }
    s.mode ≠ .off ∧ (s.core 0).released = true ∧ (s.core 0).halted = false ∧ (s.core 0).active = none
      ∧ s.evt.pend.getLsbD 9 = true ∧ s.bit (R.EVT_SRC_CFG 9) F.EVT_SRC_CFG_EN = true
      ∧ s.fld (R.EVT_SRC_CFG 9) F.EVT_SRC_CFG_CORE = 0 ∧ s.evt.hold.getLsbD 0 = false
      ∧ s.fld (R.EVT_SRC_CFG 9) F.EVT_SRC_CFG_PRIO = s.fld (R.EVT_SRC_CFG 255) F.EVT_SRC_CFG_PRIO
      ∧ idle.fld R.HPT_BOOTCTL F.HPT_BOOTCTL_BOOTSEL ≠ 1 ∧ boot.fld R.HPT_BOOTCTL F.HPT_BOOTCTL_BOOTSEL = 1
      ∧ (boot.core 1).released = false ∧ (nested.core 0).active = some 9 ∧ 0 < (nested.core 0).depth := by
  decide +kernel

theorem witness_FlashRunsItsOperations :
    let held := { fetched with bus := { fetched.bus with own0 := { CoreOwn.reset with wait := some ⟨0x10, .load 31, .good⟩ } } }
    let busy := { idle with flash := some ⟨false, 16, true⟩ }
    (locked idle).mod.lock = .inForce ∧ (inMode .drive).mode ≠ .idle ∧ idle.mode = .idle ∧ (0x5B : Byte) ≠ 0x5A ∧ busy.flash ≠ none
      ∧ idle.flash = none ∧ ({ idle with flash := some ⟨true, 0x3FE000, false⟩ } : State).flash = some ⟨true, 0x3FE000, false⟩
      ∧ (idle.own 0).wait = none ∧ fetched.flash ≠ none ∧ (held.own 0).wait = some ⟨0x10, .load 31, .good⟩ ∧ region? 0x10 = some .flash
      ∧ (∀ d : Fin 2, d ≠ 0 → (held.own d).wait = none)
      ∧ (idle.setReg R.HPT_IRQEN 1).reg R.HPT_IRQEN &&& (1#16).setWidth 32 ≠ 0 := by
  decide +kernel

theorem witness_HostPortFrames :
    let busy := { idle with flash := some ⟨false, 16, false⟩ }
    idle.mode ≠ .off ∧ (inMode .off).mode = .off ∧ (3#2) = 3 ∧ 0x20000002 % 2 ^ (2#2).toNat ≠ 0
      ∧ ((busReg? (0x40000000 + R.SYS_ID)).isSome = true ∧ (1#2) ≠ 2) ∧ region? 0x20100000 = none ∧ busReg? 0x20100000 = none
      ∧ region? 0 = some .flash ∧ busy.flash ≠ none ∧ region? 0x200FFFFC = some .sram ∧ region? (0x200FFFFC + 1 * 4) ≠ region? 0x200FFFFC
      ∧ (region? 0x25000000).isSome = true ∧ (eng (run 1)).putBad (0x21000000 + 1 * 4) 4 0 = true
      ∧ region? (0x21000000 + 1 * 4) = region? 0x21000000 ∧ idle.putBad 0x200FFFFC 4 0 = false
      ∧ idle.clk.fault = false ∧ ({ idle with clk := { idle.clk with fault := true } } : State).clk.fault = true
      ∧ ([.good, .double] : List Ecc).getD 1 .good = .double ∧ ([] : List Ecc).getD 0 .good ≠ .double := by
  decide +kernel

theorem witness_EveryStepKeepsTheStateSound :
    let s := { eng { run 0 with calls := [1, 2, 3, 4], loops := [(65536, 1)] } with pending := [.doorbell 1] }
    s.sound = true ∧ (after (step s)).sound = true := by
  decide +kernel

theorem witness_ScheduleWordsReadBack :
    encodeSched (.wsm 3 1 255 (some 0xFFFFFF)) = some (0x26FF0001, 0x00FFFFFF)
      ∧ decodeSched 3 0x26FF0001 0x00FFFFFF = some (.wsm 3 1 255 (some 0xFFFFFF)) ∧ (0x5C000000 : Word).bits 31 26 = 0x17
      ∧ 0x1C ≤ (0x70000000 : Word).bits 31 26 ∧ ((0x00000001 : Word).bits 31 26 = 0x00 ∧ (0x00000001 : Word).bits 25 0 ≠ 0)
      ∧ ((0x4A000000 : Word).bits 31 26 = 0x12 ∧ (0x4A000000 : Word).bits 25 17 ≠ 0)
      ∧ ((0x26000000 : Word).bits 31 26 = 0x09 ∧ (0x26000000 : Word).bit 25 = true ∧ (0x01000000 : Word).bits 31 24 ≠ 0) := by
  decide +kernel

end Sys2Proof.Tests
end

section
/-!
PROOFS. The schedule instructions given as commands: issue and completion, and the data instructions (R131, R132, R135).
-/

namespace Sys2Proof.Machine
namespace State

/-- A command of an engine that may issue leaves what its instruction leaves at once (log entry 137). -/
theorem issueNow_seqIssue {s : State} {e : Fin 8} {len : Nat} {act : State → Option Issued} {i : Issued}
    (h : s.mayIssue e len) (ha : act s = some i) : issueNow e (s.seqIssue e len act) = .next (i.now e) := by
  rw [seqIssue_of h, ha]; rfl

/-- An instruction that gives v`vd` the word `w`, as a command. -/
theorem issueNow_seqGive {s : State} {e : Fin 8} {len : Nat} (h : s.mayIssue e len) (vd : Fin 16) (op : Nat) (w : Word)
    (ho : op < 64) :
    ∃ t, issueNow e (s.seqIssue e len fun s => some (s.seqGive e vd w op len .ok)) = .next t ∧ t.v e vd = w
      ∧ s.engineOk t e op { s.engine e with pc := (s.engine e).pc + len } [R.SEQ_V e.val vd.val] :=
  ⟨_, issueNow_seqIssue h rfl, seqGive_ok s e vd op len w ho⟩

end State

open State

/-! ### The functions of `alu` (R132) -/

/-- What R132 says of the result `r` of `alu` on the words `x` and `y`. -/
def AluGives (fn : AluFn) (x y r : Word) : Prop :=
  match fn with
  | .add => r.toNat = (x.toNat + y.toNat) % 2 ^ 32
  | .sub => r.toInt % 2 ^ 32 = (x.toInt - y.toInt) % 2 ^ 32
  | .and => ∀ i, r.getLsbD i = (x.getLsbD i && y.getLsbD i)
  | .or => ∀ i, r.getLsbD i = (x.getLsbD i || y.getLsbD i)
  | .xor => ∀ i, r.getLsbD i = (x.getLsbD i ^^ y.getLsbD i)
  | .shl => r.toNat = x.toNat * 2 ^ (y.toNat % 32) % 2 ^ 32
  | .shr => r.toNat = x.toNat / 2 ^ (y.toNat % 32)
  | .sar => r.toInt = x.toInt / 2 ^ (y.toNat % 32)
  | .mul => r.toNat = x.toNat * y.toNat % 2 ^ 32

theorem aluGives_aluResult (fn : AluFn) (x y : Word) : AluGives fn x y (aluResult fn x y) := by
  cases fn with
  | add => exact BitVec.toNat_add x y
  | sub => simp only [AluGives, aluResult, BitVec.toInt_sub]; exact Int.bmod_emod
  | and => exact fun _ => BitVec.getLsbD_and
  | or => exact fun _ => BitVec.getLsbD_or
  | xor => exact fun _ => BitVec.getLsbD_xor
  | shl => simp only [AluGives, aluResult, BitVec.toNat_shiftLeft, Nat.shiftLeft_eq]
  | shr => simp only [AluGives, aluResult, BitVec.toNat_ushiftRight, Nat.shiftRight_eq_div_pow]
  | sar =>
    simp only [AluGives, aluResult, BitVec.toInt_sshiftRight, Int.shiftRight_eq_div_pow]
    norm_cast
  | mul => exact BitVec.toNat_mul x y

/-- The function codes above 8 are reserved. -/
theorem aluOfCode_reserved {n : Nat} (h : 8 < n) : aluOfCode n = none := by
  obtain ⟨k, rfl⟩ : ∃ k, n = k + 9 := ⟨n - 9, by omega⟩
  rfl

/-- A word of opcode 3 with a reserved function code is malformed (R123, R132). -/
theorem decodeSched_alu_reserved (e : Fin 8) {w : Word} (ext : Word) (hop : w.bits 31 26 = 0x03) (hfn : 8 < w.bits 17 14) :
    decodeSched e w ext = none := by
  simp only [decodeSched, hop, aluOfCode_reserved hfn]

theorem exec_alu {s : State} {e : Fin 8} {b : RegExt} (h : s.mayIssue e (extLen (isExt b))) (vd va : Fin 16) (fn : AluFn) :
    ∃ t, exec (.alu e vd va fn b) s = .next t ∧ AluGives fn (s.v e va) (s.regExt e b) (t.v e vd)
      ∧ s.engineOk t e 0x03 { s.engine e with pc := (s.engine e).pc + extLen (isExt b) } [R.SEQ_V e.val vd.val] := by
  obtain ⟨t, ht, hv, hok⟩ := issueNow_seqGive h vd 0x03 (aluResult fn (s.v e va) (s.regExt e b)) (by decide)
  exact ⟨t, ht, hv ▸ aluGives_aluResult fn _ _, hok⟩

/-- Settles O1: each data instruction gives its word to VD by `issueNow_seqGive`; `alu`'s word is R132's by `exec_alu`. -/
theorem engineDataInstructionsCompute : Obligations.EngineDataInstructionsCompute := by
  refine ⟨fun s e vd va => ⟨fun h => ?mov, fun k h => ?imm, fun w h => ?ext, fun wofs h => ?ldt⟩,
    fun s e vd va fn b => ?alu, fun e w ext => decodeSched_alu_reserved e ext⟩
  case mov => exact issueNow_seqGive h vd 0x01 _ (by decide)
  case imm =>
    obtain ⟨t, ht, hv, hok⟩ := issueNow_seqGive h vd 0x02 (k.signExtend 32) (by decide)
    exact ⟨t, ht, hv ▸ BitVec.toInt_signExtend_of_le (by decide), hok⟩
  case ext => exact issueNow_seqGive h vd 0x02 w (by decide)
  case ldt => exact issueNow_seqGive h vd 0x06 _ (by decide)
  case alu =>
    cases b with
    | reg k => exact fun h => exec_alu (b := .reg k) h vd va fn
    | ext w => exact fun h => exec_alu (b := .ext w) h vd va fn

end Sys2Proof.Machine
end

section
/-!
PROOFS. Control flow (R109, R141 to R144): each instruction either completes with OK, having changed its engine alone, or faults the
engine.
-/

namespace Sys2Proof.Machine
namespace State

variable {s : State} {e : Fin 8} {len op pc c : Nat} {act : State → Option Issued}

/-! ### Completing and faulting, as commands -/

/-- A command whose instruction only goes on. -/
theorem issueNow_done (h : s.mayIssue e len) (ho : op < 64) (ha : act s = some (s.seqDone e op pc .ok)) :
    ∃ t, issueNow e (s.seqIssue e len act) = .next t ∧ s.engineOk t e op { s.engine e with pc := pc } [] :=
  ⟨_, issueNow_seqIssue h ha, seqDone_ok_plain s e op pc ho⟩

/-- A command whose instruction changes its engine by `f` and goes on. -/
theorem issueNow_done_mod (f : Engine → Engine) (h : s.mayIssue e len) (ho : op < 64)
    (ha : act s = some ((s.modEngine e f).seqDone e op pc .ok)) :
    ∃ t, issueNow e (s.seqIssue e len act) = .next t ∧ s.engineOk t e op { f (s.engine e) with pc := pc } [] :=
  ⟨_, issueNow_seqIssue h ha, seqDone_ok_mod s e f op pc ho⟩

/-- A command whose instruction changes its engine by `f`, which leaves the pc, and goes on behind itself. -/
theorem issueNow_next_mod (f : Engine → Engine) (hf : ∀ x, (f x).pc = x.pc) (h : s.mayIssue e len) (ho : op < 64)
    (ha : act s = some ((s.modEngine e f).seqNext e op len .ok)) :
    ∃ t, issueNow e (s.seqIssue e len act) = .next t
      ∧ s.engineOk t e op { f (s.engine e) with pc := (s.engine e).pc + len } [] :=
  issueNow_done_mod f h ho (by rw [ha, seqNext, engine_modEngine_same, hf])

/-- A command whose instruction faults its engine. -/
theorem issueNow_fault (h : s.mayIssue e len) (ha : act s = some (.done (s.seqFault e c))) :
    ∃ t, issueNow e (s.seqIssue e len act) = .next t ∧ s.engineFaulted t e c :=
  ⟨_, issueNow_seqIssue h ha, seqFault_spec s e c⟩

/-- A command whose words lie beyond schedule memory (R109). -/
theorem issueNow_beyond (h : s.issuing e = true) (hp : 131072 < (s.engine e).pc + len) :
    ∃ t, issueNow e (s.seqIssue e len act) = .next t ∧ s.engineFaulted t e 4 := by
  rw [seqIssue_fault h hp]
  exact ⟨_, rfl, seqFault_spec s e 4⟩

/-! ### Branches (R141, R142) -/

/-- An instruction that does `prep` and branches by `d` words where `b` differs from `n` completes with OK, unless it is to jump out
of schedule memory; `prep` leaves the engine `x` but for its pc. -/
theorem branch_ok {b n : Bool} {d : Int} {prep : State → State} (x : Engine) (hpc : ((prep s).engine e).pc = (s.engine e).pc)
    (hprep : ∀ a, s.engineOk (((prep s).seqDone e op a .ok).now e) e op { x with pc := a } [])
    (hd : b = n ∨ (0 ≤ ((s.engine e).pc : Int) + d ∧ ((s.engine e).pc : Int) + d < 131072)) :
    s.engineOk ((if (b != n) = true then s.seqJump e op d prep else (prep s).seqNext e op 1 .ok).now e) e op
      { x with pc := if b = n then (s.engine e).pc + 1 else (((s.engine e).pc : Int) + d).toNat } [] := by
  by_cases hb : b = n
  · rw [if_neg (by simp [hb]), if_pos hb, seqNext, hpc]
    exact hprep _
  · obtain ⟨h0, h1⟩ := hd.resolve_left hb
    rw [if_pos (by simp [hb]), if_neg hb, seqJump_ok s e op d prep h0 h1]
    exact hprep _

/-- A branch that is taken and leaves schedule memory faults the engine and does nothing else. -/
theorem branch_fault {b n : Bool} {d : Int} {prep : State → State} {i : Issued} (hb : b = !n)
    (hd : ((s.engine e).pc : Int) + d < 0 ∨ 131072 ≤ ((s.engine e).pc : Int) + d) :
    (if (b != n) = true then s.seqJump e op d prep else i) = .done (s.seqFault e 4) := by
  rw [if_pos (by simp [hb]), seqJump_fault s e op d prep hd]

/-- The engine after `jev` but for its pc (R103, R142). -/
def jevEngine (clear : Bool) (src : BitVec 8) (x : Engine) : Engine :=
  { x with evl := if clear then x.evl &&& ~~~(BitVec.ofNat 256 (2 ^ src.toNat)) else x.evl }

/-- What `jev` does to its latch before it branches. -/
def jevPrep (e : Fin 8) (clear : Bool) (src : BitVec 8) (s : State) : State := if clear then s.latchClear e src.toNat else s

theorem jevPrep_pc (clear : Bool) (src : BitVec 8) : ((jevPrep e clear src s).engine e).pc = (s.engine e).pc := by
  cases clear
  · rfl
  · change ((s.modEngine e (jevEngine true src)).engine e).pc = _
    rw [engine_modEngine_same, jevEngine]

theorem jevPrep_done (clear : Bool) (src : BitVec 8) (a : Nat) :
    s.engineOk (((jevPrep e clear src s).seqDone e 0x10 a .ok).now e) e 0x10
      { jevEngine clear src (s.engine e) with pc := a } [] := by
  cases clear
  · exact seqDone_ok_plain s e 0x10 a (by decide)
  · exact seqDone_ok_mod s e (jevEngine true src) 0x10 a (by decide)

/-! ### Calls and loops (R143, R144) -/

/-- `call` with a level of the call stack free. -/
theorem exec_call (h : s.mayIssue e 1) (a : BitVec 17) (hc : (s.engine e).calls.length < 4) :
    ∃ t, exec (.call e a) s = .next t ∧ s.engineOk t e 0x13
      { s.engine e with pc := a.toNat, calls := ((s.engine e).pc + 1) :: (s.engine e).calls } [] :=
  issueNow_done_mod (fun x => { x with calls := (x.pc + 1) :: x.calls }) h (by decide) (if_neg (Nat.not_le.mpr hc))

/-- `ret` with a call open. -/
theorem exec_ret (h : s.mayIssue e 1) {a : Nat} {l : List Nat} (hc : (s.engine e).calls = a :: l) :
    ∃ t, exec (.ret e) s = .next t ∧ s.engineOk t e 0x14 { s.engine e with pc := a, calls := l } [] :=
  issueNow_done_mod (fun x => { x with calls := l }) h (by decide) (by simp only [hc])

/-- `loop` with a level free. -/
theorem exec_loop (h : s.mayIssue e 1) (cnt : BitVec 16) (hl : (s.engine e).loops.length < 4) :
    ∃ t, exec (.loop e cnt) s = .next t ∧ s.engineOk t e 0x15
      { s.engine e with
        pc := (s.engine e).pc + 1
        loops := (if cnt = 0 then 65536 else cnt.toNat, (s.engine e).pc + 1) :: (s.engine e).loops } [] :=
  issueNow_next_mod (fun x => { x with loops := (if cnt = 0 then 65536 else cnt.toNat, x.pc + 1) :: x.loops }) (fun _ => rfl) h
    (by decide) (if_neg (Nat.not_le.mpr hl))

/-- `endl` with a level open: it jumps back while passes are left. -/
theorem exec_endl (h : s.mayIssue e 1) (leave : Bool) {n a : Nat} {l : List (Nat × Nat)} (hl : (s.engine e).loops = (n, a) :: l) :
    ∃ t, exec (.endl e leave) s = .next t ∧ s.engineOk t e 0x16
      (if leave = true ∨ n ≤ 1 then { s.engine e with pc := (s.engine e).pc + 1, loops := l }
       else { s.engine e with pc := a, loops := (n - 1, a) :: l }) [] := by
  by_cases hx : leave = true ∨ n ≤ 1
  · rw [if_pos hx]
    exact issueNow_next_mod (fun x => { x with loops := l }) (fun _ => rfl) h (by decide)
      (by simp only [hl]; rw [if_pos (by simpa using hx)])
  · rw [if_neg hx]
    exact issueNow_done_mod (fun x => { x with loops := (n - 1, a) :: l }) h (by decide)
      (by simp only [hl]; rw [if_neg (by simpa using hx)])

end State

open State

/-- Settles O2: the instructions that move the pc complete by `issueNow_done` and `branch_ok`, and fault by `issueNow_fault`. -/
theorem engineControlFlow : Obligations.EngineControlFlow := by
  refine ⟨fun s e h => ⟨fun a => ?jmp, fun a hc => ?call, fun a l hc => ?ret, fun cnt hl => ?loop,
      fun n a l leave hl => ?endl⟩,
    fun s e h => ⟨fun clear ifClear src disp hd => ?jev, fun ifClear mask disp hd => ?jmd⟩,
    fun s e => ⟨fun h => ⟨fun a hc => ?callFull, fun hc => ?retEmpty, fun cnt hl => ?loopFull,
      fun clear ifClear src disp hb hd => ?jevOut, fun ifClear mask disp hb hd => ?jmdOut⟩, fun h hp vd vs => ?beyond⟩⟩
  case jmp => exact issueNow_done h (by decide) rfl
  case call => exact exec_call h a hc
  case ret => exact exec_ret h hc
  case loop => exact exec_loop h cnt hl
  case endl => exact exec_endl h leave hl
  case jev => exact ⟨_, issueNow_seqIssue h rfl, branch_ok (prep := jevPrep e clear src) (jevEngine clear src (s.engine e))
    (jevPrep_pc _ _) (jevPrep_done _ _) hd⟩
  case jmd => exact ⟨_, issueNow_seqIssue h rfl, branch_ok (prep := id) (s.engine e) rfl
    (seqDone_ok_plain s e 0x11 · (by decide)) hd⟩
  case callFull => exact issueNow_fault h (if_pos hc)
  case retEmpty => exact issueNow_fault h (by simp only [hc])
  case loopFull => exact issueNow_fault h (if_pos hl)
  case jevOut => exact issueNow_fault h (congrArg some (branch_fault hb hd))
  case jmdOut => exact issueNow_fault h (congrArg some (branch_fault hb hd))
  case beyond => exact issueNow_beyond h (Nat.lt_succ_of_le hp)

end Sys2Proof.Machine
end

section
/-!
PROOFS. What completions other than OK record (R104, R117), and what fires beside a completion: `halt` and `sig` (R130, R147).
-/

namespace Sys2Proof

/-! ### Words put together from fields -/

theorem Word.bits_or (a b : Word) (hi lo : Nat) : (a ||| b).bits hi lo = a.bits hi lo ||| b.bits hi lo := by
  apply Nat.eq_of_testBit_eq
  intro i
  rw [Nat.testBit_or, Word.testBit_bits, Word.testBit_bits, Word.testBit_bits, BitVec.getLsbD_or, Bool.and_or_distrib_left]

theorem Word.bits_field_same {hi lo : Nat} (v : Nat) (h : hi < 32) : (Word.field hi lo v).bits hi lo = v % 2 ^ (hi + 1 - lo) := by
  apply Nat.eq_of_testBit_eq
  intro i
  rw [Word.testBit_bits, Word.getLsbD_field, Nat.testBit_mod_two_pow]
  by_cases hi' : i < hi + 1 - lo
  · simp [hi', show lo + i < 32 by omega, show lo + i < hi + 1 by omega]
  · simp [hi']

theorem Word.bits_field_ne {hi lo hi' lo' : Nat} (v : Nat) (h : hi' < lo ∨ hi < lo') : (Word.field hi lo v).bits hi' lo' = 0 := by
  apply Nat.eq_of_testBit_eq
  intro i
  rw [Word.testBit_bits, Word.getLsbD_field, Nat.zero_testBit]
  have hout : i < hi' + 1 - lo' → ¬ (lo ≤ lo' + i ∧ lo' + i < hi + 1) := by omega
  by_cases hin : i < hi' + 1 - lo'
  · rcases not_and_or.mp (hout hin) with hlt | hlt <;> simp [hlt]
  · simp [hin]

namespace Machine

/-- What `SEQ_En_EXC` holds after the first completion with a status of R104's last row (R117). -/
def excWord (op pc : Nat) (st : Status) : Word :=
  Word.field 31 31 1 ||| Word.field 30 25 op ||| Word.field 24 8 pc ||| Word.field 7 0 st.code

theorem Status.code_lt (st : Status) : st.code < 256 := by cases st <;> decide

theorem excWord_exc (op pc : Nat) (st : Status) : (excWord op pc st).bit 31 = true := by
  simp [excWord, Word.bit, Word.getLsbD_field]

theorem excWord_op {op : Nat} (h : op < 64) (pc : Nat) (st : Status) : (excWord op pc st).bits 30 25 = op := by
  simp [excWord, Word.bits_or, Word.bits_field_same, Word.bits_field_ne, Nat.mod_eq_of_lt h]

theorem excWord_addr (op pc : Nat) (st : Status) : (excWord op pc st).bits 24 8 = pc % 131072 := by
  simp [excWord, Word.bits_or, Word.bits_field_same, Word.bits_field_ne]

theorem excWord_status (op pc : Nat) (st : Status) : (excWord op pc st).bits 7 0 = st.code := by
  simp [excWord, Word.bits_or, Word.bits_field_same, Word.bits_field_ne, Nat.mod_eq_of_lt st.code_lt]

namespace State

/-! ### Engines that issue -/

/-- An engine that issues runs, is not frozen and has nothing under way. -/
theorem issuing_iff (s : State) (e : Fin 8) :
    s.issuing e = true ↔ (s.engine e).state = .running ∧ (s.engine e).frozen = false ∧ (s.engine e).ending = none := by
  simp [issuing, and_assoc]

/-! ### Reading a frame -/

theorem sameBut_reg {s t : State} {regs : List Nat} {parts : List Comp} (h : s.sameBut t regs parts) {r : Nat} (hr : r ∉ regs) :
    t.reg r = s.reg r := h.2.1 r hr

theorem sameBut_same {s t : State} {regs : List Nat} {parts : List Comp} (h : s.sameBut t regs parts) {c : Comp} (hc : c ∉ parts) :
    c.same s t := h.2.2.2 c hc

/-- A completion with OK that writes no v register changes `SEQ_En_LAST` and the engine, but not its event latch. -/
theorem finish_sameBut (s : State) (e : Fin 8) (op was next : Nat) :
    s.sameBut (s.finish e ⟨op, was, next, .ok, none⟩) [R.SEQ_LAST e.val] [.engines] := by
  rw [finish, completeInstr_ok]
  have hmod : s.sameBut (s.modEngine e fun x => { x with pc := next, ending := none, busy := 0 }) [R.SEQ_LAST e.val] [.engines] :=
    sameBut_modEngine' (sameBut_refl _ _ _) e _ (by simp) fun _ => rfl
  exact sameBut_setFld (sameBut_setFld hmod _ _ _ (by simp)) _ _ _ (by simp)

/-! ### What fires after a change -/

/-- What fires after a change of other parts alone fires from the state before it. -/
theorem fires_of_sameBut {s u t : State} {l regs : List Nat} {parts : List Comp} (h : s.sameBut u regs parts)
    (hparts : ∀ c ∈ parts, c ≠ .pending ∧ c ≠ .latches ∧ c ≠ .mod) (hf : u.fires t l) : s.fires t l := by
  have hpend : u.evt.pend = s.evt.pend := sameBut_same h (c := .pending) fun hc => (hparts _ hc).1 rfl
  have hevl : ∀ y, (u.engine y).evl = (s.engine y).evl := sameBut_same h (c := .latches) fun hc => (hparts _ hc).2.1 rfl
  have hmod : u.mod = s.mod := sameBut_same h (c := .mod) fun hc => (hparts _ hc).2.2 rfl
  have hup : u.up = s.up := by simp only [up, mode, hmod]
  exact ⟨fun n hn => by rw [hf.1 n hn, hpend], fun y n hn => by rw [hf.2 y n hn, hevl, hup]⟩

/-! ### Completions that are recorded as exceptions (R104, R117) -/

/-- Opcode and status are recorded (R117). -/
def recordLast (s : State) (e : Fin 8) (op : Nat) (st : Status) : State :=
  (s.setFld (R.SEQ_LAST e.val) F.SEQ_LAST_OPCODE op).setFld (R.SEQ_LAST e.val) F.SEQ_LAST_STATUS st.code

/-- The first exception is kept. -/
def recordExc (s : State) (e : Fin 8) (op pc : Nat) (st : Status) : State :=
  if s.bit (R.SEQ_EXC e.val) F.SEQ_EXC_EXC then s else s.setReg (R.SEQ_EXC e.val) (excWord op pc st)

/-- The statuses of R104's last row. -/
def excStatuses : List Status := [.busy, .outOfRange, .timeout, .failedTwice, .locked, .late]

theorem completeInstr_exc (s : State) (e : Fin 8) (op pc : Nat) {st : Status} (h : st ∈ excStatuses) :
    s.completeInstr e op pc st =
      (((s.recordLast e op st).recordExc e op pc st).countUp (R.SEQ_CNT e.val) F.SEQ_CNT_EXCCNT).fire (35 + 4 * e.val) := by
  cases st with
  | busy | outOfRange | timeout | failedTwice | locked | late => rfl
  | ok | notPresent | wrongMode | retriedOk => exact absurd h (by decide)

/-- `SEQ_En_LAST`, `SEQ_En_EXC` and `SEQ_En_CNT` are three registers. -/
theorem seqStatus_ne (e : Fin 8) : R.SEQ_LAST e.val ≠ R.SEQ_EXC e.val ∧ R.SEQ_LAST e.val ≠ R.SEQ_CNT e.val
    ∧ R.SEQ_EXC e.val ≠ R.SEQ_CNT e.val := by
  simp only [R.SEQ_LAST, R.SEQ_EXC, R.SEQ_CNT]; omega

section Recorded
variable (s : State) (e : Fin 8) (op pc : Nat) (st : Status)

theorem recordExc_reg_ne {q : Nat} (h : q ≠ R.SEQ_EXC e.val) : (s.recordExc e op pc st).reg q = s.reg q := by
  unfold recordExc; split
  · rfl
  · exact reg_setReg_ne _ _ h

theorem recordExc_bit : (s.recordExc e op pc st).bit (R.SEQ_EXC e.val) F.SEQ_EXC_EXC = true := by
  unfold recordExc; split
  · assumption
  · rw [bit, reg_setReg_same]; exact excWord_exc op pc st

/-- An exception kept before stays; the first one is kept whole. -/
theorem recordExc_reg : (s.recordExc e op pc st).reg (R.SEQ_EXC e.val) =
    if s.bit (R.SEQ_EXC e.val) F.SEQ_EXC_EXC = true then s.reg (R.SEQ_EXC e.val) else excWord op pc st := by
  unfold recordExc; split
  · rfl
  · rw [reg_setReg_same]

theorem recordLast_reg_ne {q : Nat} (h : q ≠ R.SEQ_LAST e.val) : (s.recordLast e op st).reg q = s.reg q := by
  rw [recordLast, reg_setFld, if_neg h, reg_setFld, if_neg h]

theorem recordLast_fld (ho : op < 64) : (s.recordLast e op st).fld (R.SEQ_LAST e.val) F.SEQ_LAST_OPCODE = op
    ∧ (s.recordLast e op st).fld (R.SEQ_LAST e.val) F.SEQ_LAST_STATUS = st.code := by
  constructor
  · rw [recordLast, fld_setFld_ne _ _ _ _ _ _ (.inr (by decide)), fld_setFld_same _ _ _ _ (by decide)]
    exact Nat.mod_eq_of_lt (by simpa [F.SEQ_LAST_OPCODE] using ho)
  · rw [recordLast, fld_setFld_same _ _ _ _ (by decide)]
    exact Nat.mod_eq_of_lt (by simpa [F.SEQ_LAST_STATUS] using st.code_lt)

end Recorded

/-- Registers and parts that recording an exception may reach. -/
theorem sameBut_recorded {s u : State} {regs : List Nat} {parts : List Comp} (h : s.sameBut u regs parts) (e : Fin 8)
    (op pc : Nat) (st : Status) (hl : R.SEQ_LAST e.val ∈ regs) (hx : R.SEQ_EXC e.val ∈ regs) :
    s.sameBut ((u.recordLast e op st).recordExc e op pc st) regs parts := by
  have h' : s.sameBut (u.recordLast e op st) regs parts := sameBut_setFld (sameBut_setFld h _ _ _ hl) _ _ _ hl
  unfold recordExc; split
  · exact h'
  · exact sameBut_setReg h' _ _ hx

/-- What recording an exception leaves in the registers, and what fires. -/
theorem completeInstr_exc_spec (s : State) (e : Fin 8) {op : Nat} (pc : Nat) {st : Status} (ho : op < 64)
    (hst : st ∈ excStatuses) :
    let t := s.completeInstr e op pc st
    t.fld (R.SEQ_LAST e.val) F.SEQ_LAST_OPCODE = op ∧ t.fld (R.SEQ_LAST e.val) F.SEQ_LAST_STATUS = st.code
      ∧ t.bit (R.SEQ_EXC e.val) F.SEQ_EXC_EXC = true
      ∧ (if s.bit (R.SEQ_EXC e.val) F.SEQ_EXC_EXC = true then t.reg (R.SEQ_EXC e.val) = s.reg (R.SEQ_EXC e.val)
         else t.fld (R.SEQ_EXC e.val) F.SEQ_EXC_OPCODE = op ∧ t.fld (R.SEQ_EXC e.val) F.SEQ_EXC_STATUS = st.code
           ∧ t.fld (R.SEQ_EXC e.val) F.SEQ_EXC_ADDR = pc % 131072)
      ∧ t.fld (R.SEQ_CNT e.val) F.SEQ_CNT_EXCCNT = min (s.fld (R.SEQ_CNT e.val) F.SEQ_CNT_EXCCNT + 1) 255
      ∧ s.fires t [35 + 4 * e.val]
      ∧ s.sameBut t [R.SEQ_LAST e.val, R.SEQ_EXC e.val, R.SEQ_CNT e.val] [.latches, .pending] := by
  intro t
  obtain ⟨hLX, hLC, hXC⟩ := seqStatus_ne e
  obtain ⟨hop, hcode⟩ := recordLast_fld s e op st ho
  set u := s.recordLast e op st
  set x := u.recordExc e op pc st with hx
  have ht : t = (x.countUp (R.SEQ_CNT e.val) F.SEQ_CNT_EXCCNT).fire (35 + 4 * e.val) := completeInstr_exc s e op pc hst
  have hreg : ∀ {q}, q ≠ R.SEQ_CNT e.val → t.reg q = x.reg q := fun hq => by rw [ht]; exact reg_setReg_ne x _ hq
  have hlast : t.reg (R.SEQ_LAST e.val) = u.reg (R.SEQ_LAST e.val) := (hreg hLC).trans (recordExc_reg_ne u e op pc st hLX)
  have hkept : t.reg (R.SEQ_EXC e.val) =
      if s.bit (R.SEQ_EXC e.val) F.SEQ_EXC_EXC = true then s.reg (R.SEQ_EXC e.val) else excWord op pc st := by
    rw [hreg hXC, hx, recordExc_reg, bit, bit, recordLast_reg_ne s e op st hLX.symm]
  have hcnt : x.reg (R.SEQ_CNT e.val) = s.reg (R.SEQ_CNT e.val) :=
    (recordExc_reg_ne u e op pc st hXC.symm).trans (recordLast_reg_ne s e op st hLC.symm)
  have hsame : s.sameBut (x.countUp (R.SEQ_CNT e.val) F.SEQ_CNT_EXCCNT) [R.SEQ_LAST e.val, R.SEQ_EXC e.val, R.SEQ_CNT e.val] [] :=
    sameBut_setFld (sameBut_recorded (sameBut_refl _ _ _) e op pc st (by simp) (by simp)) _ _ _ (by simp)
  refine ⟨?_, ?_, ?_, ?_, ?_, ?_, ?_⟩
  · rw [fld, hlast]; exact hop
  · rw [fld, hlast]; exact hcode
  · rw [bit, hreg hXC]; exact recordExc_bit u e op pc st
  · split
    next hset => rw [hkept, if_pos hset]
    next hclear =>
      rw [fld, fld, fld, hkept, if_neg hclear]
      exact ⟨excWord_op ho pc st, excWord_status op pc st, excWord_addr op pc st⟩
  · rw [ht]
    change (x.countUp (R.SEQ_CNT e.val) F.SEQ_CNT_EXCCNT).fld _ _ = _
    rw [countUp, fld_setFld_same _ _ _ _ (by decide), fld, hcnt]
    exact Nat.mod_eq_of_lt (by simp [F.SEQ_CNT_EXCCNT])
  · rw [ht]
    exact fires_of_sameBut hsame (by simp) (fires_fire _ _ (by omega))
  · rw [ht]
    exact sameBut_fire (sameBut_mono hsame (fun _ h => h) (by simp)) _ (by simp) (by simp)

/-- An instruction that changes nothing but its pc completes with a status of R104's last row. -/
theorem seqDone_exc {s : State} {e : Fin 8} (hi : s.issuing e = true) {op : Nat} (pc : Nat) {st : Status} (ho : op < 64)
    (hst : st ∈ excStatuses) : s.engineExcept ((s.seqDone e op pc st).now e) e op st pc [] := by
  obtain ⟨hrun, -, -⟩ := (issuing_iff s e).mp hi
  set u := s.modEngine e fun x => { x with pc := pc, ending := none, busy := 0 }
  have hbut : s.sameBut u [] [.engines] := sameBut_modEngine' (sameBut_refl _ _ _) e _ (by simp) fun _ => rfl
  obtain ⟨hop, hcode, hbit, hexc, hcnt, hfires, hsame⟩ := completeInstr_exc_spec u e (s.engine e).pc ho hst
  have heng : ∀ y, { (u.completeInstr e op (s.engine e).pc st).engine y with evl := 0 } = { u.engine y with evl := 0 } :=
    sameBut_same hsame (c := .engines) (by simp)
  have hue : u.engine e = _ := engine_modEngine_same s e _
  refine ⟨?_, ?_, hop, hcode, hbit, hexc, hcnt, fires_of_sameBut hbut (by simp) hfires,
    sameBut_trans (sameBut_mono hbut (by simp) (by simp)) (sameBut_mono hsame (fun _ h => h) (by simp))⟩
  · exact (congrArg Engine.pc (heng e)).trans (congrArg Engine.pc hue)
  · exact (congrArg Engine.state (heng e)).trans ((congrArg Engine.state hue).trans hrun)

/-! ### `halt` and `sig` (R130, R147) -/

theorem exec_halt {s : State} {e : Fin 8} (h : s.mayIssue e 1) :
    ∃ t, exec (.halt e) s = .next t
      ∧ { t.engine e with evl := 0 } =
          { s.engine e with pc := (s.engine e).pc + 1, state := .halted, staging := [], fault := 0, busy := 0, evl := 0 }
      ∧ t.fld (R.SEQ_LAST e.val) F.SEQ_LAST_OPCODE = 0 ∧ t.fld (R.SEQ_LAST e.val) F.SEQ_LAST_STATUS = 0
      ∧ s.fires t [33 + 4 * e.val] ∧ s.sameBut t [R.SEQ_LAST e.val] [.engines, .latches, .pending] := by
  refine ⟨_, issueNow_seqIssue h rfl, ?_⟩
  obtain ⟨-, -, hend⟩ := (issuing_iff s e).mp h.1
  set u := s.finish e ⟨0x00, (s.engine e).pc, (s.engine e).pc + 1, .ok, none⟩
  obtain ⟨heng, -, hop, hst, -, -⟩ : s.engineOk u e 0x00 { s.engine e with pc := (s.engine e).pc + 1 } [] :=
    seqDone_ok_plain s e 0x00 _ (by decide)
  have hsame : s.sameBut (u.modEngine e fun x => { x with state := .halted, staging := [], fault := 0 }) [R.SEQ_LAST e.val]
      [.engines] := sameBut_modEngine' (finish_sameBut s e _ _ _) e _ (by simp) fun _ => rfl
  refine ⟨?_, hop, hst, fires_of_sameBut hsame (by simp) (fires_fire _ _ (by omega)),
    sameBut_fire (sameBut_mono hsame (fun _ h => h) (by simp)) _ (by simp) (by simp)⟩
  simp only [Issued.now, engine_fire, engine_modEngine_same, heng, hend]

theorem exec_sig {s : State} {e : Fin 8} (h : s.mayIssue e 1) (val : BitVec 16) :
    ∃ t, exec (.sig e val) s = .next t
      ∧ { t.engine e with evl := 0 } = { s.engine e with pc := (s.engine e).pc + 1, busy := 0, evl := 0 }
      ∧ t.fld (R.SEQ_LAST e.val) F.SEQ_LAST_SIGVAL = val.toNat
      ∧ t.fld (R.SEQ_LAST e.val) F.SEQ_LAST_OPCODE = 0x1A ∧ t.fld (R.SEQ_LAST e.val) F.SEQ_LAST_STATUS = 0
      ∧ s.fires t [32 + 4 * e.val] ∧ s.sameBut t [R.SEQ_LAST e.val] [.engines, .latches, .pending] := by
  refine ⟨_, issueNow_seqIssue h rfl, ?_⟩
  obtain ⟨-, -, hend⟩ := (issuing_iff s e).mp h.1
  set w := s.setFld (R.SEQ_LAST e.val) F.SEQ_LAST_SIGVAL val.toNat with hw
  set u := w.fire (32 + 4 * e.val)
  have heng : u.engine e = _ := engine_fire w _ e
  have hbut : s.sameBut w [R.SEQ_LAST e.val] [] := sameBut_setFld (sameBut_refl _ _ _) _ _ _ (by simp)
  obtain ⟨hdone, -, hop, hst, hsig, -⟩ := seqDone_ok_plain u e 0x1A ((u.engine e).pc + 1) (by decide)
  have hfin : u.sameBut ((u.seqDone e 0x1A ((u.engine e).pc + 1) .ok).now e) [R.SEQ_LAST e.val] [.engines] :=
    finish_sameBut u e _ _ _
  refine ⟨?_, ?_, hop, hst, ?_, ?_⟩
  · refine (congrArg (fun x : Engine => { x with evl := 0 }) hdone).trans ?_
    simp only [heng, hw, setFld_engine, hend]
  · exact hsig.trans ((fld_setFld_same s _ _ _ (by decide)).trans (Nat.mod_eq_of_lt val.isLt))
  · exact fires_of_eq u (fires_of_sameBut hbut (by simp) (fires_fire w _ (by omega))) (sameBut_same hfin (c := .pending) (by simp))
      (sameBut_same hfin (c := .latches) (by simp))
  · exact sameBut_trans (sameBut_fire (sameBut_mono hbut (fun _ h => h) (by simp)) _ (by simp) (by simp))
      (sameBut_mono hfin (fun _ h => h) (by simp))

end State
end Machine
end Sys2Proof
end

section
/-!
PROOFS. The waits (R98 to R102, R137 to R140): a wait that begins is tested at once, completes where its condition holds, and cannot
have expired.
-/

namespace Sys2Proof.Machine
namespace State

/-! ### Times (R99, R100) -/

/-- A time up to 2^31 µs ahead has not come. -/
theorem modDiff_add_neg (t d : Word) (h0 : d ≠ 0) (h1 : d.toNat ≤ 2 ^ 31) : modDiff t (t + d) < 0 := by
  have hd : d.toNat ≠ 0 := fun h => h0 (BitVec.eq_of_toNat_eq h)
  have hsub : (t - (t + d)).toNat = 2 ^ 32 - d.toNat := by bv_omega
  rw [modDiff, BitVec.toInt_eq_toNat_cond, hsub]
  omega

theorem modDiff_self (t : Word) : modDiff t t = 0 := by simp [modDiff]

/-- The network time at which a timeout of an instruction that begins to wait expires (R99). -/
def expiry (s : State) (tmo : Timeout) : Option Word :=
  match tmo with
  | some n => if n = 0 then none else some (s.reg R.NET_TIME + n.setWidth 32 + 1)
  | none => none

/-- A timeout does not expire in the clock in which it begins. -/
theorem expiry_ahead (s : State) (tmo : Timeout) : ∀ t ∈ s.expiry tmo, modDiff s.now t < 0 := by
  intro t ht
  cases tmo with
  | none => cases ht
  | some n =>
    by_cases hn : n = 0
    · simp [expiry, hn] at ht
    · rw [expiry, if_neg hn, Option.mem_some_iff] at ht
      rw [← ht, BitVec.add_assoc]
      exact modDiff_add_neg _ _ (by bv_omega) (by bv_omega)

/-! ### Changes of an engine -/

/-- A change of an engine depends on what it does to that engine alone. -/
theorem modEngine_congr {s : State} {e : Fin 8} {f g : Engine → Engine} (h : f (s.engine e) = g (s.engine e)) :
    s.modEngine e f = s.modEngine e g := by
  rw [modEngine, modEngine, vupd, vupd]
  exact congrArg (fun x => { s with seq := s.seq.set e x }) h

theorem modEngine_eq_self {s : State} {e : Fin 8} {f : Engine → Engine} (h : f (s.engine e) = s.engine e) :
    s.modEngine e f = s := by
  rw [modEngine_congr (g := id) h, modEngine, vupd]
  simp

section Begun
variable {s : State} {e : Fin 8} {op len : Nat} {w : Wait} {tmo : Timeout}

/-! ### A wait that begins -/

/-- The engine of an issuing instruction that begins to wait. -/
theorem engine_waitBegin (h : s.issuing e = true) :
    (s.waitBegin e op len w tmo).engine e =
      { s.engine e with state := .waiting, wait := w, waitOp := op, waitLen := len, expires := s.expiry tmo, late := false } := by
  obtain ⟨hrun, -, -⟩ := (issuing_iff s e).mp h
  refine (engine_modEngine_same s e _).trans ?_
  rw [if_pos (by simp [hrun])]
  cases tmo <;> rfl

theorem engine_waitBegin_ne {y : Fin 8} (h : y ≠ e) : (s.waitBegin e op len w tmo).engine y = s.engine y :=
  engine_modEngine_ne _ _ h

theorem waitBegin_sameBut : s.sameBut (s.waitBegin e op len w tmo) [] [.engines] :=
  sameBut_modEngine' (sameBut_refl _ _ _) e _ (by simp) fun x => by split <;> rfl

/-- An instruction that begins to wait changes its engine as R98 and R99 say. -/
theorem waitBegin_waits (h : s.issuing e = true) : s.engineWaits (s.waitBegin e op len w tmo) e op len w tmo :=
  ⟨engine_waitBegin h, fun _ hy => engine_waitBegin_ne hy, waitBegin_sameBut⟩

theorem waitExpired_waitBegin (h : s.issuing e = true) : (s.waitBegin e op len w tmo).waitExpired e = false := by
  rw [waitExpired, engine_waitBegin h]
  have hahead := expiry_ahead s tmo
  cases hx : s.expiry tmo with
  | none => rfl
  | some t => exact decide_eq_false (Int.not_le.mpr (hahead t hx))

/-- The test of a wait that begins: it completes where its condition holds, and otherwise goes on (R101). -/
theorem waitTest_waitBegin (h : s.issuing e = true) :
    (s.waitBegin e op len w tmo).waitTest e =
      if (s.waitBegin e op len w tmo).waitHolds e = true then (s.waitBegin e op len w tmo).waitOk e
      else s.waitBegin e op len w tmo := by
  obtain ⟨-, hfrozen, hend⟩ := (issuing_iff s e).mp h
  have htest : (s.waitBegin e op len w tmo).testing e = true := by simp [testing, engine_waitBegin h, hfrozen]
  have hending : ((s.waitBegin e op len w tmo).engine e).ending = none := by rw [engine_waitBegin h, hend]
  rw [waitTest, waitNow, htest, hending, waitExpired_waitBegin h]
  cases (s.waitBegin e op len w tmo).waitHolds e <;> rfl

/-! ### Its completion -/

/-- The event latch after a wait that completes: an event wait clears its bit (R103). -/
def latchAfter (w : Wait) (l : BitVec 256) : BitVec 256 :=
  match w with
  | .event src => l &&& ~~~(BitVec.ofNat 256 (2 ^ src.toNat))
  | .none | .time _ | .sample _ _ _ | .position _ _ _ | .travel _ _ _ | .commit _ _ => l

/-- The engine whose wait completes, with its latch after that. -/
def completedLatch (x : Engine) : Engine := { x with evl := latchAfter x.wait x.evl }

theorem completedLatch_eq {x : Engine} (h : x.wait = w) : completedLatch x = { x with evl := latchAfter w x.evl } := by
  subst h; rfl

/-- A wait but a commit's completes by clearing the bit of an event wait, and ends with OK. -/
theorem waitOk_eq (u : State) (e : Fin 8) (hw : ∀ l st, (u.engine e).wait ≠ .commit l st) :
    u.waitOk e = (u.modEngine e completedLatch).waitEnd e .ok := by
  rw [waitOk]
  cases hx : (u.engine e).wait with
  | commit l st => exact absurd hx (hw l st)
  | event src =>
    exact congrArg (waitEnd · e .ok) (modEngine_congr (completedLatch_eq hx).symm)
  | none | time _ | sample _ _ _ | position _ _ _ | travel _ _ _ =>
    exact congrArg (waitEnd · e .ok) (modEngine_eq_self (completedLatch_eq hx)).symm

/-- A wait ends with OK. -/
theorem waitEnd_ok {u : State} (ho : (u.engine e).waitOp < 64) (hy : ∀ y, y ≠ e → u.engine y = s.engine y)
    (h : s.sameBut u [] [.engines, .latches]) :
    s.engineOk (u.waitEnd e .ok) e (u.engine e).waitOp
      { u.engine e with
        state := .running, pc := (u.engine e).pc + (u.engine e).waitLen, wait := .none, expires := none, late := false } [] := by
  have hlast : u.reg (R.SEQ_LAST e.val) = s.reg (R.SEQ_LAST e.val) := sameBut_reg h (by simp)
  refine engineOk_of (u := u.modEngine e fun x => { x.ended with state := .running, pc := x.pc + x.waitLen }) e _
    (u.engine e).pc _ [] ho ?_ ?_ ?_ ?_
  · rw [engine_modEngine_same, Engine.ended]
  · intro y hne; rw [engine_modEngine_ne _ _ hne, hy y hne]
  · exact congrArg (Word.bits · _ _) hlast
  · exact sameBut_modEngine (sameBut_mono h (by simp) fun _ h => h) e _ (by simp) (by simp)

/-- A wait but a commit's that begins and completes. -/
theorem waitOk_waitBegin (h : s.issuing e = true) (ho : op < 64) (hw : ∀ l st, w ≠ .commit l st) :
    s.engineOk ((s.waitBegin e op len w tmo).waitOk e) e op
      { s.engine e with
        pc := (s.engine e).pc + len, waitOp := op, waitLen := len, wait := .none, expires := none, late := false
        evl := latchAfter w (s.engine e).evl } [] := by
  obtain ⟨hrun, -, -⟩ := (issuing_iff s e).mp h
  have heng : (s.waitBegin e op len w tmo).engine e = _ := engine_waitBegin h
  rw [waitOk_eq _ e fun l st => by rw [heng]; exact hw l st]
  have hv : (((s.waitBegin e op len w tmo).modEngine e completedLatch).engine e) = _ := engine_modEngine_same _ _ _
  rw [heng] at hv
  have hok := waitEnd_ok (s := s) (e := e) (u := (s.waitBegin e op len w tmo).modEngine e completedLatch)
    (by rw [hv]; exact ho) (fun y hy => (engine_modEngine_ne _ _ hy).trans (engine_waitBegin_ne hy))
    (sameBut_modEngine (sameBut_mono waitBegin_sameBut (by simp) (by simp)) e _ (by simp) (by simp))
  rw [hv, completedLatch, ← hrun] at hok
  exact hok

/-- What a wait leaves that is tested as it begins: it completes with OK, or its engine waits. -/
theorem issueNow_wait {o : Option Issued} {C : Prop} [Decidable C] (h : s.issuing e = true) (ho : op < 64)
    (hw : ∀ l st, w ≠ .commit l st) (hi : o = some (s.seqWait e op len w tmo))
    (hC : (s.waitBegin e op len w tmo).waitHolds e = true ↔ C) :
    ∃ t, issueNow e o = .next t
      ∧ (if C then s.engineOk t e op
            { s.engine e with
              pc := (s.engine e).pc + len, waitOp := op, waitLen := len, wait := .none, expires := none, late := false
              evl := latchAfter w (s.engine e).evl } []
         else s.engineWaits t e op len w tmo) := by
  refine ⟨(s.waitBegin e op len w tmo).waitTest e, by rw [hi]; rfl, ?_⟩
  rw [waitTest_waitBegin h]
  by_cases hc : C
  · rw [if_pos hc, if_pos (hC.mpr hc)]
    exact waitOk_waitBegin h ho hw
  · rw [if_neg hc, if_neg (mt hC.mp hc)]
    exact waitBegin_waits h

/-! ### The conditions, as the wait begins (R98, R100, R139) -/

theorem waitHolds_time (h : s.issuing e = true) (t : Word) :
    (s.waitBegin e op len (.time t) tmo).waitHolds e = true ↔ 0 ≤ modDiff s.now t := by
  rw [waitHolds, engine_waitBegin h]
  exact decide_eq_true_iff

/-- A sample wait does not hold before a boundary has passed. -/
theorem waitHolds_sample (h : s.issuing e = true) (n ofs : Nat) :
    (s.waitBegin e op len (.sample n ofs none) tmo).waitHolds e = true ↔ False := by
  rw [waitHolds, engine_waitBegin h]
  simp

theorem waitHolds_position (h : s.issuing e = true) (rev : Bool) (t : Word) (a : Nat) :
    (s.waitBegin e op len (.position rev t a) tmo).waitHolds e = true ↔
      if rev then modDiff (s.axisPos a) t ≤ 0 else 0 ≤ modDiff (s.axisPos a) t := by
  rw [waitHolds, engine_waitBegin h]
  cases rev <;> exact decide_eq_true_iff

theorem waitHolds_travel (h : s.issuing e = true) (rev : Bool) (t : Word) (a : Nat) :
    (s.waitBegin e op len (.travel rev t a) tmo).waitHolds e = true ↔
      if rev then modDiff (s.travel a) t ≤ 0 else 0 ≤ modDiff (s.travel a) t := by
  rw [waitHolds, engine_waitBegin h]
  cases rev <;> exact decide_eq_true_iff

theorem waitHolds_event (h : s.issuing e = true) (src : BitVec 8) :
    (s.waitBegin e op len (.event src) tmo).waitHolds e = true ↔ (s.engine e).evl.getLsbD src.toNat = true := by
  rw [waitHolds, engine_waitBegin h]

end Begun
end State
end Sys2Proof.Machine
end

section
/-!
PROOFS. The instructions that wait (R137 to R140), and the statement on `halt`, `sig` and the waits.
-/

namespace Sys2Proof.Machine
namespace State

variable {s : State} {e : Fin 8} {tmo : Timeout} {len : Nat}

/-! ### What the instructions wait for -/

theorem seqWtm_abs (h : s.mayIssue e 1) (k : Fin 16) :
    s.seqWtm e (.abs k) = some (s.seqWait e 0x08 1 (.time (s.v e k)) none) := by
  rw [seqWtm, seqIssue_of h]

theorem seqWtm_rel (h : s.mayIssue e 2) (w : Word) :
    s.seqWtm e (.rel w) = some (s.seqWait e 0x08 2 (.time (if w.getLsbD 31 then s.now else s.now + w)) none) := by
  rw [seqWtm, seqIssue_of h]

/-- A `wsm` whose count or offset is no part of the sample. -/
theorem seqWsm_bad (h : s.mayIssue e (extLen tmo.isSome)) {cnt : BitVec 16} {ofs : BitVec 8}
    (hbad : cnt = 0 ∨ s.sampleNs ≤ 1000 * ofs.toNat) :
    s.seqWsm e cnt ofs tmo = some (s.seqNext e 0x09 (extLen tmo.isSome) .outOfRange) := by
  rw [seqWsm, seqIssue_of h, if_pos (by simpa using hbad)]

theorem seqWsm_wait (h : s.mayIssue e (extLen tmo.isSome)) {cnt : BitVec 16} {ofs : BitVec 8}
    (hgood : ¬ (cnt = 0 ∨ s.sampleNs ≤ 1000 * ofs.toNat)) :
    s.seqWsm e cnt ofs tmo = some (s.seqWait e 0x09 (extLen tmo.isSome) (.sample cnt.toNat ofs.toNat none) tmo) := by
  rw [seqWsm, seqIssue_of h, if_neg (by simpa using hgood)]

theorem axisPresent_of {a : Nat} (ha : a ≤ 10) (hB : a = 1 → s.hasB = true) : s.axisPresent a = true := by
  by_cases h1 : a = 1
  · simp [axisPresent, h1, hB h1]
  · simp [axisPresent, h1, ha]

theorem seqWps_wait (h : s.mayIssue e (extLen tmo.isSome)) (rev : Bool) (vs : Fin 16) {axis : BitVec 4}
    (hax : axis.toNat ≤ 10) (hB : axis.toNat = 1 → s.hasB = true) :
    s.seqWps e rev vs axis tmo = some (s.seqWait e 0x0A (extLen tmo.isSome) (.position rev (s.v e vs) axis.toNat) tmo) := by
  rw [seqWps, seqIssue_of h, if_neg (Nat.not_lt.mpr hax), axisPresent_of hax hB]
  rfl

theorem seqWtr_wait (h : s.mayIssue e (extLen tmo.isSome)) (rev : Bool) (vs : Fin 16) {axis : BitVec 4} (hax : axis.toNat ≤ 2) :
    s.seqWtr e rev vs axis tmo = some (s.seqWait e 0x0B (extLen tmo.isSome) (.travel rev (s.v e vs) axis.toNat) tmo) := by
  rw [seqWtr, seqIssue_of h, if_neg (Nat.not_lt.mpr hax)]

theorem seqWev_wait (h : s.mayIssue e (extLen tmo.isSome)) (src : BitVec 8) :
    s.seqWev e src tmo = some (s.seqWait e 0x0C (extLen tmo.isSome) (.event src) tmo) := by
  rw [seqWev, seqIssue_of h]

/-! ### `wtm` (R137) -/

theorem getLsbD_31_iff (w : Word) : w.getLsbD 31 = true ↔ 2 ^ 31 ≤ w.toNat := by
  rw [← decide_eq_true_iff (p := 2 ^ 31 ≤ w.toNat), ← BitVec.msb_eq_decide w]
  rfl

/-- The target of a relative `wtm` is reached at once where it is zero or counts as behind (R137; log entry 84). -/
theorem relTarget_reached (t w : Word) :
    0 ≤ modDiff t (if w.getLsbD 31 then t else t + w) ↔ w = 0 ∨ 2 ^ 31 ≤ w.toNat := by
  by_cases hbit : w.getLsbD 31 = true
  · exact iff_of_true (by simp [hbit, modDiff_self]) (.inr ((getLsbD_31_iff w).mp hbit))
  · have hlt : ¬ 2 ^ 31 ≤ w.toNat := mt (getLsbD_31_iff w).mpr hbit
    rw [if_neg hbit, or_iff_left hlt]
    constructor
    · intro h0
      by_contra hw
      exact absurd h0 (Int.not_le.mpr (modDiff_add_neg t w hw (Nat.le_of_not_le hlt)))
    · rintro rfl
      simp [modDiff_self]

theorem exec_wtm_rel (h : s.mayIssue e 2) (w : Word) :
    ∃ t, exec (.wtm e (.rel w)) s = .next t
      ∧ (if w = 0 ∨ 2 ^ 31 ≤ w.toNat then s.engineOk t e 0x08
            { s.engine e with
              pc := (s.engine e).pc + 2, waitOp := 0x08, waitLen := 2, wait := .none, expires := none, late := false } []
         else s.engineWaits t e 0x08 2 (.time (s.reg R.NET_TIME + w)) none) := by
  obtain ⟨t, ht, hres⟩ := issueNow_wait h.1 (by decide) (by nofun) (seqWtm_rel h w)
    ((waitHolds_time h.1 _).trans (relTarget_reached s.now w))
  refine ⟨t, ht, ?_⟩
  by_cases hc : w = 0 ∨ 2 ^ 31 ≤ w.toNat
  · rw [if_pos hc] at hres ⊢
    exact hres
  · rw [if_neg hc] at hres ⊢
    rwa [if_neg (mt (getLsbD_31_iff w).mp (not_or.mp hc).2)] at hres

/-! ### `wsm` (R138) -/

theorem exec_wsm (hlen : extLen tmo.isSome = len) (h : s.mayIssue e len) (cnt : BitVec 16) (ofs : BitVec 8) :
    ∃ t, exec (.wsm e cnt ofs tmo) s = .next t
      ∧ (if cnt = 0 ∨ s.sampleNs ≤ 1000 * ofs.toNat then s.engineExcept t e 0x09 .outOfRange ((s.engine e).pc + len) []
         else s.engineWaits t e 0x09 len (.sample cnt.toNat ofs.toNat none) tmo) := by
  subst hlen
  by_cases hbad : cnt = 0 ∨ s.sampleNs ≤ 1000 * ofs.toNat
  · rw [exec, execWsm, seqWsm_bad h hbad]
    exact ⟨_, rfl, by rw [if_pos hbad]; exact seqDone_exc h.1 _ (by decide) (by decide)⟩
  · obtain ⟨t, ht, hres⟩ := issueNow_wait h.1 (by decide) (by nofun) (seqWsm_wait h hbad) (waitHolds_sample h.1 _ _)
    rw [if_neg not_false] at hres
    exact ⟨t, ht, by rwa [if_neg hbad]⟩

/-! ### `wps` and `wtr` (R139) -/

theorem exec_wps (hlen : extLen tmo.isSome = len) (h : s.mayIssue e len) (rev : Bool) (vs : Fin 16) {axis : BitVec 4}
    (hax : axis.toNat ≤ 10) (hB : axis.toNat = 1 → s.hasB = true) :
    let d := modDiff (s.axisPos axis.toNat) (s.v e vs)
    ∃ t, exec (.wps e rev vs axis tmo) s = .next t
      ∧ (if (if rev then d ≤ 0 else 0 ≤ d) then s.engineOk t e 0x0A
            { s.engine e with
              pc := (s.engine e).pc + len, waitOp := 0x0A, waitLen := len, wait := .none, expires := none, late := false } []
         else s.engineWaits t e 0x0A len (.position rev (s.v e vs) axis.toNat) tmo) := by
  subst hlen
  exact issueNow_wait h.1 (by decide) (by nofun) (seqWps_wait h rev vs hax hB) (waitHolds_position h.1 _ _ _)

/-- The travel counter that an axis code names (R129). -/
theorem travel_of_axis (s : State) (axis : BitVec 4) :
    s.travel axis.toNat = s.reg (if axis = 0 then R.POS_TRV_L else if axis = 1 then R.POS_TRV_R else R.POS_TRV_C) := by
  have h0 : axis = 0 ↔ axis.toNat = 0 := by rw [← BitVec.toNat_inj]; rfl
  have h1 : axis = 1 ↔ axis.toNat = 1 := by rw [← BitVec.toNat_inj]; rfl
  rw [travel, apply_ite s.reg, apply_ite s.reg]
  simp only [h0, h1]

theorem exec_wtr (hlen : extLen tmo.isSome = len) (h : s.mayIssue e len) (rev : Bool) (vs : Fin 16) {axis : BitVec 4}
    (hax : axis.toNat ≤ 2) :
    let d := modDiff (s.travel axis.toNat) (s.v e vs)
    ∃ t, exec (.wtr e rev vs axis tmo) s = .next t
      ∧ (if (if rev then d ≤ 0 else 0 ≤ d) then s.engineOk t e 0x0B
            { s.engine e with
              pc := (s.engine e).pc + len, waitOp := 0x0B, waitLen := len, wait := .none, expires := none, late := false } []
         else s.engineWaits t e 0x0B len (.travel rev (s.v e vs) axis.toNat) tmo) := by
  subst hlen
  exact issueNow_wait h.1 (by decide) (by nofun) (seqWtr_wait h rev vs hax) (waitHolds_travel h.1 _ _ _)

end State

open State

/-- Settles O3: `halt` and `sig` by their own lemmas; each wait by `issueNow_wait`, from its condition as it begins. -/
theorem engineHaltsSignalsAndWaits : Obligations.EngineHaltsSignalsAndWaits := by
  refine ⟨fun s e h => ⟨exec_halt h, fun _ => rfl, fun val => exec_sig h val⟩,
    fun s e => ⟨fun k h => ?wtmAbs, fun w h => exec_wtm_rel h w, fun tmo => ?timed⟩⟩
  case wtmAbs =>
    exact issueNow_wait h.1 (by decide) (by nofun) (seqWtm_abs h k) (waitHolds_time h.1 _)
  case timed =>
    intro len h
    have hlen : extLen tmo.isSome = len := by cases tmo <;> rfl
    refine ⟨exec_wsm hlen h, fun rev vs axis hax hB => exec_wps hlen h rev vs hax hB, fun rev vs axis hax => ?wtr,
      fun src => ?wev⟩
    case wtr =>
      have := exec_wtr hlen h rev vs hax
      rwa [travel_of_axis] at this
    case wev =>
      rw [← hlen] at h ⊢
      exact issueNow_wait h.1 (by decide) (by nofun) (seqWev_wait h src) (waitHolds_event h.1 src)

end Sys2Proof.Machine
end

section
/-!
PROOFS. The start budget's tick (R360, R362, R488), and the statement on the start budget's grants.
-/

namespace Sys2Proof.Machine
namespace State

/-- A quiet module's bucket refills and grants nothing: the acting lead alone grants (R488). -/
theorem exec_budgetTick_quiet {s : State} (hup : s.up = true) (hq : s.quiet = true) :
    exec .budgetTick s = .next s.budgetRefill := by
  have hq' : s.budgetRefill.quiet = true := by unfold budgetRefill; split <;> exact hq
  rw [exec, execBudgetTick, whenUp, if_pos hup, budgetTick, if_pos hq']

/-- A refill changes the tokens alone. -/
theorem budgetRefill_queue (s : State) : s.budgetRefill.budget.queue = s.budget.queue := by
  unfold budgetRefill; split <;> rfl

/-- The lead's request of class 0 on firmware port 0, cost 5, as the joining module's queue mirrors it (R495). -/
def mirroredRequest : BudgetReq := ⟨8, 0, 5, 0, 0, true⟩

/-- A joined module in IDLE that is not the acting lead, with the lead's request mirrored and tokens that would pay for it. -/
def quietMirror : State :=
  (({ State.reset with
      mod := { State.reset.mod with cur := .idle }
      budget := { State.reset.budget with tokens := 256000 * 5, queue := [mirroredRequest] } }.setFld R.TWN_ST F.TWN_ST_STATE 4).setFld
    R.ENP_SBCFG F.ENP_SBCFG_EN 1).setFld R.ENP_SBCFG F.ENP_SBCFG_CAP 5

end State

open State

/-- Refutes O45: it lets every tick grant a head that the tokens pay for, and the tick of a quiet module grants none (R488). The
concrete state is a joined module whose queue mirrors a request of the acting lead. -/
theorem not_startBudgetGrants : ¬ Obligations.StartBudgetGrants := by
  intro h
  obtain ⟨-, htick, -⟩ := h quietMirror
  obtain ⟨t, ht, -, hgrant⟩ := htick (by decide)
  have hquiet : exec .budgetTick quietMirror = .next quietMirror.budgetRefill :=
    exec_budgetTick_quiet (by decide) (by decide +kernel)
  have ht' : t = quietMirror.budgetRefill := by rw [hquiet] at ht; exact (Host.Outcome.next.inj ht).symm
  have hpays : ¬ (if quietMirror.bit R.ENP_SBCFG F.ENP_SBCFG_EN = true then
      min (256000 * quietMirror.fld R.ENP_SBCFG F.ENP_SBCFG_CAP)
        (quietMirror.budget.tokens + (quietMirror.reg R.ENP_SBRATE).bits 15 0) else quietMirror.budget.tokens)
      < (if quietMirror.bit R.ENP_SBCFG F.ENP_SBCFG_EN = true then 256000 * mirroredRequest.cost else 0) := by decide +kernel
  have hq : quietMirror.budget.queue = [mirroredRequest] := rfl
  simp only [hq] at hgrant
  rw [if_neg hpays, if_neg (by simp)] at hgrant
  have hempty := congrArg Budget.queue (hgrant.1 rfl).1
  rw [ht', budgetRefill_queue] at hempty
  exact absurd hempty (by decide)

end Sys2Proof.Machine
end

section
/-!
PROOFS. What the reload of a timebase leaves of the energy path (R229 to R231, R335): its session, its registers, and which
timebases run.
-/

namespace Sys2Proof.Machine
namespace State

/-! ### Timebases -/

theorem tb_modTb_same (s : State) (t : Fin 10) (f : Timebase → Timebase) : (s.modTb t f).wfu.tb[t] = f s.wfu.tb[t] :=
  vupd_same s.wfu.tb t f

theorem tb_modTb_ne (s : State) {t k : Fin 10} (f : Timebase → Timebase) (h : k ≠ t) : (s.modTb t f).wfu.tb[k] = s.wfu.tb[k] :=
  vupd_ne s.wfu.tb f h

/-! ### Work outside the energy path -/

/-- A register outside block ENP, or the record in which a drive's request above CAP shows (R362). -/
def OutsideEnp (r : Nat) : Prop := r / 65536 ≠ 0xB ∨ r = R.ENP_SBST

/-- What is done outside the energy path leaves its session, its registers, and which timebases run or stop. -/
structure Spares (s t : State) : Prop where
  enp : t.enp = s.enp
  reg : ∀ r, ¬ OutsideEnp r → t.reg r = s.reg r
  running : ∀ k : Fin 10, (t.wfu.tb[k]).running = (s.wfu.tb[k]).running
  stopping : ∀ k : Fin 10, (t.wfu.tb[k]).stopping = (s.wfu.tb[k]).stopping

namespace Spares

variable {s u t : State}

theorem refl (s : State) : Spares s s := ⟨rfl, fun _ _ => rfl, fun _ => rfl, fun _ => rfl⟩

theorem trans (h : Spares s u) (h' : Spares u t) : Spares s t :=
  ⟨h'.enp.trans h.enp, fun r hr => (h'.reg r hr).trans (h.reg r hr), fun k => (h'.running k).trans (h.running k),
    fun k => (h'.stopping k).trans (h.stopping k)⟩

/-- A change of other parts. -/
theorem keep (h : Spares s u) (he : t.enp = u.enp) (hr : t.regs = u.regs) (hw : t.wfu.tb = u.wfu.tb) : Spares s t :=
  h.trans ⟨he, fun r _ => by simp only [State.reg, hr], fun k => by rw [hw], fun k => by rw [hw]⟩

theorem setReg (h : Spares s u) {r : Nat} (w : Word) (hr : OutsideEnp r) : Spares s (u.setReg r w) :=
  h.trans ⟨rfl, fun q hq => reg_setReg_ne u w (by rintro rfl; exact hq hr), fun _ => rfl, fun _ => rfl⟩

theorem setFld (h : Spares s u) {r : Nat} (f : Fld) (v : Nat) (hr : OutsideEnp r) : Spares s (u.setFld r f v) := h.setReg _ hr

theorem raise (h : Spares s u) {r : Nat} (f : Fld) (hr : OutsideEnp r) : Spares s (u.raise r f) := h.setReg _ hr

theorem countUp (h : Spares s u) {r : Nat} (f : Fld) (hr : OutsideEnp r) : Spares s (u.countUp r f) := h.setReg _ hr

theorem fire (h : Spares s u) (n : Nat) : Spares s (u.fire n) := h.keep rfl rfl rfl

theorem ite {c : Prop} [Decidable c] {a b : State} (ha : Spares s a) (hb : Spares s b) : Spares s (if c then a else b) := by
  split
  · exact ha
  · exact hb

theorem fireIf (h : Spares s u) (c : Bool) (n : Nat) : Spares s (u.fireIf c n) := ite (h.fire n) h

theorem applied_when (h : Spares s u) (c : Bool) {f : State → State} (hf : ∀ v, Spares s v → Spares s (f v)) :
    Spares s (u.when c f) := ite (hf u h) h

theorem iterated (h : Spares s u) {n : Nat} {f : Nat → State → State} (hf : ∀ i, i < n → ∀ v, Spares s v → Spares s (f i v)) :
    Spares s (forN n f u) := by
  induction n with
  | zero => exact h
  | succ n ih => exact hf n (Nat.lt_succ_self n) _ (ih fun i hi => hf i (Nat.lt_succ_of_lt hi))

theorem iteratedFin (h : Spares s u) {n : Nat} {f : Fin n → State → State} (hf : ∀ i v, Spares s v → Spares s (f i v)) :
    Spares s (forFin n f u) :=
  h.iterated fun i hi v hv => by rw [dif_pos hi]; exact hf _ v hv

theorem folded {α : Type} {l : List α} (h : Spares s u) {f : State → α → State}
    (hf : ∀ v, Spares s v → ∀ x ∈ l, Spares s (f v x)) : Spares s (l.foldl f u) := by
  induction l generalizing u with
  | nil => exact h
  | cons x l ih =>
    exact ih (hf u h x List.mem_cons_self) fun v hv y hy => hf v hv y (List.mem_cons_of_mem x hy)

theorem modLeg (h : Spares s u) (n : Nat) (f : Leg → Leg) : Spares s (u.modLeg n f) := h.keep rfl rfl rfl

theorem modDrive (h : Spares s u) (d : Fin 5) (f : ActDrive → ActDrive) : Spares s (u.modDrive d f) := h.keep rfl rfl rfl

theorem modAux (h : Spares s u) (f : AuxState → AuxState) : Spares s (u.modAux f) := h.keep rfl rfl rfl

theorem modPhase (h : Spares s u) (j : Nat) (f : AuxPhase → AuxPhase) : Spares s (u.modPhase j f) := h.modAux _

/-! ### Legs -/

theorem outside_legSt {n : Nat} (h : n < 42) : OutsideEnp (R.GDP_LEG_ST n) :=
  .inl (by simp only [R.GDP_LEG_ST]; omega)

theorem outside_wfuLegSt {n : Nat} (h : n < 42) : OutsideEnp (R.WFU_LEG_ST n) :=
  .inl (by simp only [R.WFU_LEG_ST]; omega)


variable {n : Nat}

theorem legPads (h : Spares s u) (hn : n < 42) : Spares s (u.legPads n) :=
  (h.modLeg n _).applied_when _ fun _ hv =>
    ((hv.raise _ (outside_legSt hn)).raise _ (.inl (by decide))).fireIf _ _

theorem legCommand (h : Spares s u) (hn : n < 42) (a b : Bool) (w : Option Switch) : Spares s (u.legCommand n a b w) :=
  (h.modLeg n _).legPads hn

theorem legSettle (h : Spares s u) (hn : n < 42) (a b : Bool) : Spares s (u.legSettle n a b) :=
  ite (h.legCommand hn _ _ _)
    (ite (ite (h.legCommand hn _ _ _) (ite (h.legCommand hn _ _ _) (h.legCommand hn _ _ _)))
      (ite (ite (h.legCommand hn _ _ _) (ite (h.legCommand hn _ _ _) (h.legCommand hn _ _ _))) (h.legCommand hn _ _ _)))

theorem legEdge (h : Spares s u) (hn : n < 42) (w : Switch) : Spares s (u.legEdge n w) := by
  cases w <;> exact ite (h.legCommand hn _ _ _) (h.legCommand hn _ _ _)

theorem legApply (h : Spares s u) (hn : n < 42) : Spares s (u.legApply n) := by
  unfold State.legApply
  cases u.legRow n with
  | hiz => exact (h.modLeg n _).legCommand hn _ _ _
  | activeShort | safe _ _ | forced _ _ => exact (h.modLeg n _).legSettle hn _ _
  | table | wave => exact h.legPads hn
  | skipped => exact h.legSettle hn _ _

theorem legsApply (h : Spares s u) : Spares s u.legsApply :=
  h.iterated fun _ hi _ hv => ite (hv.legApply hi) hv

theorem legTake (h : Spares s u) (hn : n < 42) (r a b : Bool) : Spares s (u.legTake n r a b) :=
  ite (h.legSettle hn _ _) (ite (h.legEdge hn _) (ite (h.legEdge hn _) (h.legCommand hn _ _ _)))

theorem legSkip (h : Spares s u) (hn : n < 42) : Spares s (u.legSkip n) := ite h ((h.modLeg n _).legApply hn)

theorem legSuppressed (h : Spares s u) (hn : n < 42) : Spares s (u.legSuppressed n) :=
  (((h.countUp _ (outside_wfuLegSt hn)).raise _ (outside_wfuLegSt hn)).raise _ (.inl (by decide))).fireIf _ _

theorem legForm (h : Spares s u) (hn : n < 42) : Spares s (u.legForm n) :=
  (((h.modLeg n _).applied_when _ fun _ hv => hv.legSuppressed hn).applied_when _ fun _ hv => hv.legSuppressed hn).applied_when _
    fun _ hv => hv.countUp _ (outside_wfuLegSt hn)

theorem legEnded (h : Spares s u) : Spares s (u.legEnded n) := h.modLeg n _

theorem legValley (h : Spares s u) (hn : n < 42) : Spares s (u.legValley n) := by
  have hskip := (h.modLeg n fun x => { x with td := u.bit (R.WFU_LEG_CFG n) F.WFU_LEG_CFG_TD }).legSkip hn
  unfold State.legValley
  extract_lets skipped joins v
  have hv : Spares s v := hskip
  cases v.legRow n with
  | skipped => exact ite hv hv.legEnded
  | wave =>
    have hformed := ((ite (c := skipped = true) hv (hv.legEnded (n := n))).legForm hn).modLeg n
    exact ite (ite ((hformed _).legSettle hn _ _) ((hformed _).legCommand hn _ _ _))
      (ite (hformed _) ((hformed _).legTake hn _ _ _))
  | table => exact ite ((hv.modLeg n _).legSettle hn _ _) (ite (hv.legTake hn _ _ _) hv)
  | hiz | activeShort | safe _ _ | forced _ _ => exact hv

/-! ### Commit points and triggers -/

theorem commitPoint (h : Spares s u) {owned : Nat → Bool} {apply : State → Nat → Word → State}
    (ha : ∀ v r w, owned r = true → Spares s v → Spares s (apply v r w)) : Spares s (u.commitPoint owned apply) := by
  unfold State.commitPoint
  refine folded ?_ fun v hv p hp => ha v p.1 p.2 (List.mem_filter.mp hp).2 hv
  exact h.keep rfl rfl rfl

theorem modConv (h : Spares s u) (k : Fin 8) (f : AcqConv → AcqConv) : Spares s (u.modConv k f) := h.keep rfl rfl rfl

theorem scanStart (h : Spares s u) (k : Fin 8) (td : Option (Fin 2)) : Spares s (u.scanStart k td) := by
  unfold State.scanStart
  extract_lets chans queued need qmask qpri v
  have hv : Spares s v := h.modConv k _
  refine ite h (ite (hv.modConv k _) (ite (hv.modConv k _) ?_))
  exact ((hv.modConv k _).raise _ (.inl (by decide))).fire _

theorem triggerConv (h : Spares s u) (k : Fin 8) (td : Option (Fin 2)) : Spares s (u.triggerConv k td) := by
  have hstat : OutsideEnp (R.ACQ_C_STAT k.val) := .inl (by simp only [R.ACQ_C_STAT]; omega)
  unfold State.triggerConv
  extract_lets c
  exact ite (h.scanStart k td) (ite (h.modConv k _) (((h.countUp _ hstat).raise _ (.inl (by decide))).fire _))

theorem acqTrigger (h : Spares s u) (code : Nat) : Spares s (u.acqTrigger code) := by
  unfold State.acqTrigger
  exact h.iteratedFin fun k _ hv => hv.applied_when _ fun _ hw => hw.triggerConv k _

theorem smplReload (h : Spares s u) : Spares s u.smplReload :=
  ite h (ite (h.keep rfl rfl rfl) (ite (h.keep rfl rfl rfl) (h.keep rfl rfl rfl)))

/-- The shadowed registers of the legs lie in block WFU. -/
theorem block_of_legOfReg {r n : Nat} (h : legOfReg r = some n) : r / 65536 = 4 := by
  unfold legOfReg at h
  split at h
  next hr =>
    simp only [Bool.and_eq_true, decide_eq_true_eq] at hr
    simp only [R.WFU_LEG_CFG] at hr
    omega
  next => cases h

theorem outside_wfuOwned {v : State} {t r : Nat} (ht : t < 10) (h : v.wfuOwned t r = true) : OutsideEnp r := by
  left
  unfold wfuOwned at h
  split at h
  next hn => have := block_of_legOfReg hn; omega
  next => simp only [R.WFU_TB_CFG, Bool.or_false, beq_iff_eq] at h; omega

theorem vcmdCommit (h : Spares s u) (t : Nat) : Spares s (u.vcmdCommit t) := by
  refine h.iterated fun x hx v hv => hv.iterated fun i _ w hw => ite ?_ hw
  have hr : OutsideEnp (if i = 0 then R.TDU_VCMD1 x else R.TDU_VCMD2 x) := by
    left; split <;> simp only [R.TDU_VCMD1, R.TDU_VCMD2] <;> omega
  split
  · exact setReg (u := { w with cleShadow := kvErase w.cleShadow _ }) (hw.keep rfl rfl rfl) _ hr
  · exact hw

theorem modTb (h : Spares s u) (t : Fin 10) {f : Timebase → Timebase}
    (hf : ∀ x, (f x).running = x.running ∧ (f x).stopping = x.stopping) : Spares s (u.modTb t f) := by
  refine h.trans ⟨rfl, fun _ _ => rfl, fun k => ?_, fun k => ?_⟩ <;> by_cases e : k = t
  · subst e; rw [tb_modTb_same, (hf _).1]
  · rw [tb_modTb_ne _ _ e]
  · subst e; rw [tb_modTb_same, (hf _).2]
  · rw [tb_modTb_ne _ _ e]

theorem reloadCommit (h : Spares s u) (t : Fin 10) : Spares s (u.reloadCommit t) := by
  have hk := (h.modTb t (f := fun x => { x with k := (x.k + 1) % 16, down := false }) fun _ => ⟨rfl, rfl⟩).fire (96 + t.val)
  unfold State.reloadCommit
  refine State.Spares.acqTrigger (State.Spares.vcmdCommit (State.Spares.commitPoint ?_ fun v r w hr hv => ?_) _) _
  · exact (ite (c := t.val = 0) hk.smplReload hk).keep rfl rfl rfl
  · exact hv.setReg w (outside_wfuOwned t.isLt hr)

/-! ### Actuators -/

theorem mem_actLegs {d : Fin 5} {n : Nat} (h : n ∈ actLegs d.val) : n < 42 := by
  simp only [actLegs, List.mem_cons, List.not_mem_nil, or_false] at h; omega

theorem outside_st (d : Fin 5) : OutsideEnp (R.ACT_D_ST d.val) := .inl (by simp only [R.ACT_D_ST]; omega)
theorem outside_spd (d : Fin 5) : OutsideEnp (R.ACT_D_SPD d.val) := .inl (by simp only [R.ACT_D_SPD]; omega)
theorem outside_ang (d : Fin 5) : OutsideEnp (R.ACT_D_ANG d.val) := .inl (by simp only [R.ACT_D_ANG]; omega)
theorem outside_cmd (d : Fin 5) : OutsideEnp (R.ACT_D_CMD d.val) := .inl (by simp only [R.ACT_D_CMD]; omega)

variable {d : Fin 5}

theorem setActState (h : Spares s u) (c : Nat) : Spares s (u.setActState d c) := h.setFld _ _ (outside_st d)
theorem setActStatus (h : Spares s u) (st : Status) : Spares s (u.setActStatus d st) := h.setFld _ _ (outside_st d)
theorem modBudget (h : Spares s u) (f : Budget → Budget) : Spares s (u.modBudget f) := h.keep rfl rfl rfl
theorem budgetWithdraw (h : Spares s u) (p : Nat) : Spares s (u.budgetWithdraw p) := h.modBudget _

theorem budgetJudge (h : Spares s u) (p c : Nat) (partner : Bool) : Spares s (u.budgetJudge p c partner).2 := by
  unfold State.budgetJudge
  extract_lets w cost
  split
  · exact h
  · split
    · exact h.raise F.ENP_SBST_OOR (.inr rfl)
    · dsimp only
      exact h.modBudget _

theorem budgetAsk (h : Spares s u) (p c : Nat) : Spares s (u.budgetAsk p c).2 := by
  unfold State.budgetAsk
  split
  · dsimp only
    exact h.modBudget _
  · exact h.budgetJudge p c false

theorem actRelease (h : Spares s u) : Spares s (u.actRelease d) :=
  h.folded fun _ hv n hn => (hv.modLeg n _).legApply (mem_actLegs hn)

theorem actForce (h : Spares s u) (l : List (Bool × Bool)) : Spares s (u.actForce d l) :=
  h.folded fun _ hv p hp => (hv.modLeg p.1 _).legApply (mem_actLegs (List.of_mem_zip hp).1)

theorem actEnd (h : Spares s u) (st : Status) : Spares s (u.actEnd d st) :=
  (((((h.budgetWithdraw _).setActState 0).setActStatus st).setFld _ _ (outside_st d)).modDrive d _).actRelease

theorem actGranted (h : Spares s u) : Spares s (u.actGranted d) :=
  have hl := ((h.modDrive d fun x => { x with m := [], taken := 0, order := none }).modDrive d fun x =>
    { x with spdI := 0, curD := 0, curQ := 0, iq := 0, vd := 0, vq := 0, ramp := 0 })
  ite ((hl.setActState 2).actForce _) (hl.setActState 3)

theorem actAttempt (h : Spares s u) (retry : Bool) : Spares s (u.actAttempt d retry) := by
  unfold State.actAttempt
  extract_lets v v' a
  have hv' : Spares s v' := (((h.budgetWithdraw d.val).setActStatus .busy).actRelease).modDrive d _
  refine ite ((hv'.setActState 0).raise _ (outside_st d)) ?_
  have ha := (hv'.setFld F.ACT_D_ST_PAUSE 0 (outside_st d)).budgetAsk d.val (a.fld (R.ACT_D_CFG d.val) F.ACT_D_CFG_COST)
  split
  next heq => rw [heq] at ha; exact ha.actGranted
  next heq => rw [heq] at ha; exact ha.actEnd _
  next heq => rw [heq] at ha; exact ha.setActState 1

theorem actSucceed (h : Spares s u) : Spares s (u.actSucceed d) :=
  (ite (c := (u.drive d).retrying = true) ((h.setActStatus _).countUp _ (outside_st d)) (h.setActStatus _)).modDrive d _

theorem actGo (h : Spares s u) (w : Word) : Spares s (u.actGo d w) := by
  unfold State.actGo
  extract_lets was v st move v' a a'
  have hv : Spares s v' := (h.setReg w (outside_cmd d)).modDrive d _
  have ha : Spares s a' := (((hv.setActState 4).fireIf _ 200).setActStatus .busy).modDrive d _
  exact ite hv (ite (hv.actEnd _) (ite (hv.actEnd _) (ite ((hv.actEnd _).raise _ (.inl (by decide))) (ite (hv.actAttempt _)
    (ite (ite ha ha.actSucceed) (ite (hv.actAttempt _) (ite (hv.setActStatus _) (hv.actAttempt _))))))))

theorem actApply (h : Spares s u) {r : Nat} {w : Word} {e : Fin 5} (hr : driveOfReg r = some e) : Spares s (actApply u r w) := by
  have hb : OutsideEnp r := by
    left
    unfold driveOfReg at hr
    split at hr
    next hlt =>
      simp only [Bool.and_eq_true, decide_eq_true_eq] at hlt
      simp only [R.ACT_D_CFG] at hlt
      omega
    next => cases hr
  simp only [State.actApply, hr]
  exact ite (ite ((h.setReg w (outside_cmd e)).actEnd _) (h.actGo w)) (h.setReg w hb)

theorem actObserve (h : Spares s u) : Spares s (u.actObserve d) :=
  (ite (h.setReg _ (outside_spd d)) h).setFld _ _ (outside_ang d)

theorem actCompares (h : Spares s u) : Spares s (u.actCompares d) := by
  unfold State.actCompares
  extract_lets t p dr ahead cmp c legs set plain lo hi mid tw x y
  have hset : ∀ {v}, Spares s v → ∀ k a b, Spares s (set v k a b) := fun hv k a b => hv.modLeg _ _
  have hplain : Spares s (plain u) := hset (hset (hset h _ _ _) _ _ _) _ _ _
  exact ite hplain (ite (((hplain.modDrive d _).countUp _ (outside_st d)).raise _ (.inl (by decide)))
    ((hset (hset (hset h _ _ _) _ _ _) _ _ _).modDrive d _))

theorem actCurrentLoop (h : Spares s u) : Spares s (u.actCurrentLoop d) := h.modDrive d _

theorem actPeriod (h : Spares s u) : Spares s (u.actPeriod d) :=
  (h.actObserve.actCurrentLoop.actCompares).modDrive d _

theorem actReload (h : Spares s u) (t : Nat) : Spares s (u.actReload t) := by
  unfold State.actReload
  refine iteratedFin (applied_when (commitPoint h fun v r w hr hv => ?_) _ fun _ hv => hv.acqTrigger _)
    fun d _ hv => ite hv.actPeriod hv
  unfold actOwned at hr
  split at hr
  next e he => exact hv.actApply he
  next => cases hr

/-! ### Converter, table drive, and the end of a reload -/

theorem auxLegs (h : Spares s u) : Spares s u.auxLegs := h.iterated fun j hj _ hv => (hv.modLeg _ _).legApply (by omega)

theorem auxRaise (h : Spares s u) (f : Fld) : Spares s (u.raise R.AUX_STAT f) := h.raise f (.inl (by decide))

theorem auxCount (h : Spares s u) (f : Fld) : Spares s (u.auxCount f) := h.countUp f (.inl (by decide))

theorem auxStep (h : Spares s u) : Spares s u.auxStep := by
  unfold State.auxStep
  extract_lets itot rise drop v a
  have hv : Spares s v := h.modAux _
  have ha : Spares s a := (hv.auxRaise _).auxCount _
  refine ite hv ?_
  split
  · exact (((ha.modPhase _ _).modAux _).auxRaise _).auxCount _
  · exact ha

theorem auxRamp (h : Spares s u) : Spares s u.auxRamp := by
  unfold State.auxRamp
  split
  · exact h
  · exact (h.modPhase _ _).modAux _

theorem auxBalance (h : Spares s u) : Spares s u.auxBalance :=
  h.folded fun _ hv _ _ => (hv.modPhase _ _).applied_when _ fun _ hv => hv.auxRaise _

theorem auxCompares (h : Spares s u) (t : Nat) : Spares s (u.auxCompares t) := h.folded fun _ hv _ _ => hv.modLeg _ _

theorem auxReload (h : Spares s u) (t : Nat) : Spares s (u.auxReload t) := by
  have hc : Spares s (u.commitPoint auxOwned fun s r w => s.setReg r w) :=
    h.commitPoint fun v r w hr hv => hv.setReg w (.inl (by rw [of_decide_eq_true hr]; decide))
  exact ite h (ite (hc.auxStep.auxRamp.auxBalance.auxCompares t).auxLegs hc.auxLegs)

theorem tdModulate (h : Spares s u) (x : Fin 2) (t : Nat) : Spares s (u.tdModulate x t) :=
  ite h (h.iterated fun _ _ _ hv => ite hv (hv.iteratedFin fun _ _ hw => hw.modLeg _ _))

/-- A reload of a timebase that is not to stop. -/
theorem reload (h : Spares s u) (t : Fin 10) (ht : (u.wfu.tb[t]).stopping = false) : Spares s (u.reload t) := by
  unfold State.reload
  extract_lets v w
  have hw : Spares u w :=
    ((((refl u).reloadCommit t).actReload t.val).auxReload t.val).iteratedFin fun x _ hv => hv.tdModulate x t.val
  unfold reloadLegs
  rw [if_neg (by rw [hw.stopping t, ht]; decide)]
  exact ((h.trans hw).legsApply).folded fun _ hv n hn =>
    ite (hv.legValley (by have := (List.mem_filter.mp hn).1; simpa using this)) hv

end Spares

/-! ### The charger's timebases (R335) -/

/-- An iteration whose steps but one do nothing. -/
theorem forFin_only {σ : Type} {n : Nat} {f : Fin n → σ → σ} (k : Fin n) (h : ∀ i, i ≠ k → ∀ x, f i x = x) (x : σ) :
    forFin n f x = f k x := by
  have hskip : ∀ m, m ≤ n → forN m (fun i s => if h : i < n then f ⟨i, h⟩ s else s) x = if k.val < m then f k x else x := by
    intro m
    induction m with
    | zero => intro _; rfl
    | succ m ih =>
      intro hm
      rw [forN, ih (Nat.le_of_succ_le hm), dif_pos (Nat.lt_of_succ_le hm)]
      by_cases e : m = k.val
      · subst e; rw [if_neg (Nat.lt_irrefl _), if_pos (Nat.lt_succ_self _)]
      · rw [h ⟨m, hm⟩ (fun c => e (congrArg Fin.val c))]
        exact if_congr (by omega) rfl rfl
  rw [forFin, hskip n (Nat.le_refl n), if_pos k.isLt]

theorem tbMask_bit (k i : Fin 10) : (BitVec.ofNat 10 (2 ^ k.val)).getLsbD i.val = decide (i = k) := by
  rw [getLsbD_pow2 _ _ k.isLt]; simp [Fin.ext_iff]

/-- A stop asked of one timebase. -/
theorem enpStopTb_eq (s : State) (b : Bool) : s.enpStopTb b =
    if (s.wfu.tb[s.enpTb b]).running = true then s.modTb (s.enpTb b) fun x => { x with stopping := true } else s := by
  rw [enpStopTb, tbStop, forFin_only (s.enpTb b) fun i hi x => by rw [tbMask_bit]; simp [hi]]
  rw [tbMask_bit]; simp

/-- A start of one timebase. -/
theorem enpStartTb_eq (s : State) (b : Bool) : s.enpStartTb b =
    if (s.wfu.tb[s.enpTb b]).running = true then s.modTb (s.enpTb b) fun x => { x with stopping := false }
    else ((if (s.enpTb b).val = 0 then s.modClk fun c => { c with aligned := false, reloads := 0 } else s).modTb (s.enpTb b)
      fun x => { x with running := true, stopping := false }).reload (s.enpTb b) := by
  rw [enpStartTb, tbStart, forFin_only (s.enpTb b) fun i hi x => by rw [tbMask_bit]; simp [hi]]
  rw [tbMask_bit]; simp

/-- A start leaves the session and its registers, and the timebase runs. -/
theorem enpStartTb_spares (s : State) (b : Bool) : (s.enpStartTb b).enp = s.enp
    ∧ (∀ r, ¬ OutsideEnp r → (s.enpStartTb b).reg r = s.reg r) ∧ ((s.enpStartTb b).wfu.tb[s.enpTb b]).running = true := by
  rw [enpStartTb_eq]
  split
  next hrun => exact ⟨rfl, fun _ _ => rfl, by rw [tb_modTb_same]; exact hrun⟩
  next =>
    set u := if (s.enpTb b).val = 0 then s.modClk fun c => { c with aligned := false, reloads := 0 } else s with hu
    have hsu : Spares s u := Spares.ite ((Spares.refl s).keep rfl rfl rfl) (Spares.refl s)
    set v := u.modTb (s.enpTb b) fun x => { x with running := true, stopping := false } with hv
    have htb : v.wfu.tb[s.enpTb b] = { u.wfu.tb[s.enpTb b] with running := true, stopping := false } := tb_modTb_same _ _ _
    have hload : Spares v (v.reload (s.enpTb b)) := (Spares.refl v).reload _ (by rw [htb])
    exact ⟨hload.enp.trans hsu.enp, fun r hr => (hload.reg r hr).trans (hsu.reg r hr), by rw [hload.running, htb]⟩

end State
end Sys2Proof.Machine
end

section
/-!
PROOFS. The session's shared operations (R335, R348, R353, R356): what each leaves alone, and where it leaves the session.
-/

namespace Sys2Proof.Machine

/-- The session when a start step is lost: S2 and the relays commanded open, nothing asked, no failure kept (R348). -/
def EnpState.stepLost (e : EnpState) (p : EnpPhase) : EnpState :=
  { e with
    phase := p, s2 := false, asked := false, pause := false, mainsFailed := false, linkFailed := false, relayFailed := false
    relay := false, relayPad := some false, confirmed := if e.confirmed = some false then e.confirmed else none }

namespace State

/-! ### Reading bits and pending events -/

/-- Another bit, of the same register or of another, keeps its value. -/
theorem bit_setFld_ne (s : State) {r q : Nat} {f g : Fld} (v : Nat) (h : q ≠ r ∨ g.lo < f.lo ∨ f.hi < g.lo) :
    (s.setFld r f v).bit q g = s.bit q g := by
  simp only [bit, reg_setFld]
  split
  next e => subst e; exact Word.bit_setBits_ne _ _ (by omega)
  next => rfl

theorem bit_setFld_same (s : State) (r : Nat) {f : Fld} (b : Bool) (h : f.hi = f.lo) (h' : f.lo < 32) :
    (s.setFld r f (Word.ofBool b)).bit r f = b := by
  simp only [bit, reg_setFld, if_pos, h]
  rw [Word.bit_setBits_one _ h']
  cases b <;> rfl

theorem bit_raise_ne (s : State) {r q : Nat} {f g : Fld} (h : q ≠ r ∨ g.lo < f.lo ∨ f.hi < g.lo) :
    (s.raise r f).bit q g = s.bit q g := bit_setFld_ne s 1 h

theorem pend_fire (s : State) {n : Nat} (h : n < 256) (k : Nat) :
    (s.fire n).evt.pend.getLsbD k = (s.evt.pend.getLsbD k || decide (k = n)) := by
  change (s.evt.pend ||| BitVec.ofNat 256 (2 ^ n)).getLsbD k = _
  rw [BitVec.getLsbD_or, getLsbD_pow2 _ _ h]

theorem pend_fire_same (s : State) {n : Nat} (h : n < 256) : (s.fire n).evt.pend.getLsbD n = true := by
  rw [pend_fire s h]; simp

/-- A pending event stays pending. -/
theorem pend_fire_of {s : State} {k : Nat} (hk : s.evt.pend.getLsbD k = true) (n : Nat) :
    (s.fire n).evt.pend.getLsbD k = true := by
  change (s.evt.pend ||| BitVec.ofNat 256 (2 ^ n)).getLsbD k = _
  rw [BitVec.getLsbD_or, hk, Bool.true_or]

theorem pend_fireIf_of {s : State} {k : Nat} (hk : s.evt.pend.getLsbD k = true) (c : Bool) (n : Nat) :
    (s.fireIf c n).evt.pend.getLsbD k = true := by
  unfold fireIf; split
  · exact pend_fire_of hk n
  · exact hk

/-! ### What the energy path may change -/

namespace energyOnly

variable {s u t : State}

theorem refl (s : State) : s.energyOnly s :=
  ⟨⟨rfl, fun _ _ => rfl, fun _ _ => rfl, fun c _ => (sameBut_refl s [] []).2.2.2 c (by simp)⟩, rfl, rfl⟩

theorem trans (h : s.energyOnly u) (h' : u.energyOnly t) : s.energyOnly t := by
  obtain ⟨⟨hp, hr, hb, hc⟩, hleg, hcle⟩ := h
  obtain ⟨⟨hp', hr', hb', hc'⟩, hleg', hcle'⟩ := h'
  refine ⟨⟨hp'.trans hp, fun r n => (hr' r n).trans (hr r n), fun a n => (hb' a n).trans (hb a n), fun c n => ?_⟩,
    hleg'.trans hleg, hcle'.trans hcle⟩
  have h1 := hc c n
  have h2 := hc' c n
  cases c with
  | engines | latches => exact fun e => (h2 e).trans (h1 e)
  | _ => exact Eq.trans h2 h1

/-- Frames that name only registers and parts of the energy path. -/
theorem of_sameBut {regs : List Nat} {parts : List Comp} (h : s.sameBut t regs parts) (hr : ∀ r ∈ regs, r / 65536 = 0xB)
    (hp : ∀ c ∈ parts, c ∈ [Comp.enp, .budget, .latches, .pending, .free]) : s.energyOnly t := by
  obtain ⟨hpend, hreg, hbyte, hsame⟩ := h
  have hcomp : ∀ c, c ∉ [Comp.enp, .budget, .latches, .pending, .free] → c.same s t := fun c hc => hsame c fun h => hc (hp c h)
  refine ⟨⟨hpend, fun r n => hreg r fun h => n (hr r h), fun a _ => hbyte a, fun c n => hcomp c fun h => n ?_⟩,
    congrArg WfuState.leg (hcomp .wfu (by decide)), congrArg (fun x : CleState => { x with spr := [] }) (hcomp .cle (by decide))⟩
  exact (by decide : ∀ c ∈ [Comp.enp, .budget, .latches, .pending, .free],
    c ∈ [Comp.enp, .budget, .wfu, .cle, .latches, .pending, .free]) c h

/-- A change of the session, the budget, the timebases and the replaced set-points. -/
theorem keep (h : s.energyOnly u) (e : EnpState) (b : Budget) (tb : Vector Timebase 10) (spr : List (Nat × Int)) :
    s.energyOnly { u with enp := e, budget := b, wfu := { u.wfu with tb := tb }, cle := { u.cle with spr := spr } } := by
  refine h.trans ⟨⟨rfl, fun _ _ => rfl, fun _ _ => rfl, fun c n => ?_⟩, rfl, rfl⟩
  cases c with
  | enp | budget | wfu | cle => exact absurd (by decide) n
  | engines | latches => exact fun _ => rfl
  | _ => rfl

theorem modEnp (h : s.energyOnly u) (f : EnpState → EnpState) : s.energyOnly (u.modEnp f) :=
  h.keep (f u.enp) u.budget u.wfu.tb u.cle.spr

theorem modBudget (h : s.energyOnly u) (f : Budget → Budget) : s.energyOnly (u.modBudget f) :=
  h.keep u.enp (f u.budget) u.wfu.tb u.cle.spr

theorem budgetWithdraw (h : s.energyOnly u) (p : Nat) : s.energyOnly (u.budgetWithdraw p) := h.modBudget _

theorem replaceSpr (h : s.energyOnly u) (n : Nat) (v : Int) : s.energyOnly (u.replaceSpr n v) :=
  h.keep u.enp u.budget u.wfu.tb _

theorem modTb (h : s.energyOnly u) (t : Fin 10) (f : Timebase → Timebase) : s.energyOnly (u.modTb t f) :=
  h.keep u.enp u.budget _ u.cle.spr

theorem setReg (h : s.energyOnly u) {r : Nat} (w : Word) (hr : r / 65536 = 0xB) : s.energyOnly (u.setReg r w) :=
  h.trans (of_sameBut (sameBut_setReg (sameBut_refl u [r] []) r w (by simp)) (by simpa using hr) (by simp))

theorem setFld (h : s.energyOnly u) {r : Nat} (f : Fld) (v : Nat) (hr : r / 65536 = 0xB) : s.energyOnly (u.setFld r f v) :=
  h.setReg _ hr

theorem raise (h : s.energyOnly u) {r : Nat} (f : Fld) (hr : r / 65536 = 0xB) : s.energyOnly (u.raise r f) := h.setReg _ hr

theorem fire (h : s.energyOnly u) (n : Nat) : s.energyOnly (u.fire n) :=
  h.trans (of_sameBut (sameBut_fire (sameBut_refl u [] [.latches, .pending]) n (by simp) (by simp)) (by simp) (by simp))

theorem ite {c : Prop} [Decidable c] {a b : State} (ha : s.energyOnly a) (hb : s.energyOnly b) :
    s.energyOnly (if c then a else b) := by
  split
  · exact ha
  · exact hb

theorem fireIf (h : s.energyOnly u) (c : Bool) (n : Nat) : s.energyOnly (u.fireIf c n) := ite (h.fire n) h

theorem setEnp (h : s.energyOnly u) (p : EnpPhase) : s.energyOnly (u.setEnp p) := (h.modEnp _).fireIf _ _

theorem enpRelay (h : s.energyOnly u) (c : Bool) : s.energyOnly (u.enpRelay c) := h.modEnp _

theorem enpStopTb (h : s.energyOnly u) (b : Bool) : s.energyOnly (u.enpStopTb b) := by
  rw [enpStopTb_eq]; exact ite (h.modTb _ _) h

theorem enpDetect (h : s.energyOnly u) : s.energyOnly u.enpDetect := ite (h.setEnp _) h

theorem enpBack (h : s.energyOnly u) : s.energyOnly u.enpBack := by
  have hb := fun f => ((((((h.enpStopTb true).enpStopTb false).enpRelay false).budgetWithdraw 6).budgetWithdraw 7).modEnp f)
  exact ite ((hb _).setEnp _) ((hb _).setEnp _).enpDetect

theorem setBms (h : s.energyOnly u) (n : Nat) : s.energyOnly (u.setBms n) := (h.setFld _ _ (by decide)).fireIf _ _

theorem pilotLim (h : s.energyOnly u) : s.energyOnly u.pilotLim := ite h (h.setFld _ _ (by decide))

theorem enpDone (h : s.energyOnly u) (c : Nat) (st : Status) (n : EnpPhase) : s.energyOnly (u.enpDone c st n) := by
  have hr := fun f => ((((h.budgetWithdraw 6).budgetWithdraw 7).setFld F.ENP_STATE_CAUSE c (r := R.ENP_STATE) (by decide)).setFld
    F.ENP_STATE_STATUS st.code (r := R.ENP_STATE) (by decide)).modEnp f
  exact (((ite ((hr _).setBms 0) (hr _)).pilotLim).fire _).fireIf _ _

theorem irefZero (h : s.energyOnly u) : s.energyOnly u.irefZero := by
  unfold State.irefZero
  have h0 := h.setFld F.ENP_LIM1_IREF 0 (r := R.ENP_LIM1) (by decide)
  dsimp only
  split
  · exact h0.replaceSpr _ _
  · exact h0

theorem hingeAdvance (h : s.energyOnly u) : s.energyOnly u.hingeAdvance := by
  unfold State.hingeAdvance
  extract_lets v w
  have hv : s.energyOnly v := ite ((h.modEnp _).enpStopTb _) h
  have hw : s.energyOnly w := ite ((hv.modEnp _).enpRelay _) hv
  exact ite (hw.enpDone _ _ _) hw

theorem hingeStart (h : s.energyOnly u) (c : Nat) (st : Status) (n : EnpPhase) : s.energyOnly (u.hingeStart c st n) :=
  (((((h.budgetWithdraw 6).budgetWithdraw 7).modEnp _).irefZero.fire 194).enpStopTb true).hingeAdvance

theorem sourceLoss (h : s.energyOnly u) (c : Nat) : s.energyOnly (u.sourceLoss c) := ite (h.hingeStart _ _ _) h

end energyOnly
/-! ### What the energy path shows -/

/-- The registers in which the session's own operations record what they do, and a request above CAP shows. -/
def sessionRegs : List Nat := [R.ENP_STAT, R.ENP_STATE, R.ENP_LIM0, R.ENP_LIM1, R.ENP_BMSST, R.ENP_SBST]

/-- The pilot limit is that of the pilot shown (R339). -/
def PilotFits (s : State) : Prop :=
  s.fld R.ENP_LIM0 F.ENP_LIM0_PILOT = pilotLimit (s.bit R.ENP_SRCST F.ENP_SRCST_PWM) (s.fld R.ENP_PLTST F.ENP_PLTST_DUTY)

theorem pilotLimit_lt (pwm : Bool) (d : Nat) : pilotLimit pwm d < 65536 := by
  unfold pilotLimit
  split_ifs <;> omega

theorem pilotFits_setFld (s : State) : (s.setFld R.ENP_LIM0 F.ENP_LIM0_PILOT (pilotLimit (s.bit R.ENP_SRCST F.ENP_SRCST_PWM)
    (s.fld R.ENP_PLTST F.ENP_PLTST_DUTY))).PilotFits := by
  rw [PilotFits, fld_setFld_same _ _ _ _ (by decide), fld_setFld_ne _ _ _ _ _ _ (.inl (by decide))]
  rw [bit_setFld_ne _ _ (.inl (by decide))]
  exact Nat.mod_eq_of_lt (pilotLimit_lt _ _)

/-- `t` shows of pilot, proximity and mains what `s` shows; flags of `ENP_STAT` may have been set. -/
structure Shows (s t : State) : Prop where
  reg : ∀ r, r / 65536 = 0xB → r ∉ sessionRegs → t.reg r = s.reg r
  flags : ∀ i, (s.reg R.ENP_STAT).bit i = true → (t.reg R.ENP_STAT).bit i = true
  cable : t.fld R.ENP_LIM0 F.ENP_LIM0_CABLE = s.fld R.ENP_LIM0 F.ENP_LIM0_CABLE
  vehicle : s.enp.exporting = false → t.enp.exporting = false
  pilot : s.enp.exporting = false → s.PilotFits → t.PilotFits
  miss : t.enp.miss = s.enp.miss
  sumsq : t.enp.sumsq = s.enp.sumsq
  count : t.enp.count = s.enp.count
  rms : t.enp.rms = s.enp.rms

namespace Shows

variable {s u t : State}

theorem refl (s : State) : Shows s s :=
  ⟨fun _ _ _ => rfl, fun _ h => h, rfl, fun h => h, fun _ h => h, rfl, rfl, rfl, rfl⟩

theorem trans (h : Shows s u) (h' : Shows u t) : Shows s t where
  reg r hr n := (h'.reg r hr n).trans (h.reg r hr n)
  flags i hi := h'.flags i (h.flags i hi)
  cable := h'.cable.trans h.cable
  vehicle hx := h'.vehicle (h.vehicle hx)
  pilot hx hp := h'.pilot (h.vehicle hx) (h.pilot hx hp)
  miss := h'.miss.trans h.miss
  sumsq := h'.sumsq.trans h.sumsq
  count := h'.count.trans h.count
  rms := h'.rms.trans h.rms

theorem fld (h : Shows s t) {r : Nat} (f : Fld) (hr : r / 65536 = 0xB) (hn : r ∉ sessionRegs) : t.fld r f = s.fld r f := by
  simp only [State.fld, h.reg r hr hn]

theorem bit (h : Shows s t) {r : Nat} (f : Fld) (hr : r / 65536 = 0xB) (hn : r ∉ sessionRegs) : t.bit r f = s.bit r f := by
  simp only [State.bit, h.reg r hr hn]

/-- Registers that stand but for those of the session's records other than flags and limits. -/
theorem of_reg (hr : ∀ r, r / 65536 = 0xB → r ∉ [R.ENP_STATE, R.ENP_LIM1, R.ENP_BMSST, R.ENP_SBST] → t.reg r = s.reg r)
    (hv : s.enp.exporting = false → t.enp.exporting = false) (hm : t.enp.miss = s.enp.miss) (hq : t.enp.sumsq = s.enp.sumsq)
    (hc : t.enp.count = s.enp.count) (hi : t.enp.rms = s.enp.rms) : Shows s t where
  reg r hb hn := hr r hb fun h => hn ((by decide :
    ∀ r ∈ [R.ENP_STATE, R.ENP_LIM1, R.ENP_BMSST, R.ENP_SBST], r ∈ sessionRegs) r h)
  flags i h := by rw [hr R.ENP_STAT (by decide) (by decide)]; exact h
  cable := by simp only [State.fld, hr R.ENP_LIM0 (by decide) (by decide)]
  vehicle := hv
  pilot _ hp := by
    simpa only [PilotFits, State.fld, State.bit, hr R.ENP_LIM0 (by decide) (by decide), hr R.ENP_SRCST (by decide) (by decide),
      hr R.ENP_PLTST (by decide) (by decide)] using hp
  miss := hm
  sumsq := hq
  count := hc
  rms := hi

/-- A change that leaves registers and the sensing of mains, and does not begin exporting. -/
theorem keep (h : Shows s u) (hr : ∀ r, t.reg r = u.reg r) (hv : u.enp.exporting = false → t.enp.exporting = false)
    (hm : t.enp.miss = u.enp.miss) (hq : t.enp.sumsq = u.enp.sumsq) (hc : t.enp.count = u.enp.count) (hi : t.enp.rms = u.enp.rms) :
    Shows s t := h.trans (of_reg (fun r _ _ => hr r) hv hm hq hc hi)

/-- A change outside the session and the registers. -/
theorem other (h : Shows s u) (he : t.enp = u.enp) (hr : ∀ r, t.reg r = u.reg r) : Shows s t :=
  h.keep hr (fun hx => by rw [he]; exact hx) (by rw [he]) (by rw [he]) (by rw [he]) (by rw [he])

theorem setReg (h : Shows s u) {r : Nat} (w : Word) (hr : r ∈ [R.ENP_STATE, R.ENP_LIM1, R.ENP_BMSST, R.ENP_SBST]) :
    Shows s (u.setReg r w) :=
  h.trans (of_reg (fun q _ hq => reg_setReg_ne u w (by rintro rfl; exact hq hr)) (fun hx => hx) rfl rfl rfl rfl)

theorem setFld (h : Shows s u) {r : Nat} (f : Fld) (v : Nat) (hr : r ∈ [R.ENP_STATE, R.ENP_LIM1, R.ENP_BMSST, R.ENP_SBST]) :
    Shows s (u.setFld r f v) := h.setReg _ hr

/-- A flag of `ENP_STAT` is set. -/
theorem raise (h : Shows s u) (f : Fld) (hf : f.hi = f.lo) : Shows s (u.raise R.ENP_STAT f) := by
  have hreg : ∀ r, r ≠ R.ENP_STAT → (u.raise R.ENP_STAT f).reg r = u.reg r := fun r hr => reg_setReg_ne u _ hr
  refine h.trans ⟨fun r _ hn => hreg r (by rintro rfl; exact hn (by decide)), fun i hi => ?_, ?_, fun hx => hx, fun _ hp => ?_, rfl,
    rfl, rfl, rfl⟩
  · rw [State.raise, reg_setFld, if_pos rfl]
    simp only [Word.bit, Word.getLsbD_setBits] at hi ⊢
    split
    next hin =>
      have : i = f.lo := by omega
      subst this
      have : f.lo < 32 := by by_contra hge; rw [BitVec.getLsbD_of_ge _ _ (by omega)] at hi; cases hi
      simp [this]
    next => exact hi
  · simp only [State.fld, hreg R.ENP_LIM0 (by decide)]
  · simpa only [PilotFits, State.fld, State.bit, hreg R.ENP_LIM0 (by decide), hreg R.ENP_SRCST (by decide),
      hreg R.ENP_PLTST (by decide)] using hp

/-- A change of the session that leaves the sensing of mains, and does not begin exporting. -/
theorem modEnp (h : Shows s u) (f : EnpState → EnpState)
    (hx : ∀ e, e.exporting = false → (f e).exporting = false := by exact fun _ hx => hx)
    (hw : ∀ e, (f e).miss = e.miss ∧ (f e).sumsq = e.sumsq ∧ (f e).count = e.count ∧ (f e).rms = e.rms := by
      exact fun _ => ⟨rfl, rfl, rfl, rfl⟩) : Shows s (u.modEnp f) :=
  h.keep (fun _ => rfl) (hx u.enp) (hw u.enp).1 (hw u.enp).2.1 (hw u.enp).2.2.1 (hw u.enp).2.2.2

theorem fire (h : Shows s u) (n : Nat) : Shows s (u.fire n) := h.other rfl fun _ => rfl

theorem ite {c : Prop} [Decidable c] {a b : State} (ha : Shows s a) (hb : Shows s b) : Shows s (if c then a else b) := by
  split
  · exact ha
  · exact hb

theorem fireIf (h : Shows s u) (c : Bool) (n : Nat) : Shows s (u.fireIf c n) := ite (h.fire n) h

theorem setEnp (h : Shows s u) (p : EnpPhase) : Shows s (u.setEnp p) :=
  (h.modEnp (fun e => { e with phase := p })).fireIf _ _

theorem enpRelay (h : Shows s u) (c : Bool) : Shows s (u.enpRelay c) := h.modEnp _

theorem budgetWithdraw (h : Shows s u) (p : Nat) : Shows s (u.budgetWithdraw p) := h.other rfl fun _ => rfl

theorem enpStopTb (h : Shows s u) (b : Bool) : Shows s (u.enpStopTb b) := by
  rw [enpStopTb_eq]; exact ite (h.other rfl fun _ => rfl) h

theorem enpStartTb (h : Shows s u) (b : Bool) : Shows s (u.enpStartTb b) := by
  obtain ⟨he, hr, -⟩ := enpStartTb_spares u b
  refine h.trans (of_reg (fun r hb hn => hr r ?_) (by rw [he]; exact fun hx => hx) (by rw [he]) (by rw [he]) (by rw [he])
    (by rw [he]))
  rintro (h | rfl)
  · exact h hb
  · exact hn (by decide)

theorem enpDetect (h : Shows s u) : Shows s u.enpDetect := ite (h.setEnp _) h

theorem enpBack (h : Shows s u) : Shows s u.enpBack := by
  unfold State.enpBack
  extract_lets v w
  have hw : Shows s w := (((((h.enpStopTb true).enpStopTb false).enpRelay false).budgetWithdraw 6).budgetWithdraw 7).modEnp _
  exact ite (hw.setEnp _) (hw.setEnp _).enpDetect

theorem pilotLim (h : Shows s u) : Shows s u.pilotLim := by
  unfold State.pilotLim
  split
  · exact h
  next hx =>
    have hreg : ∀ r, r ≠ R.ENP_LIM0 → (u.setFld R.ENP_LIM0 F.ENP_LIM0_PILOT (pilotLimit (u.bit R.ENP_SRCST F.ENP_SRCST_PWM)
        (u.fld R.ENP_PLTST F.ENP_PLTST_DUTY))).reg r = u.reg r := fun r hr => reg_setReg_ne u _ hr
    refine h.trans ⟨fun r _ hn => hreg r (by rintro rfl; exact hn (by decide)), fun i hi => ?_, ?_, fun hx => hx, fun _ _ => ?_,
      rfl, rfl, rfl, rfl⟩
    · rw [hreg R.ENP_STAT (by decide)]; exact hi
    · exact fld_setFld_ne _ _ _ _ _ _ (.inr (by decide))
    · exact pilotFits_setFld u

theorem setBms (h : Shows s u) (n : Nat) : Shows s (u.setBms n) := by
  unfold State.setBms
  exact (h.setFld F.ENP_BMSST_STATE n (r := R.ENP_BMSST) (by decide)).fireIf _ _

theorem enpRecord (h : Shows s u) (c : Nat) (st : Status) : Shows s (u.enpRecord c st) :=
  (h.setFld _ _ (by decide)).setFld _ _ (by decide)

theorem enpDone (h : Shows s u) (c : Nat) (st : Status) (n : EnpPhase) : Shows s (u.enpDone c st n) := by
  unfold State.enpDone
  extract_lets v w x
  have hw : Shows s w := (((h.budgetWithdraw 6).budgetWithdraw 7).enpRecord c st).modEnp _
    (by intro e hx; dsimp only; rw [hx]; rfl)
  exact ((ite (hw.setBms 0) hw).pilotLim.fire _).fireIf _ _

theorem irefZero (h : Shows s u) : Shows s u.irefZero := by
  unfold State.irefZero
  have h0 := h.setFld F.ENP_LIM1_IREF 0 (r := R.ENP_LIM1) (by decide)
  dsimp only
  split
  · exact h0.other rfl fun _ => rfl
  · exact h0

theorem hingeAdvance (h : Shows s u) : Shows s u.hingeAdvance := by
  unfold State.hingeAdvance
  extract_lets v w
  have hv : Shows s v := ite ((h.modEnp _).enpStopTb _) h
  have hw : Shows s w := ite ((hv.modEnp _).enpRelay _) hv
  exact ite (hw.enpDone _ _ _) hw

theorem hingeStart (h : Shows s u) (c : Nat) (st : Status) (n : EnpPhase) : Shows s (u.hingeStart c st n) := by
  unfold State.hingeStart
  extract_lets v
  have hv : Shows s v := ((h.budgetWithdraw 6).budgetWithdraw 7).modEnp _
  exact ((hv.irefZero.fire 194).enpStopTb true).hingeAdvance

theorem sourceLoss (h : Shows s u) (c : Nat) : Shows s (u.sourceLoss c) := ite (h.hingeStart _ _ _) h

theorem enpPrecharge (h : Shows s u) : Shows s u.enpPrecharge :=
  ((h.modEnp (fun e => { e with asked := false, pause := false })).setEnp .precharge).enpStartTb true

theorem enpAsked {p : Asked × State} (h : Shows s p.2) : Shows s (enpAsked p) := by
  obtain ⟨a, v⟩ := p
  cases a with
  | granted => exact h.enpPrecharge
  | refused => exact h.enpDone _ _ _
  | waits => exact h.modEnp fun e => { e with asked := true }

theorem budgetAsk (h : Shows s u) (p c : Nat) : Shows s (u.budgetAsk p c).2 := by
  have hb := (Spares.refl u).budgetAsk p c
  refine h.trans (of_reg (fun r hr hn => hb.reg r ?_) (by rw [hb.enp]; exact fun hx => hx) (by rw [hb.enp]) (by rw [hb.enp])
    (by rw [hb.enp]) (by rw [hb.enp]))
  rintro (h | rfl)
  · exact h hr
  · exact hn (by decide)

theorem exportStart (h : Shows s u) : Shows s u.exportStart :=
  ite h (State.Shows.enpAsked ((h.other (t := u.takeFree) rfl fun _ => rfl).budgetAsk 7 _))

theorem linkCheck (h : Shows s u) : Shows s u.linkCheck := by
  unfold State.linkCheck
  exact ite h (ite ((ite (c := u.enp.exporting = true) (h.enpStartTb false) h).enpRelay true |>.setEnp _) h)

end Shows

/-! ### Where the operations leave the session -/

@[simp] theorem modEnp_enp (s : State) (f : EnpState → EnpState) : (s.modEnp f).enp = f s.enp := rfl

@[simp] theorem enpStopTb_enp (s : State) (b : Bool) : (s.enpStopTb b).enp = s.enp := by
  rw [enpStopTb_eq]; split <;> rfl

@[simp] theorem enpStopTb_reg (s : State) (b : Bool) (r : Nat) : (s.enpStopTb b).reg r = s.reg r := by
  rw [enpStopTb_eq]; split <;> rfl

@[simp] theorem enpStopTb_evt (s : State) (b : Bool) : (s.enpStopTb b).evt = s.evt := by
  rw [enpStopTb_eq]; split <;> rfl

@[simp] theorem enpStopTb_budget (s : State) (b : Bool) : (s.enpStopTb b).budget = s.budget := by
  rw [enpStopTb_eq]; split <;> rfl

@[simp] theorem enpRelay_reg (s : State) (c : Bool) (r : Nat) : (s.enpRelay c).reg r = s.reg r := rfl

@[simp] theorem budgetWithdraw_enp (s : State) (p : Nat) : (s.budgetWithdraw p).enp = s.enp := rfl

@[simp] theorem budgetWithdraw_reg (s : State) (p r : Nat) : (s.budgetWithdraw p).reg r = s.reg r := rfl

@[simp] theorem fireIf_enp (s : State) (c : Bool) (n : Nat) : (s.fireIf c n).enp = s.enp := by
  unfold fireIf; split <;> rfl

@[simp] theorem fireIf_reg (s : State) (c : Bool) (n r : Nat) : (s.fireIf c n).reg r = s.reg r := by
  unfold fireIf; split <;> rfl

@[simp] theorem setEnp_enp (s : State) (p : EnpPhase) : (s.setEnp p).enp = { s.enp with phase := p } := fireIf_enp _ _ _

@[simp] theorem setEnp_reg (s : State) (p : EnpPhase) (r : Nat) : (s.setEnp p).reg r = s.reg r := fireIf_reg _ _ _ _

/-- The first state of a session as connector and pilot stand (R348). -/
def firstPhase (s : State) : EnpPhase :=
  if s.enpConn = true ∧ s.fld R.ENP_SRCST F.ENP_SRCST_PL ≠ 3 then .qualify else .detect

theorem firstPhase_of_reg {s t : State} (h : t.reg R.ENP_SRCST = s.reg R.ENP_SRCST) : t.firstPhase = s.firstPhase := by
  unfold firstPhase enpConn bit fld
  rw [h]

theorem enpDetect_of_ne {s : State} (h : s.enp.phase ≠ .detect) : s.enpDetect = s := by
  rw [enpDetect, if_neg (by simp [enpPhase, h])]

theorem enpDetect_enp {s : State} (h : s.enp.phase = .detect) : s.enpDetect.enp = { s.enp with phase := s.firstPhase } := by
  unfold enpDetect firstPhase
  by_cases hc : s.enpConn = true ∧ s.fld R.ENP_SRCST F.ENP_SRCST_PL ≠ 3
  · rw [if_pos hc, if_pos (by simp [enpPhase, h, hc.1, hc.2]), setEnp_enp]
  · rw [if_neg hc, if_neg (by simpa [enpPhase, h] using hc), ← h]

/-- A session in DETECT or put there afresh. -/
theorem detectAgain_enp (s : State) : ((s.setEnp .detect).enpDetect).enp = { s.enp with phase := s.firstPhase } := by
  rw [enpDetect_enp (by rw [setEnp_enp]), setEnp_enp, firstPhase_of_reg (setEnp_reg s _ _)]

theorem enpBack_enp (s : State) :
    s.enpBack.enp = s.enp.stepLost (if s.enp.exporting = true then .expWait else s.firstPhase) := by
  unfold enpBack
  extract_lets v w
  have hw : w.enp = s.enp.stepLost s.enp.phase := by simp [w, v, enpRelay, EnpState.stepLost]
  have hreg : w.reg R.ENP_SRCST = s.reg R.ENP_SRCST := by simp [w, v]
  have hx : w.enp.exporting = s.enp.exporting := by rw [hw]; rfl
  rw [hx]
  split
  · rw [setEnp_enp, hw]; rfl
  · rw [detectAgain_enp, hw, firstPhase_of_reg hreg]; rfl

theorem enpBack_steppedBack (s : State) : s.enpBack.steppedBack := by
  have hreg : s.enpBack.reg R.ENP_SRCST = s.reg R.ENP_SRCST := (Shows.refl s).enpBack.reg _ (by decide) (by decide)
  have he := enpBack_enp s
  refine ⟨by rw [he]; rfl, by rw [he]; rfl, by rw [he]; rfl, ?_⟩
  change _ = if s.enpBack.enp.exporting = true then EnpPhase.expWait else s.enpBack.firstPhase
  rw [firstPhase_of_reg hreg, he]
  rfl

/-! ### Endings and the hinge (R353, R356) -/

theorem fireIf_wfu (s : State) (c : Bool) (n : Nat) : (s.fireIf c n).wfu = s.wfu := by
  unfold fireIf; split <;> rfl

/-- What an ending does after its record leaves the session, the record, the timebases and the budget, and what is pending. -/
structure Closes (s t : State) : Prop where
  enp : t.enp = s.enp
  state : t.reg R.ENP_STATE = s.reg R.ENP_STATE
  tb : t.reg R.ENP_TB = s.reg R.ENP_TB
  wfu : t.wfu = s.wfu
  budget : t.budget = s.budget
  pend : ∀ k, s.evt.pend.getLsbD k = true → t.evt.pend.getLsbD k = true

theorem Closes.trans {s u t : State} (h : Closes s u) (h' : Closes u t) : Closes s t :=
  ⟨h'.enp.trans h.enp, h'.state.trans h.state, h'.tb.trans h.tb, h'.wfu.trans h.wfu, h'.budget.trans h.budget,
    fun k hk => h'.pend k (h.pend k hk)⟩

theorem Closes.refl (s : State) : Closes s s := ⟨rfl, rfl, rfl, rfl, rfl, fun _ h => h⟩

theorem closes_fire (s : State) (n : Nat) : Closes s (s.fire n) := ⟨rfl, rfl, rfl, rfl, rfl, fun _ h => pend_fire_of h n⟩

theorem closes_fireIf (s : State) (c : Bool) (n : Nat) : Closes s (s.fireIf c n) := by
  unfold fireIf; split
  · exact closes_fire s n
  · exact .refl s

theorem closes_setFld (s : State) {r : Nat} (f : Fld) (v : Nat) (h : R.ENP_STATE ≠ r) (h' : R.ENP_TB ≠ r) :
    Closes s (s.setFld r f v) := ⟨rfl, reg_setReg_ne s _ h, reg_setReg_ne s _ h', rfl, rfl, fun _ h => h⟩

theorem closes_setBms (s : State) (n : Nat) : Closes s (s.setBms n) := by
  unfold setBms
  exact (closes_setFld s _ n (by decide) (by decide)).trans (closes_fireIf _ _ _)

theorem closes_pilotLim (s : State) : Closes s s.pilotLim := by
  unfold pilotLim; split
  · exact .refl s
  · exact closes_setFld s _ _ (by decide) (by decide)

theorem budgetWaits_withdraw (s : State) (p : Nat) : (s.budgetWithdraw p).budgetWaits p = false := by
  simp only [budgetWaits, budgetWithdraw, modBudget, Bool.or_eq_false_iff, List.any_eq_false, List.mem_filter]
  refine ⟨fun x hx => ?_, fun x hx => by simpa using hx.2⟩
  rcases Bool.or_eq_true_iff.mp hx.2 with h | h <;> simp_all

theorem budgetWaits_withdraw_of {s : State} {p : Nat} (q : Nat) (h : s.budgetWaits p = false) :
    (s.budgetWithdraw q).budgetWaits p = false := by
  simp only [budgetWaits, budgetWithdraw, modBudget, Bool.or_eq_false_iff, List.any_eq_false, List.mem_filter] at h ⊢
  exact ⟨fun x hx => h.1 x hx.1, fun x hx => h.2 x hx.1⟩

theorem enpTb_of_reg {s t : State} (h : t.reg R.ENP_TB = s.reg R.ENP_TB) (b : Bool) : t.enpTb b = s.enpTb b := by
  unfold enpTb fld; rw [h]

/-- A timebase that is asked to stop where it runs stays so. -/
theorem enpStopTb_stays {s : State} {k : Fin 10} (b : Bool)
    (h : (s.wfu.tb[k]).running = true → (s.wfu.tb[k]).stopping = true) :
    ((s.enpStopTb b).wfu.tb[k]).running = true → ((s.enpStopTb b).wfu.tb[k]).stopping = true := by
  rw [enpStopTb_eq]
  split
  · by_cases e : k = s.enpTb b
    · subst e; rw [tb_modTb_same]; exact fun _ => rfl
    · rw [tb_modTb_ne _ _ e]; exact h
  · exact h

/-- The timebase whose stop is asked is to stop where it runs. -/
theorem enpStopTb_stops (s : State) (b : Bool) : ((s.enpStopTb b).wfu.tb[s.enpTb b]).running = true →
    ((s.enpStopTb b).wfu.tb[s.enpTb b]).stopping = true := by
  rw [enpStopTb_eq]
  split
  · rw [tb_modTb_same]; exact fun _ => rfl
  next h => exact fun h' => absurd h' h

/-- What holds from the hinge's first step on, to its end (R353). -/
structure Opens (t : State) : Prop where
  s2 : t.enp.s2 = false
  asked : t.enp.asked = false
  pend : t.evt.pend.getLsbD 194 = true
  charge : t.budgetWaits 6 = false
  supply : t.budgetWaits 7 = false
  bridge : ∀ k, k = t.enpTb true → (t.wfu.tb[k]).running = true → (t.wfu.tb[k]).stopping = true

namespace Opens

variable {u t : State}

theorem closes (h : Opens u) (hc : Closes u t) : Opens t where
  s2 := by rw [hc.enp]; exact h.s2
  asked := by rw [hc.enp]; exact h.asked
  pend := hc.pend _ h.pend
  charge := by simp only [budgetWaits, hc.budget]; exact h.charge
  supply := by simp only [budgetWaits, hc.budget]; exact h.supply
  bridge k hk := by rw [hc.wfu]; exact h.bridge k (hk.trans (enpTb_of_reg hc.tb true))

theorem modEnp (h : Opens u) (f : EnpState → EnpState) (hs : ∀ e, e.s2 = false → (f e).s2 = false := by exact fun _ h => h)
    (ha : ∀ e, e.asked = false → (f e).asked = false := by exact fun _ h => h) : Opens (u.modEnp f) :=
  ⟨hs _ h.s2, ha _ h.asked, h.pend, h.charge, h.supply, h.bridge⟩

theorem enpStopTb (h : Opens u) (b : Bool) : Opens (u.enpStopTb b) where
  s2 := by rw [enpStopTb_enp]; exact h.s2
  asked := by rw [enpStopTb_enp]; exact h.asked
  pend := by rw [enpStopTb_evt]; exact h.pend
  charge := by simp only [budgetWaits, enpStopTb_budget]; exact h.charge
  supply := by simp only [budgetWaits, enpStopTb_budget]; exact h.supply
  bridge k hk := enpStopTb_stays b (h.bridge k (hk.trans (enpTb_of_reg (enpStopTb_reg u b _) true)))

theorem budgetWithdraw (h : Opens u) (p : Nat) : Opens (u.budgetWithdraw p) :=
  ⟨h.s2, h.asked, h.pend, budgetWaits_withdraw_of p h.charge, budgetWaits_withdraw_of p h.supply, h.bridge⟩

theorem enpRecord (h : Opens u) (c : Nat) (st : Status) : Opens (u.enpRecord c st) where
  s2 := h.s2
  asked := h.asked
  pend := h.pend
  charge := h.charge
  supply := h.supply
  bridge k hk := h.bridge k (hk.trans (enpTb_of_reg ((reg_setReg_ne _ _ (by decide)).trans (reg_setReg_ne _ _ (by decide))) true))

end Opens

/-- What an ending leaves after its record (R346, R356). -/
theorem enpDone_closes (s : State) (c : Nat) (st : Status) (n : EnpPhase) :
    ∃ f : EnpState → EnpState, (∀ e, (f e).phase = n ∧ (f e).s2 = false ∧ (f e).asked = false)
      ∧ Closes ((((s.budgetWithdraw 6).budgetWithdraw 7).enpRecord c st).modEnp f) (s.enpDone c st n)
      ∧ (s.enpDone c st n).evt.pend.getLsbD 195 = true
      ∧ (10 ≤ c → c ≤ 14 → (s.enpDone c st n).evt.pend.getLsbD 198 = true) := by
  unfold enpDone
  extract_lets v w x
  have hx : Closes w x := by
    unfold x when; split
    · exact closes_setBms w 0
    · exact .refl w
  refine ⟨_, fun e => ⟨?_, ?_, ?_⟩,
    (hx.trans (closes_pilotLim x)).trans ((closes_fire _ 195).trans (closes_fireIf _ _ 198)), ?_, ?_⟩
  · rfl
  · rfl
  · rfl
  · exact pend_fireIf_of (pend_fire_same _ (by decide)) _ _
  · intro h h'
    rw [fireIf, if_pos (by simp [h, h'])]
    exact pend_fire_same _ (by decide)

theorem enpRecord_fld (s : State) {c : Nat} (st : Status) (hc : c < 16) :
    (s.enpRecord c st).fld R.ENP_STATE F.ENP_STATE_CAUSE = c
      ∧ (s.enpRecord c st).fld R.ENP_STATE F.ENP_STATE_STATUS = st.code := by
  constructor
  · rw [enpRecord, fld_setFld_ne _ _ _ _ _ _ (.inr (by decide)), fld_setFld_same _ _ _ _ (by decide)]
    exact Nat.mod_eq_of_lt hc
  · rw [enpRecord, fld_setFld_same _ _ _ _ (by decide)]
    cases st <;> rfl

theorem enpDone_sessionEnded (s : State) {c : Nat} (st : Status) (n : EnpPhase) (hc : c < 16) :
    (s.enpDone c st n).sessionEnded c st n := by
  obtain ⟨f, hf, hcl, h195, h198⟩ := enpDone_closes s c st n
  obtain ⟨hp, hs, ha⟩ := hf (((s.budgetWithdraw 6).budgetWithdraw 7).enpRecord c st).enp
  obtain ⟨hcause, hst⟩ := enpRecord_fld ((s.budgetWithdraw 6).budgetWithdraw 7) st hc
  have hreg : (s.enpDone c st n).reg R.ENP_STATE = (((s.budgetWithdraw 6).budgetWithdraw 7).enpRecord c st).reg R.ENP_STATE :=
    hcl.state.trans (modEnp_reg _ _ _)
  refine ⟨?_, ?_, ?_, ?_, ?_, h195, h198⟩
  · rw [hcl.enp, modEnp_enp]; exact hp
  · rw [hcl.enp, modEnp_enp]; exact hs
  · rw [hcl.enp, modEnp_enp]; exact ha
  · rw [fld, hreg]; exact hcause
  · rw [fld, hreg]; exact hst

theorem Opens.enpDone {u : State} (h : Opens u) (c : Nat) (st : Status) (n : EnpPhase) : Opens (u.enpDone c st n) := by
  obtain ⟨f, hf, hcl, -, -⟩ := enpDone_closes u c st n
  exact ((((h.budgetWithdraw 6).budgetWithdraw 7).enpRecord c st).modEnp f (fun e _ => (hf e).2.1) fun e _ => (hf e).2.2).closes hcl

/-- The hinge's steps are under way, for this ending. -/
structure Hinging (t : State) (x : EnpEnding) : Prop extends Opens t where
  phase : t.enp.phase = .hinge
  ending : t.enp.ending = x
  step : t.enp.hinge ∈ [2, 3, 5]

theorem Hinging.enpStopTb {u : State} {x : EnpEnding} (h : Hinging u x) (b : Bool) : Hinging (u.enpStopTb b) x :=
  ⟨h.toOpens.enpStopTb b, by rw [enpStopTb_enp]; exact h.phase, by rw [enpStopTb_enp]; exact h.ending, by
    rw [enpStopTb_enp]; exact h.step⟩

theorem Hinging.setStep {u : State} {x : EnpEnding} (h : Hinging u x) {k : Nat} (hk : k ∈ [2, 3, 5]) :
    Hinging (u.modEnp fun e => { e with hinge := k }) x := ⟨h.toOpens.modEnp _, h.phase, h.ending, hk⟩

theorem Hinging.enpRelay {u : State} {x : EnpEnding} (h : Hinging u x) (c : Bool) : Hinging (u.enpRelay c) x :=
  ⟨h.toOpens.modEnp _, h.phase, h.ending, h.step⟩

/-- The steps that need not wait leave the hinge under way, or run to its end. -/
theorem hingeAdvance_hinged {s : State} {c : Nat} {st : Status} {n : EnpPhase} (h : Hinging s ⟨c, st, n⟩) (hc : c < 16) :
    s.hingeAdvance.hinged c st n := by
  unfold hingeAdvance
  extract_lets v w
  have hv : Hinging v ⟨c, st, n⟩ := by
    unfold v; split
    · exact (h.setStep (by decide)).enpStopTb false
    · exact h
  have hw : Hinging w ⟨c, st, n⟩ := by
    unfold w; split
    · exact (hv.setStep (by decide)).enpRelay false
    · exact hv
  split
  · rw [hw.ending]
    obtain ⟨hs, ha, hp, hch, hsu, hb⟩ := hw.toOpens.enpDone c st n
    obtain ⟨hph, -, -, hcause, hst, h195, -⟩ := enpDone_sessionEnded w st n hc
    exact ⟨hs, ha, hp, hch, hsu, hb _ rfl, .inr ⟨hph, hcause, hst, h195⟩⟩
  · obtain ⟨⟨hs, ha, hp, hch, hsu, hb⟩, hph, hend, hstep⟩ := hw
    exact ⟨hs, ha, hp, hch, hsu, hb _ rfl, .inl ⟨hph, hend, hstep⟩⟩

theorem irefZero_enp (s : State) : s.irefZero.enp = s.enp := by
  unfold irefZero; dsimp only; split <;> rfl

theorem irefZero_budget (s : State) : s.irefZero.budget = s.budget := by
  unfold irefZero; dsimp only; split <;> rfl

theorem hingeStart_hinged (s : State) {c : Nat} (st : Status) (n : EnpPhase) (hc : c < 16) :
    (s.hingeStart c st n).hinged c st n := by
  unfold hingeStart
  extract_lets v
  refine hingeAdvance_hinged (Hinging.mk ⟨?_, ?_, ?_, ?_, ?_, ?_⟩ ?_ ?_ ?_) hc
  · simp [irefZero_enp, v]
  · simp [irefZero_enp, v]
  · rw [enpStopTb_evt]; exact pend_fire_same _ (by decide)
  · simp only [budgetWaits, enpStopTb_budget, fire_budget, irefZero_budget, v]
    exact budgetWaits_withdraw_of 7 (budgetWaits_withdraw s 6)
  · simp only [budgetWaits, enpStopTb_budget, fire_budget, irefZero_budget, v]
    exact budgetWaits_withdraw (s.budgetWithdraw 6) 7
  · intro k hk
    rw [enpTb_of_reg (enpStopTb_reg _ _ _)] at hk
    subst hk
    exact enpStopTb_stops _ _
  · simp [irefZero_enp, v]
  · simp [irefZero_enp, v]
  · simp [irefZero_enp, v]

end State
end Sys2Proof.Machine
end

section
/-!
PROOFS. The pilot (R338, R339, R348, R352, R354, R358): what a change shows, and what it brings about in either role.
-/

namespace Sys2Proof.Machine

/-! ### The pilot's states and classes -/

theorem pilotLimit_eq (pwm : Bool) (d : Nat) : pilotLimit pwm d =
    if pwm = false ∨ d < 80 then 0 else if d < 100 then 16 * 6 else if d ≤ 850 then d * 96 / 100
    else if d ≤ 960 then (d - 640) * 4 else if d ≤ 970 then 16 * 80 else 0 := by
  simp [pilotLimit]

theorem pilotState_pwm (hz : Nat) (up low : Int) : (pilotState hz up low).2 = true ↔ 900 ≤ hz ∧ hz ≤ 1100 := by
  simp [pilotState]

theorem pilotState_lt (hz : Nat) (up low : Int) : (pilotState hz up low).1 < 8 := by
  simp only [pilotState]
  split_ifs <;> decide

theorem pilotClass_eq (ps : Nat) (pwm : Bool) :
    pilotClass ps pwm = if pwm = true then 1 else if ps = 4 then 0 else if ps ≤ 2 then 2 else 3 := rfl

theorem pilotClass_lt (ps : Nat) (pwm : Bool) : pilotClass ps pwm < 4 := by
  rw [pilotClass_eq]
  split_ifs <;> decide

/-- A pilot that is neither steady nor a full PWM is state 7 (R338). -/
theorem pilotState_invalid {hz : Nat} {up low : Int}
    (h : ((pilotState hz up low).2 = true ∧ -105 < low) ∨ ((pilotState hz up low).2 = false ∧ hz ≠ 0)) :
    (pilotState hz up low).1 = 7 := by
  simp only [pilotState] at h ⊢
  rw [if_pos]
  rcases h with ⟨hp, hlow⟩ | ⟨hp, hz⟩
  · simp [hp, hlow]
  · simp [hp, hz]

/-- The bands of a pilot that is PWM with its lower plateau at -12 V, or steady (R338). -/
theorem pilotState_bands {hz : Nat} {up low : Int} (h : ((pilotState hz up low).2 = true ∧ low ≤ -105) ∨ hz = 0) :
    let p := pilotState hz up low
    (p.1 = 0 ↔ 105 ≤ up ∧ up < 136) ∧ (p.1 = 1 ↔ 75 ≤ up ∧ up < 105) ∧ (p.1 = 2 ↔ 45 ≤ up ∧ up < 75)
      ∧ (p.1 = 3 ↔ 15 ≤ up ∧ up < 45) ∧ (p.1 = 4 ↔ (-15 ≤ up ∧ up < 15) ∧ -15 ≤ low) ∧ (p.1 = 5 ↔ p.2 = false ∧ up ≤ -105) := by
  have hvalid : ((!(pilotState hz up low).2 && decide (hz ≠ 0)) || ((pilotState hz up low).2 && decide (-105 < low))) = false := by
    rcases h with ⟨hp, hlow⟩ | rfl
    · simp [hp, Int.not_lt.mpr hlow]
    · simp [pilotState]
  simp only [pilotState] at hvalid ⊢
  rw [if_neg (by rw [hvalid]; exact Bool.false_ne_true)]
  simp only [Bool.and_eq_true, Bool.and_eq_false_iff, decide_eq_true_eq, decide_eq_false_iff_not, Bool.not_eq_true']
  split_ifs <;> simp <;> omega

namespace State

/-! ### What the registers show -/

/-- The registers that show pilot, as a change leaves them (R338). -/
def pilotShown (s : State) (pl : Nat) (pwm : Bool) (ps : Nat) (w : Word) : State :=
  (((s.setFld R.ENP_SRCST F.ENP_SRCST_PL pl).setFld R.ENP_SRCST F.ENP_SRCST_PWM (Word.ofBool pwm)).setFld R.ENP_SRCST
    F.ENP_SRCST_PSTATE ps).setReg R.ENP_PLTST w

/-- `p` differs from `s` in the pilot shown only. -/
structure PilotShown (s p : State) (pl : Nat) (pwm : Bool) (ps duty : Nat) : Prop where
  enp : p.enp = s.enp
  reg : ∀ r, r ≠ R.ENP_SRCST → r ≠ R.ENP_PLTST → p.reg r = s.reg r
  pl : p.fld R.ENP_SRCST F.ENP_SRCST_PL = pl
  pwm : p.bit R.ENP_SRCST F.ENP_SRCST_PWM = pwm
  pstate : p.fld R.ENP_SRCST F.ENP_SRCST_PSTATE = ps
  duty : p.fld R.ENP_PLTST F.ENP_PLTST_DUTY = duty
  only : s.energyOnly p

theorem plateaus_duty {duty : Nat} (hd : duty < 1024) (a b : Nat) :
    (Word.field 25 16 duty ||| Word.field 15 8 a ||| Word.field 7 0 b).bits 25 16 = duty := by
  rw [Word.bits_or, Word.bits_or, Word.bits_field_same _ (by decide), Word.bits_field_ne _ (by decide),
    Word.bits_field_ne _ (by decide), Nat.or_zero, Nat.or_zero]
  exact Nat.mod_eq_of_lt hd

theorem pilotShown_shown (s : State) {pl ps duty : Nat} (pwm : Bool) {w : Word} (hpl : pl < 4) (hps : ps < 8)
    (hd : w.bits 25 16 = duty) : PilotShown s (s.pilotShown pl pwm ps w) pl pwm ps duty where
  enp := rfl
  reg r h h' := by simp only [pilotShown, reg_setReg_ne _ _ h', reg_setFld, if_neg h]
  pl := by
    rw [pilotShown, fld_setReg_ne _ _ _ (by decide), fld_setFld_ne _ _ _ _ _ _ (.inr (by decide)),
      fld_setFld_ne _ _ _ _ _ _ (.inr (by decide)), fld_setFld_same _ _ _ _ (by decide)]
    exact Nat.mod_eq_of_lt hpl
  pwm := by
    rw [pilotShown, bit, reg_setReg_ne _ _ (by decide), ← bit, bit_setFld_ne _ _ (.inr (by decide)),
      bit_setFld_same _ _ _ rfl (by decide)]
  pstate := by
    rw [pilotShown, fld_setReg_ne _ _ _ (by decide), fld_setFld_same _ _ _ _ (by decide)]
    exact Nat.mod_eq_of_lt hps
  duty := by rw [pilotShown, fld, reg_setReg_same]; exact hd
  only := ((((energyOnly.refl s).setFld _ _ (by decide)).setFld _ _ (by decide)).setFld _ _ (by decide)).setReg _ (by decide)

/-! ### The vehicle's role -/

/-- The pilot's limit and its digital communication, as a change shows them (R338, R339). -/
def pilotLimited (p : State) (dig : Bool) : State := p.pilotLim.when dig fun s => s.raise R.ENP_STAT F.ENP_STAT_DIGCOM

/-- What a pilot of state `ps` and class `pl` brings about for a vehicle, after state `was` and class `wasPl` (R348, R352,
R354). -/
def vehiclePilot (s : State) (was ps wasPl pl : Nat) : State :=
  let loss := ps ≠ 1 && ps ≠ 2
  match s.enpPhase with
  | .detect => s.enpDetect
  | .qualify => if pl ≠ wasPl then (s.setEnp .detect).enpDetect else s
  | .mains => if loss || (!s.enp.asked && pl ≠ wasPl) then s.enpBack else s
  | .precharge | .close => if loss then s.enpBack else s
  | .run | .busHold => if loss then s.sourceLoss 3 else s
  | .hinge => if loss || was = 1 || was = 2 then s else s.raise R.ENP_STAT F.ENP_STAT_REPLUG
  | _ => s

theorem pilotChange_eq (s : State) (hz duty : Nat) (up low : Int) :
    s.pilotChange hz duty up low =
      let ps := (pilotState hz up low).1
      let pwm := (pilotState hz up low).2
      let pl := pilotClass ps pwm
      let was := s.fld R.ENP_SRCST F.ENP_SRCST_PSTATE
      let p := s.pilotShown pl pwm ps
        (Word.field 25 16 duty ||| Word.field 15 8 up.toNat ||| Word.field 7 0 (min 255 (-low).toNat))
      if p.enp.exporting then p.exportPilot was ps
      else (p.pilotLimited (pwm && decide (30 ≤ duty) && decide (duty < 80))).vehiclePilot was ps
        (s.fld R.ENP_SRCST F.ENP_SRCST_PL) pl := by
  rfl

theorem pilotLimited_enp (p : State) (dig : Bool) : (p.pilotLimited dig).enp = p.enp := by
  unfold pilotLimited pilotLim when
  split_ifs <;> rfl

theorem pilotLimited_shows (p : State) (dig : Bool) : Shows p (p.pilotLimited dig) := by
  unfold pilotLimited when
  exact .ite ((Shows.refl p).pilotLim.raise _ rfl) (Shows.refl p).pilotLim

theorem pilotLimited_only {s p : State} (h : s.energyOnly p) (dig : Bool) : s.energyOnly (p.pilotLimited dig) := by
  unfold pilotLimited when
  exact .ite (h.pilotLim.raise _ (by decide)) h.pilotLim

theorem pilotLimited_fits {p : State} (dig : Bool) (hx : p.enp.exporting = false) : (p.pilotLimited dig).PilotFits := by
  have hfit : p.pilotLim.PilotFits := by
    unfold pilotLim
    rw [hx]
    exact pilotFits_setFld p
  unfold pilotLimited when
  split
  · refine ((Shows.refl p.pilotLim).raise _ rfl).pilot ?_ hfit
    rw [pilotLim, hx]; exact hx
  · exact hfit

theorem pilotLimited_digcom (p : State) : (p.pilotLimited true).bit R.ENP_STAT F.ENP_STAT_DIGCOM = true :=
  bit_raise_same _ _ _ rfl (by decide)

/-- Other flags stand. -/
theorem pilotLimited_flag (p : State) (dig : Bool) {f : Fld} (hf : f.lo ≠ F.ENP_STAT_DIGCOM.lo) :
    (p.pilotLimited dig).bit R.ENP_STAT f = p.bit R.ENP_STAT f := by
  have hlim : p.pilotLim.bit R.ENP_STAT f = p.bit R.ENP_STAT f := by
    unfold pilotLim
    split
    · rfl
    · exact bit_setFld_ne _ _ (.inl (by decide))
  unfold pilotLimited when
  split
  · rw [bit_raise_ne _ (.inr (by have : F.ENP_STAT_DIGCOM.hi = F.ENP_STAT_DIGCOM.lo := rfl; omega)), hlim]
  · exact hlim

section Vehicle

variable {s q : State} 

theorem Shows.vehiclePilot (h : Shows s q) (was ps wasPl pl : Nat) : Shows s (q.vehiclePilot was ps wasPl pl) := by
  unfold State.vehiclePilot
  split
  · exact h.enpDetect
  · exact ite (h.setEnp _).enpDetect h
  · exact ite h.enpBack h
  · exact ite h.enpBack h
  · exact ite h.enpBack h
  · exact ite (h.sourceLoss 3) h
  · exact ite (h.sourceLoss 3) h
  · exact ite h (h.raise _ rfl)
  · exact h

theorem energyOnly.vehiclePilot (h : s.energyOnly q) (was ps wasPl pl : Nat) :
    s.energyOnly (q.vehiclePilot was ps wasPl pl) := by
  unfold State.vehiclePilot
  split
  · exact h.enpDetect
  · exact ite (h.setEnp _).enpDetect h
  · exact ite h.enpBack h
  · exact ite h.enpBack h
  · exact ite h.enpBack h
  · exact ite (h.sourceLoss 3) h
  · exact ite (h.sourceLoss 3) h
  · exact ite h (h.raise _ (by decide))
  · exact h

/-- A session in DETECT, or put there afresh, is in its first state. -/
theorem enpDetect_first (h : q.enp.phase = .detect) : q.enpDetect.enp.phase = q.enpDetect.firstPhase := by
  rw [enpDetect_enp h, firstPhase_of_reg ((Shows.refl q).enpDetect.reg _ (by decide) (by decide))]

theorem detectAgain_first (q : State) :
    ((q.setEnp .detect).enpDetect).enp.phase = ((q.setEnp .detect).enpDetect).firstPhase :=
  enpDetect_first (by rw [setEnp_enp])

variable (was ps wasPl pl : Nat)

theorem vehiclePilot_detects (h : q.enp.phase = .detect) :
    (q.vehiclePilot was ps wasPl pl).enp.phase = (q.vehiclePilot was ps wasPl pl).firstPhase := by
  simp only [vehiclePilot, enpPhase, h]
  exact enpDetect_first h

theorem vehiclePilot_requalifies (h : q.enp.phase = .qualify) (hpl : pl ≠ wasPl) :
    (q.vehiclePilot was ps wasPl pl).enp.phase = (q.vehiclePilot was ps wasPl pl).firstPhase := by
  simp only [vehiclePilot, enpPhase, h, if_pos hpl]
  exact detectAgain_first q

theorem vehiclePilot_loses (h : q.enp.phase ∈ [.precharge, .close, .mains]) (hl : ps ≠ 1 ∧ ps ≠ 2) :
    (q.vehiclePilot was ps wasPl pl).steppedBack := by
  have hback : q.vehiclePilot was ps wasPl pl = q.enpBack := by
    simp only [List.mem_cons, List.not_mem_nil, or_false] at h
    rcases h with h | h | h <;> simp [vehiclePilot, enpPhase, h, hl]
  rw [hback]
  exact enpBack_steppedBack q

theorem vehiclePilot_turns (h : q.enp.phase = .mains) (ha : q.enp.asked = false) (hpl : pl ≠ wasPl) :
    (q.vehiclePilot was ps wasPl pl).steppedBack := by
  have hback : q.vehiclePilot was ps wasPl pl = q.enpBack := by simp [vehiclePilot, enpPhase, h, ha, hpl]
  rw [hback]
  exact enpBack_steppedBack q

/-- A loss of the source in RUN or BUSHOLD begins the hinge (R352). -/
theorem sourceLoss_hinged (c : Nat) (hc : c < 16) (h : q.enp.phase ∈ [.run, .busHold]) :
    (q.sourceLoss c).hinged c .timeout .holdOff := by
  have hstart : q.sourceLoss c = q.hingeStart c .timeout .holdOff := by
    simp only [List.mem_cons, List.not_mem_nil, or_false] at h
    rcases h with h | h <;> simp [sourceLoss, enpPhase, h]
  rw [hstart]
  exact hingeStart_hinged q _ _ hc

theorem vehiclePilot_hinges (h : q.enp.phase ∈ [.run, .busHold]) (hl : ps ≠ 1 ∧ ps ≠ 2) :
    (q.vehiclePilot was ps wasPl pl).hinged 3 .timeout .holdOff := by
  have hloss : q.vehiclePilot was ps wasPl pl = q.sourceLoss 3 := by
    simp only [List.mem_cons, List.not_mem_nil, or_false] at h
    rcases h with h | h <;> simp [vehiclePilot, enpPhase, h, hl]
  rw [hloss]
  exact sourceLoss_hinged 3 (by decide) h

/-- In the hinge a pilot that returns is flagged, and nothing else is done (R354). -/
theorem vehiclePilot_hinge (h : q.enp.phase = .hinge) : q.vehiclePilot was ps wasPl pl =
    if (ps ≠ 1 ∧ ps ≠ 2) ∨ was = 1 ∨ was = 2 then q else q.raise R.ENP_STAT F.ENP_STAT_REPLUG := by
  simp [vehiclePilot, enpPhase, h, or_assoc]

/-- Without a loss a start under way, RUN and BUSHOLD go on. -/
theorem vehiclePilot_stays (h : q.enp.phase ∈ [.precharge, .close, .run, .busHold] ∨ (q.enp.phase = .mains ∧ q.enp.asked = true))
    (hl : ¬ (ps ≠ 1 ∧ ps ≠ 2)) : q.vehiclePilot was ps wasPl pl = q := by
  have hs : (decide (ps ≠ 1) && decide (ps ≠ 2)) = false := by simpa using hl
  rcases h with h | ⟨h, ha⟩
  · simp only [List.mem_cons, List.not_mem_nil, or_false] at h
    rcases h with h | h | h | h <;> simp only [vehiclePilot, enpPhase, h, hs, Bool.false_eq_true, if_false]
  · simp only [vehiclePilot, enpPhase, h, ha, hs, Bool.not_true, Bool.false_and, Bool.or_false, Bool.false_eq_true, if_false]

end Vehicle

/-! ### The exporting role -/

section Export

variable {s q : State}

theorem Shows.exportWait (h : Shows s q) (ps : Nat) : Shows s (q.exportWait ps) := by
  have hidle := fun f hx hw => ((h.budgetWithdraw 7).modEnp (fun e => { e with asked := false })).modEnp f hx hw
  have hvent := ((h.budgetWithdraw 7).modEnp (fun e => { e with asked := false })).raise F.ENP_STAT_VENT rfl
  exact ite (hidle _ (fun _ hx => hx) fun _ => ⟨rfl, rfl, rfl, rfl⟩) (ite (ite h.exportStart h) (ite (hvent.fire 198)
    (hidle _ (fun _ hx => hx) fun _ => ⟨rfl, rfl, rfl, rfl⟩)))

theorem Shows.exportPilot (h : Shows s q) (was ps : Nat) : Shows s (q.exportPilot was ps) := by
  unfold State.exportPilot
  refine ite h ?_
  split
  · exact h.exportWait ps
  · exact ite h (h.enpBack.exportWait ps)
  · exact ite h (h.enpBack.exportWait ps)
  · exact ite (h.hingeStart _ _ _) (ite (h.hingeStart _ _ _) h)
  · exact ite (h.raise _ rfl) h
  · exact h

variable (was ps : Nat)

/-- In any state but C the vehicle gives its request back, and the pilot's drive follows it (R358). -/
theorem exportWait_enp {ps : Nat} (h : ps ≠ 2) : (q.exportWait ps).enp =
    { q.enp with asked := false, pilot := if ps = 1 then 2 else if ps = 3 then q.enp.pilot else 1 } := by
  unfold exportWait
  by_cases h1 : ps = 1
  · simp only [if_pos h1]; rfl
  · by_cases h3 : ps = 3
    · simp only [if_neg h1, if_neg h, if_pos h3]; rfl
    · simp only [if_neg h1, if_neg h, if_neg h3]; rfl

/-- State C starts the steps once the drive is PWM (R358). -/
theorem exportWait_stateC (q : State) : q.exportWait 2 = if q.enp.pilot = 2 then q.exportStart else q := rfl

/-- State D asks for ventilation, which a charger without it refuses (R358). -/
theorem exportWait_vent (q : State) : (q.exportWait 3).bit R.ENP_STAT F.ENP_STAT_VENT = true
    ∧ (q.exportWait 3).evt.pend.getLsbD 198 = true :=
  ⟨bit_raise_same _ R.ENP_STAT F.ENP_STAT_VENT rfl (by decide), pend_fire_same _ (by decide)⟩

/-- Granted at once, the start steps of an exporting session begin (R358, R362). -/
theorem exportStart_granted (ha : q.enp.asked = false) (hq : q.quiet = false) (hen : q.bit R.ENP_SBCFG F.ENP_SBCFG_EN = false) :
    q.exportStart.enp.phase = .precharge := by
  have hask : ∀ c, q.takeFree.budgetAsk 7 c = (.granted, q.takeFree) := by
    intro c
    have hq' : q.takeFree.quiet = false := hq
    have hen' : q.takeFree.bit R.ENP_SBCFG F.ENP_SBCFG_EN = false := hen
    simp [budgetAsk, budgetJudge, hq', hen']
  rw [exportStart, ha, if_neg Bool.false_ne_true, hask]
  change q.takeFree.enpPrecharge.enp.phase = _
  rw [enpPrecharge, (enpStartTb_spares _ true).1, setEnp_enp]

theorem exportPilot_waits (hx : q.bit R.ENP_CFG F.ENP_CFG_EXTOOL = false) (h : q.enp.phase = .expWait) :
    q.exportPilot was ps = q.exportWait ps := by
  simp [exportPilot, hx, enpPhase, h]

theorem exportPilot_starting (hx : q.bit R.ENP_CFG F.ENP_CFG_EXTOOL = false) (h : q.enp.phase ∈ [.precharge, .close])
    (hp : ps ≠ 2) : q.exportPilot was ps = q.enpBack.exportWait ps := by
  simp only [List.mem_cons, List.not_mem_nil, or_false] at h
  rcases h with h | h <;> simp [exportPilot, hx, enpPhase, h, hp]

theorem exportPilot_ends (hx : q.bit R.ENP_CFG F.ENP_CFG_EXTOOL = false) (h : q.enp.phase = .expRun) :
    (q.exportPilot was 1).hinged 1 .ok .expWait := by
  have hstart : q.exportPilot was 1 = q.hingeStart 1 .ok .expWait := by simp [exportPilot, hx, enpPhase, h]
  rw [hstart]
  exact hingeStart_hinged q _ _ (by decide)

theorem exportPilot_loses (hx : q.bit R.ENP_CFG F.ENP_CFG_EXTOOL = false) (h : q.enp.phase = .expRun) {ps : Nat}
    (hp : ps = 0 ∨ 4 ≤ ps) : (q.exportPilot was ps).hinged 3 .timeout .holdOff := by
  have hstart : q.exportPilot was ps = q.hingeStart 3 .timeout .holdOff := by
    have h1 : ps ≠ 1 := by omega
    simp [exportPilot, hx, enpPhase, h, h1, hp]
  rw [hstart]
  exact hingeStart_hinged q _ _ (by decide)

/-- In the hinge a vehicle that returns is flagged (R354). -/
theorem exportPilot_replug (hx : q.bit R.ENP_CFG F.ENP_CFG_EXTOOL = false) (h : q.enp.phase = .hinge) :
    (q.exportPilot was ps).bit R.ENP_STAT F.ENP_STAT_REPLUG
      = (q.bit R.ENP_STAT F.ENP_STAT_REPLUG || decide ((was = 0 ∨ 4 ≤ was) ∧ ps ≠ 0 ∧ ps < 4)) := by
  have hflag : q.exportPilot was ps =
      if (was = 0 ∨ 4 ≤ was) ∧ ps ≠ 0 ∧ ps < 4 then q.raise R.ENP_STAT F.ENP_STAT_REPLUG else q := by
    simp [exportPilot, hx, enpPhase, h]
  rw [hflag]
  split
  next hr => rw [decide_eq_true hr, Bool.or_true]; exact bit_raise_same _ _ _ rfl (by decide)
  next hr => rw [decide_eq_false hr, Bool.or_false]

/-- The vehicle's loss in a start step takes the session back to EXPWAIT, where the pilot counts (R348, R358). -/
theorem exportWait_enpBack {ps : Nat} (hx : q.enp.exporting = true) (hp : ps ≠ 2) :
    (q.enpBack.exportWait ps).steppedBack
      ∧ (q.enpBack.exportWait ps).enp.pilot = if ps = 1 then 2 else if ps = 3 then q.enp.pilot else 1 := by
  have henp : (q.enpBack.exportWait ps).enp = _ := exportWait_enp hp
  rw [enpBack_enp, if_pos hx] at henp
  refine ⟨⟨by rw [henp]; rfl, by rw [henp]; rfl, by rw [henp], ?_⟩, by rw [henp]; rfl⟩
  rw [henp]
  exact (if_pos hx).symm

end Export

/-! ### Both roles -/

theorem whenEnp_on {s : State} (f : State → State) (h : s.hasCharger = true ∧ s.up = true) : s.whenEnp f = f s := by
  rw [whenEnp, h.1, h.2]; rfl

theorem whenEnp_off {s : State} (f : State → State) (h : ¬ (s.hasCharger = true ∧ s.up = true)) : s.whenEnp f = s :=
  if_neg (by simpa using h)

theorem quiet_of_reg {s t : State} (h : t.reg R.TWN_ST = s.reg R.TWN_ST) : t.quiet = s.quiet := by
  unfold quiet fld bit; rw [h]

/-- A change shows the pilot, then does what it brings about in the session's role; what is shown stands. -/
theorem pilotChange_shown (s : State) (hz : Nat) {duty : Nat} (hd : duty < 1024) (up low : Int) :
    let ps := (pilotState hz up low).1
    let pwm := (pilotState hz up low).2
    let pl := pilotClass ps pwm
    let was := s.fld R.ENP_SRCST F.ENP_SRCST_PSTATE
    let t := s.pilotChange hz duty up low
    ∃ p, PilotShown s p pl pwm ps duty ∧ Shows p t
      ∧ (s.enp.exporting = true → t = p.exportPilot was ps)
      ∧ (s.enp.exporting = false → t = (p.pilotLimited (pwm && decide (30 ≤ duty) && decide (duty < 80))).vehiclePilot was ps
          (s.fld R.ENP_SRCST F.ENP_SRCST_PL) pl) := by
  intro ps pwm pl was t
  have hp := pilotShown_shown s pwm (pilotClass_lt ps pwm) (pilotState_lt hz up low)
    (plateaus_duty hd up.toNat (min 255 (-low).toNat))
  have ht := pilotChange_eq s hz duty up low
  dsimp only at ht
  rw [hp.enp] at ht
  refine ⟨_, hp, ?_, fun hx => ?_, fun hx => ?_⟩
  · rw [show t = _ from ht]
    split
    · exact (Shows.refl _).exportPilot _ _
    · exact (pilotLimited_shows _ _).vehiclePilot _ _ _ _
  · rw [hx, if_pos rfl] at ht; exact ht
  · rw [hx, if_neg Bool.false_ne_true] at ht; exact ht

/-- For a vehicle the limit fits the pilot shown before it is acted on. -/
theorem pilotShown_vehicle {s p : State} {pl ps duty : Nat} {pwm : Bool} (hp : PilotShown s p pl pwm ps duty)
    (hx : s.enp.exporting = false) :
    let q := p.pilotLimited (pwm && decide (30 ≤ duty) && decide (duty < 80))
    q.enp = s.enp ∧ q.PilotFits ∧ s.energyOnly q
      ∧ q.bit R.ENP_STAT F.ENP_STAT_REPLUG = s.bit R.ENP_STAT F.ENP_STAT_REPLUG
      ∧ (pwm = true → 30 ≤ duty → duty < 80 → q.bit R.ENP_STAT F.ENP_STAT_DIGCOM = true) := by
  have hflag : p.bit R.ENP_STAT F.ENP_STAT_REPLUG = s.bit R.ENP_STAT F.ENP_STAT_REPLUG := by
    simp only [bit, hp.reg R.ENP_STAT (by decide) (by decide)]
  refine ⟨(pilotLimited_enp p _).trans hp.enp, pilotLimited_fits _ (by rw [hp.enp]; exact hx), pilotLimited_only hp.only _,
    (pilotLimited_flag p _ (by decide)).trans hflag, fun hpwm h h' => ?_⟩
  simp only [hpwm, h, h', decide_true, Bool.and_self]
  exact pilotLimited_digcom p

end State
end Sys2Proof.Machine
end

section
/-!
PROOFS. The proximity contact (R340, R348, R354): its class and cable rating, and what a change brings about.
-/

namespace Sys2Proof.Machine

/-- The classes that make a connection (R340). -/
def ProxConn (r : Nat) : Prop := 75 ≤ r ∧ (r < 1000 ∨ (1000 ≤ r ∧ r ≤ 2700))

theorem proxClass_px (r : Nat) : (proxClass r).1 =
    if 5000 < r then 0 else if 1000 ≤ r ∧ r ≤ 2700 then 1 else if 470 ≤ r ∧ r < 1000 then 2
    else if 150 ≤ r ∧ r < 470 then 3 else if 75 ≤ r ∧ r < 150 then 4 else 5 := by
  simp only [proxClass, Bool.and_eq_true, decide_eq_true_eq]
  split_ifs <;> rfl

theorem proxClass_lt (r : Nat) : (proxClass r).1 < 8 := by
  rw [proxClass_px]
  split_ifs <;> decide

theorem proxClass_conn (r : Nat) : (decide (1 ≤ (proxClass r).1) && decide ((proxClass r).1 ≤ 4)) = true ↔ ProxConn r := by
  rw [proxClass_px, ProxConn, Bool.and_eq_true, decide_eq_true_eq, decide_eq_true_eq]
  split_ifs <;> omega

theorem proxClass_cable (r : Nat) : (proxClass r).2 =
    if ¬ (75 ≤ r ∧ (r < 1000 ∨ (1000 ≤ r ∧ r ≤ 2700))) then 0 else if r < 150 then 16 * 63 else if r < 470 then 16 * 32
    else if r < 1000 then 16 * 20 else 16 * 13 := by
  simp only [proxClass, Bool.and_eq_true, decide_eq_true_eq]
  split_ifs <;> omega

theorem proxClass_cable_lt (r : Nat) : (proxClass r).2 < 65536 := by
  rw [proxClass_cable]
  split_ifs <;> decide

namespace State

/-- The registers that show proximity, as a change leaves them (R340). -/
def proximityShown (s : State) (res px cable : Nat) (conn : Bool) : State :=
  (((s.setReg R.ENP_PROX (Word.field 15 0 res)).setFld R.ENP_SRCST F.ENP_SRCST_PX px).setFld R.ENP_SRCST F.ENP_SRCST_CONN
    (Word.ofBool conn)).setFld R.ENP_LIM0 F.ENP_LIM0_CABLE cable

/-- What a connector of class `px` brings about, after class `wasPx` (R348, R354). -/
def proximityActs (s : State) (wasPx px : Nat) (was conn : Bool) : State :=
  match s.enpPhase with
  | .detect => s.enpDetect
  | .qualify => if px ≠ wasPx then (s.setEnp .detect).enpDetect else s
  | .mains => if !conn || (!s.enp.asked && px ≠ wasPx) then s.enpBack else s
  | .precharge | .close => if !conn && !s.enp.exporting then s.enpBack else s
  | .hinge => if conn && !was then s.raise R.ENP_STAT F.ENP_STAT_REPLUG else s
  | _ => s

theorem proximity_eq (s : State) (res : Nat) :
    s.proximity res =
      let px := (proxClass res).1
      let conn := decide (1 ≤ px) && decide (px ≤ 4)
      (s.proximityShown res px (proxClass res).2 conn).proximityActs (s.fld R.ENP_SRCST F.ENP_SRCST_PX) px s.enpConn conn := by
  rfl

/-- `p` differs from `s` in the proximity shown only. -/
structure ProximityShown (s p : State) (res px cable : Nat) (conn : Bool) : Prop where
  enp : p.enp = s.enp
  stat : p.reg R.ENP_STAT = s.reg R.ENP_STAT
  res : p.fld R.ENP_PROX F.ENP_PROX_RES = res
  px : p.fld R.ENP_SRCST F.ENP_SRCST_PX = px
  conn : p.enpConn = conn
  cable : p.fld R.ENP_LIM0 F.ENP_LIM0_CABLE = cable
  only : s.energyOnly p

theorem proximityShown_shown (s : State) {res px cable : Nat} (conn : Bool) (hr : res < 65536) (hp : px < 8) (hc : cable < 65536) :
    ProximityShown s (s.proximityShown res px cable conn) res px cable conn where
  enp := rfl
  stat := by simp only [proximityShown, reg_setFld, reg_setReg]; rfl
  res := by
    rw [proximityShown, fld_setFld_ne _ _ _ _ _ _ (.inl (by decide)), fld_setFld_ne _ _ _ _ _ _ (.inl (by decide)),
      fld_setFld_ne _ _ _ _ _ _ (.inl (by decide)), fld, reg_setReg_same]
    exact (Word.bits_field_same res (by decide)).trans (Nat.mod_eq_of_lt hr)
  px := by
    rw [proximityShown, fld_setFld_ne _ _ _ _ _ _ (.inl (by decide)), fld_setFld_ne _ _ _ _ _ _ (.inr (by decide)),
      fld_setFld_same _ _ _ _ (by decide)]
    exact Nat.mod_eq_of_lt hp
  conn := by
    rw [enpConn, proximityShown, bit_setFld_ne _ _ (.inl (by decide)), bit_setFld_same _ _ _ rfl (by decide)]
  cable := by
    rw [proximityShown, fld_setFld_same _ _ _ _ (by decide)]
    exact Nat.mod_eq_of_lt hc
  only := ((((energyOnly.refl s).setReg _ (by decide)).setFld _ _ (by decide)).setFld _ _ (by decide)).setFld _ _ (by decide)

section Acts

variable {s q : State}

theorem Shows.proximityActs (h : Shows s q) (wasPx px : Nat) (was conn : Bool) : Shows s (q.proximityActs wasPx px was conn) := by
  unfold State.proximityActs
  split
  · exact h.enpDetect
  · exact ite (h.setEnp _).enpDetect h
  · exact ite h.enpBack h
  · exact ite h.enpBack h
  · exact ite h.enpBack h
  · exact ite (h.raise _ rfl) h
  · exact h

theorem energyOnly.proximityActs (h : s.energyOnly q) (wasPx px : Nat) (was conn : Bool) :
    s.energyOnly (q.proximityActs wasPx px was conn) := by
  unfold State.proximityActs
  split
  · exact h.enpDetect
  · exact ite (h.setEnp _).enpDetect h
  · exact ite h.enpBack h
  · exact ite h.enpBack h
  · exact ite h.enpBack h
  · exact ite (h.raise _ (by decide)) h
  · exact h

variable (wasPx px : Nat) (was conn : Bool)

theorem proximityActs_detects (h : q.enp.phase = .detect) :
    (q.proximityActs wasPx px was conn).enp.phase = (q.proximityActs wasPx px was conn).firstPhase := by
  simp only [proximityActs, enpPhase, h]
  exact enpDetect_first h

theorem proximityActs_requalifies (h : q.enp.phase = .qualify) (hpx : px ≠ wasPx) :
    (q.proximityActs wasPx px was conn).enp.phase = (q.proximityActs wasPx px was conn).firstPhase := by
  simp only [proximityActs, enpPhase, h, if_pos hpx]
  exact detectAgain_first q

theorem proximityActs_loses (h : (q.enp.phase ∈ [.precharge, .close] ∧ q.enp.exporting = false) ∨ q.enp.phase = .mains) :
    (q.proximityActs wasPx px was false).steppedBack := by
  have hback : q.proximityActs wasPx px was false = q.enpBack := by
    simp only [List.mem_cons, List.not_mem_nil, or_false] at h
    rcases h with ⟨h | h, hx⟩ | h
    · simp [proximityActs, enpPhase, h, hx]
    · simp [proximityActs, enpPhase, h, hx]
    · simp [proximityActs, enpPhase, h]
  rw [hback]
  exact enpBack_steppedBack q

theorem proximityActs_turns (h : q.enp.phase = .mains) (ha : q.enp.asked = false) (hpx : px ≠ wasPx) :
    (q.proximityActs wasPx px was conn).steppedBack := by
  have hback : q.proximityActs wasPx px was conn = q.enpBack := by simp [proximityActs, enpPhase, h, ha, hpx]
  rw [hback]
  exact enpBack_steppedBack q

/-- In the hinge a connector that returns is flagged, and nothing else is done (R354). -/
theorem proximityActs_hinge (h : q.enp.phase = .hinge) : q.proximityActs wasPx px was conn =
    if conn = true ∧ was = false then q.raise R.ENP_STAT F.ENP_STAT_REPLUG else q := by
  simp [proximityActs, enpPhase, h]

theorem proximityActs_stays (h : q.enp.phase ∈ [.run, .busHold, .expWait, .expRun]) :
    q.proximityActs wasPx px was conn = q := by
  simp only [List.mem_cons, List.not_mem_nil, or_false] at h
  rcases h with h | h | h | h <;> simp only [proximityActs, enpPhase, h]

end Acts

/-- A change shows the proximity, then does what it brings about. -/
theorem proximity_shown (s : State) {res : Nat} (hr : res < 65536) :
    let px := (proxClass res).1
    let conn := decide (1 ≤ px) && decide (px ≤ 4)
    ∃ p, ProximityShown s p res px (proxClass res).2 conn
      ∧ s.proximity res = p.proximityActs (s.fld R.ENP_SRCST F.ENP_SRCST_PX) px s.enpConn conn :=
  ⟨_, proximityShown_shown s _ hr (proxClass_lt res) (proxClass_cable_lt res), proximity_eq s res⟩

end State
end Sys2Proof.Machine
end

section
/-!
PROOFS. The 10 µs watch (R341, R350, R352, R354, R358): the phases' half-cycles, what mains shows, a lost phase, the link.
-/

namespace Sys2Proof.Machine

/-- The integer square root is the root rounded down. -/
theorem isqrt_spec (b : Nat) : ∀ n, n < 4 ^ b → isqrt b n * isqrt b n ≤ n ∧ n < (isqrt b n + 1) * (isqrt b n + 1) := by
  induction b with
  | zero => intro n hn; simp only [isqrt]; omega
  | succ b ih =>
    intro n hn
    obtain ⟨hlo, hhi⟩ := ih (n / 4) (by rw [Nat.pow_succ] at hn; omega)
    simp only [isqrt]
    generalize isqrt b (n / 4) = r at hlo hhi
    have hlo' : 4 * (r * r) ≤ n := by omega
    have hhi' : n < 4 * ((r + 1) * (r + 1)) := by omega
    split
    next h => exact ⟨h, by nlinarith⟩
    next h => exact ⟨by nlinarith, by omega⟩

/-- `r` is the root of `q`, rounded down or up. -/
def RootOf (q r : Nat) : Prop := (r * r ≤ q ∨ (r - 1) * (r - 1) ≤ q) ∧ q < (r + 1) * (r + 1)

theorem rootOf_isqrt {q : Nat} (h : q < 2 ^ 60) (up : Bool) :
    RootOf q (if up = true then isqrt 32 q + 1 else isqrt 32 q) := by
  obtain ⟨hlo, hhi⟩ := isqrt_spec 32 q (h.trans (by decide))
  split
  · exact ⟨.inr (by simpa using hlo), hhi.trans_le (Nat.mul_le_mul (Nat.le_succ _) (Nat.le_succ _))⟩
  · exact ⟨.inl hlo, hhi⟩

/-- What an iteration leaves of `p`, of which only step `k` changes anything. -/
theorem forFin_view {σ τ : Type} {n : Nat} {f : Fin n → σ → σ} (p : σ → τ) (k : Fin n) (h : ∀ i, i ≠ k → ∀ x, p (f i x) = p x)
    (x : σ) : ∃ y, p y = p x ∧ p (forFin n f x) = p (f k y) := by
  have hview : ∀ m, m ≤ n → ∃ y, p y = p x
      ∧ p (forN m (fun i s => if h : i < n then f ⟨i, h⟩ s else s) x) = if k.val < m then p (f k y) else p x := by
    intro m
    induction m with
    | zero => intro _; exact ⟨x, rfl, rfl⟩
    | succ m ih =>
      intro hm
      obtain ⟨y, hy, hm'⟩ := ih (Nat.le_of_succ_le hm)
      rw [forN, dif_pos (Nat.lt_of_succ_le hm)]
      by_cases e : m = k.val
      · subst e
        rw [if_neg (Nat.lt_irrefl _)] at hm'
        exact ⟨_, hm', by rw [if_pos (Nat.lt_succ_self _)]⟩
      · refine ⟨y, hy, ?_⟩
        rw [h ⟨m, hm⟩ (fun c => e (congrArg Fin.val c)), hm']
        exact if_congr (by omega) rfl rfl
  obtain ⟨y, hy, hn⟩ := hview n (Nat.le_refl n)
  exact ⟨y, hy, by rw [forFin, hn, if_pos k.isLt]⟩

namespace State

/-! ### The half-cycles of the phases (R352, R359) -/

/-- What the watch measures of phase `i`. -/
def phaseSums (s : State) (i : Fin 3) : Nat × Nat × Nat := (s.enp.sumsq[i], s.enp.count[i], s.enp.rms[i])

/-- `t` differs from `s` in the half-cycles' sums and currents only. -/
structure Summed (s t : State) : Prop where
  enp : ∃ q c r, t.enp = { s.enp with sumsq := q, count := c, rms := r }
  reg : ∀ r, r ≠ R.ENP_EXPST → t.reg r = s.reg r
  acq : t.acq = s.acq
  twn : t.twn = s.twn
  only : s.energyOnly t

theorem Summed.refl (s : State) : Summed s s := ⟨⟨_, _, _, rfl⟩, fun _ _ => rfl, rfl, rfl, .refl s⟩

theorem Summed.trans {s u t : State} (h : Summed s u) (h' : Summed u t) : Summed s t := by
  obtain ⟨q, c, r, he⟩ := h.enp
  obtain ⟨q', c', r', he'⟩ := h'.enp
  exact ⟨⟨q', c', r', by rw [he', he]⟩, fun r hr => (h'.reg r hr).trans (h.reg r hr), h'.acq.trans h.acq, h'.twn.trans h.twn,
    h.only.trans h'.only⟩

/-- The sums of a half-cycle that ends are cleared. -/
def sumsCleared (s : State) (k : Fin 3) : State :=
  s.modEnp fun e => { e with sumsq := e.sumsq.set k 0, count := e.count.set k 0 }

/-- The current of a half-cycle that ends, with L1's in `ENP_EXPST`. -/
def currentShown (s : State) (k : Fin 3) (r : Nat) : State :=
  let s := s.modEnp fun e => { e with rms := e.rms.set k r }
  if k = 0 then s.setFld R.ENP_EXPST F.ENP_EXPST_IOUT (min 65535 r) else s

theorem halfCycleEnd_eq (s : State) (k : Fin 3) : ∃ up : Bool, s.halfCycleEnd k =
    if s.enp.count[k] = 0 then s.sumsCleared k
    else (s.sumsCleared k).currentShown k
      (if up = true then isqrt 32 (s.enp.sumsq[k] / s.enp.count[k]) + 1 else isqrt 32 (s.enp.sumsq[k] / s.enp.count[k])) :=
  ⟨_, rfl⟩

theorem currentShown_enp (s : State) (k : Fin 3) (r : Nat) :
    (s.currentShown k r).enp = { s.enp with rms := s.enp.rms.set k r } := by
  unfold currentShown; dsimp only; split <;> rfl

theorem sumsCleared_summed (s : State) (k : Fin 3) : Summed s (s.sumsCleared k) :=
  ⟨⟨_, _, _, rfl⟩, fun _ _ => rfl, rfl, rfl, (energyOnly.refl s).modEnp _⟩

theorem currentShown_summed (s : State) (k : Fin 3) (r : Nat) : Summed s (s.currentShown k r) := by
  refine ⟨⟨_, _, _, currentShown_enp s k r⟩, fun q hq => ?_, ?_, ?_, ?_⟩ <;> unfold currentShown <;> dsimp only
  · split
    · exact reg_setReg_ne _ _ hq
    · rfl
  · split <;> rfl
  · split <;> rfl
  · exact .ite (((energyOnly.refl s).modEnp _).setFld _ _ (by decide)) ((energyOnly.refl s).modEnp _)

theorem halfCycleEnd_summed (s : State) (k : Fin 3) : Summed s (s.halfCycleEnd k) := by
  obtain ⟨up, he⟩ := halfCycleEnd_eq s k
  rw [he]
  split
  · exact sumsCleared_summed s k
  · exact (sumsCleared_summed s k).trans (currentShown_summed _ k _)

/-- A half-cycle of one phase leaves the others' sums. -/
theorem halfCycleEnd_sums_ne (s : State) {i k : Fin 3} (h : i ≠ k) : (s.halfCycleEnd i).phaseSums k = s.phaseSums k := by
  have hv : i.val ≠ k.val := fun e => h (Fin.ext e)
  have hclear : (s.sumsCleared i).phaseSums k = s.phaseSums k := by
    simp [phaseSums, sumsCleared, hv]
  obtain ⟨up, he⟩ := halfCycleEnd_eq s i
  rw [he]
  split
  · exact hclear
  · rw [← hclear]
    simp [phaseSums, currentShown_enp, hv]

/-- The sums of a phase whose half-cycle ends are cleared, and its current is the root of their mean. -/
theorem halfCycleEnd_sums_same (s : State) (k : Fin 3) : ∃ r, (s.halfCycleEnd k).phaseSums k = (0, 0, r)
    ∧ (0 < s.enp.count[k] → s.enp.sumsq[k] / s.enp.count[k] < 2 ^ 60 → RootOf (s.enp.sumsq[k] / s.enp.count[k]) r) := by
  obtain ⟨up, he⟩ := halfCycleEnd_eq s k
  rw [he]
  split
  next h => exact ⟨s.enp.rms[k], by simp [phaseSums, sumsCleared], fun h' => absurd h h'.ne'⟩
  next h => exact ⟨_, by simp [phaseSums, currentShown_enp, sumsCleared], fun _ hq => rootOf_isqrt hq up⟩

/-- The half-cycles that end, of the phases of `half`. -/
def halfCyclesEnd (s : State) (half : BitVec 3) : State :=
  forFin 3 (fun k s => if half.getLsbD k.val then s.halfCycleEnd k else s) s

theorem halfCyclesEnd_summed (s : State) (half : BitVec 3) : Summed s (s.halfCyclesEnd half) := by
  have hstep : ∀ (k : Fin 3) u, Summed s u → Summed s (if half.getLsbD k.val then u.halfCycleEnd k else u) := by
    intro k u hu
    split
    · exact hu.trans (halfCycleEnd_summed u k)
    · exact hu
  exact hstep 2 _ (hstep 1 _ (hstep 0 _ (.refl s)))

theorem halfCyclesEnd_sums (s : State) {half : BitVec 3} (k : Fin 3) (hk : half.getLsbD k.val = true) :
    ∃ r, (s.halfCyclesEnd half).phaseSums k = (0, 0, r)
      ∧ (0 < s.enp.count[k] → s.enp.sumsq[k] / s.enp.count[k] < 2 ^ 60 → RootOf (s.enp.sumsq[k] / s.enp.count[k]) r) := by
  obtain ⟨u, hu, hend⟩ := forFin_view (f := fun (k : Fin 3) (s : State) => if half.getLsbD k.val then s.halfCycleEnd k else s)
    (fun s => s.phaseSums k) k (fun i hi x => by split; exacts [halfCycleEnd_sums_ne x hi, rfl]) s
  obtain ⟨r, hr, hroot⟩ := halfCycleEnd_sums_same u k
  simp only [phaseSums, Prod.mk.injEq] at hu
  obtain ⟨hq, hc, -⟩ := hu
  rw [hq, hc] at hroot
  refine ⟨r, ?_, hroot⟩
  rw [halfCyclesEnd, hend, if_pos hk, hr]

/-! ### What mains shows (R341) -/

/-- Phase `i` is shown present. -/
def phasePres (s : State) (i : Fin 3) : Bool := (s.fld R.ENP_MAINSST F.ENP_MAINSST_PRES).testBit i.val

/-- Phase `i` is shown present after the half-cycles of `half` (R341). -/
def phaseThere (s : State) (half : BitVec 3) (v : Vector (BitVec 16) 3) (i : Fin 3) : Bool :=
  if half.getLsbD i.val then decide (s.fld R.ENP_MAINS F.ENP_MAINS_VMIN ≤ (v[i]).toNat) else s.phasePres i

/-- The half-cycles that phase `i` has missed in a row (R352). -/
def phaseMiss (s : State) (half : BitVec 3) (v : Vector (BitVec 16) 3) (i : Fin 3) : Nat :=
  if half.getLsbD i.val then (if decide (s.fld R.ENP_MAINS F.ENP_MAINS_VMIN ≤ (v[i]).toNat) then 0 else s.enp.miss[i] + 1)
  else s.enp.miss[i]

/-- The number of the bits of `f`. -/
def phaseMask (f : Fin 3 → Bool) : Nat := ((List.finRange 3).map fun i => 2 ^ i.val * Word.ofBool (f i)).sum

theorem phaseMask_eq (f : Fin 3 → Bool) :
    phaseMask f = Word.ofBool (f 0) + (2 * Word.ofBool (f 1) + 4 * Word.ofBool (f 2)) := by
  simp [phaseMask, List.finRange_succ]

theorem phaseMask_lt (f : Fin 3 → Bool) : phaseMask f < 8 := by
  have hsum : ∀ a b c : Bool, Word.ofBool a + (2 * Word.ofBool b + 4 * Word.ofBool c) < 8 := by decide
  rw [phaseMask_eq]
  exact hsum _ _ _

theorem phaseMask_testBit (f : Fin 3 → Bool) (i : Fin 3) : (phaseMask f).testBit i.val = f i := by
  have hbits : ∀ a b c : Bool, ∀ i : Fin 3,
      (Word.ofBool a + (2 * Word.ofBool b + 4 * Word.ofBool c)).testBit i.val = match i with | 0 => a | 1 => b | 2 => c := by
    decide
  rw [phaseMask_eq, hbits]
  match i with
  | 0 => rfl
  | 1 => rfl
  | 2 => rfl

theorem mainsPres_bit (s : State) (i : Fin 3) : s.mainsPres.getLsbD i.val = s.phasePres i := by
  rw [mainsPres, phasePres, BitVec.getLsbD_ofNat, decide_eq_true i.isLt, Bool.true_and]

/-- `t` differs from `s` in what mains shows only. -/
structure MainsShown (s t : State) (half : BitVec 3) (v : Vector (BitVec 16) 3) (vpp : BitVec 16) (freq : BitVec 12) : Prop where
  enp : ∃ m, t.enp = { s.enp with miss := m } ∧ ∀ i : Fin 3, m[i] = s.phaseMiss half v i
  reg : ∀ r, r ≠ R.ENP_MAINSST → r ≠ R.ENP_SRCST → t.reg r = s.reg r
  pres : ∀ i, t.phasePres i = s.phaseThere half v i
  freq : t.fld R.ENP_MAINSST F.ENP_MAINSST_FREQ = freq.toNat
  peak : t.fld R.ENP_MAINSST F.ENP_MAINSST_PEAK =
    if t.fld R.ENP_MAINSST F.ENP_MAINSST_PRES = 1 then (v[0]).toNat else vpp.toNat
  acq : t.acq = s.acq
  twn : t.twn = s.twn
  only : s.energyOnly t

/-- The sensing of mains as it is put into the registers. -/
def mainsPut (s : State) (m : Vector Nat 3) (pres freq peak n : Nat) : State :=
  ((s.modEnp fun e => { e with miss := m }).setReg R.ENP_MAINSST
    (Word.field 30 28 pres ||| Word.field 27 16 freq ||| Word.field 15 0 peak)).setFld R.ENP_SRCST F.ENP_SRCST_PH n

theorem mainsPut_mainsst (s : State) (m : Vector Nat 3) (pres freq peak n : Nat) : (s.mainsPut m pres freq peak n).reg R.ENP_MAINSST
    = Word.field 30 28 pres ||| Word.field 27 16 freq ||| Word.field 15 0 peak := by
  rw [mainsPut, reg_setFld, if_neg (by decide), reg_setReg_same]

theorem mainsPut_acq (s : State) (m : Vector Nat 3) (pres freq peak n : Nat) : (s.mainsPut m pres freq peak n).acq = s.acq := by
  rw [mainsPut, setFld_acq, setReg_acq, modEnp_acq]

theorem mainsPut_twn (s : State) (m : Vector Nat 3) (pres freq peak n : Nat) : (s.mainsPut m pres freq peak n).twn = s.twn := by
  rw [mainsPut, setFld_twn, setReg_twn, modEnp_twn]

theorem mainsShow_eq (s : State) (half : BitVec 3) (v : Vector (BitVec 16) 3) (vpp : BitVec 16) (freq : BitVec 12) : ∃ n,
    s.mainsShow half v vpp freq = s.mainsPut (Vector.ofFn (s.phaseMiss half v)) (phaseMask (s.phaseThere half v)) freq.toNat
      (if phaseMask (s.phaseThere half v) = 1 then (v[0]).toNat else vpp.toNat) n := by
  have hthere : s.phaseThere half v = fun i => if half.getLsbD i.val then decide (s.fld R.ENP_MAINS F.ENP_MAINS_VMIN ≤ (v[i]).toNat)
      else s.mainsPres.getLsbD i.val := funext fun i => by rw [mainsPres_bit]; rfl
  rw [hthere]
  exact ⟨_, rfl⟩

theorem mainsShow_shown (s : State) (half : BitVec 3) (v : Vector (BitVec 16) 3) (vpp : BitVec 16) (freq : BitVec 12) :
    MainsShown s (s.mainsShow half v vpp freq) half v vpp freq := by
  obtain ⟨n, he⟩ := mainsShow_eq s half v vpp freq
  rw [he]
  have hpres : (s.mainsPut (Vector.ofFn (s.phaseMiss half v)) (phaseMask (s.phaseThere half v)) freq.toNat
      (if phaseMask (s.phaseThere half v) = 1 then (v[0]).toNat else vpp.toNat) n).fld R.ENP_MAINSST F.ENP_MAINSST_PRES
        = phaseMask (s.phaseThere half v) := by
    rw [fld, mainsPut_mainsst]
    simp only [F.ENP_MAINSST_PRES, Word.bits_or]
    rw [Word.bits_field_same _ (by decide), Word.bits_field_ne _ (by decide), Word.bits_field_ne _ (by decide), Nat.or_zero,
      Nat.or_zero]
    exact Nat.mod_eq_of_lt (phaseMask_lt _)
  refine ⟨⟨_, rfl, fun i => by simp⟩, fun r h h' => ?_, fun i => ?_, ?_, ?_, mainsPut_acq _ _ _ _ _ _, mainsPut_twn _ _ _ _ _ _, ?_⟩
  · rw [mainsPut, reg_setFld, if_neg h', reg_setReg_ne _ _ h, modEnp_reg]
  · rw [phasePres, hpres, phaseMask_testBit]
  · rw [fld, mainsPut_mainsst]
    simp only [F.ENP_MAINSST_FREQ, Word.bits_or]
    rw [Word.bits_field_same _ (by decide), Word.bits_field_ne _ (by decide), Word.bits_field_ne _ (by decide), Nat.or_zero,
      Nat.zero_or]
    exact Nat.mod_eq_of_lt freq.isLt
  · rw [hpres, fld, mainsPut_mainsst]
    simp only [F.ENP_MAINSST_PEAK, Word.bits_or]
    rw [Word.bits_field_same _ (by decide), Word.bits_field_ne _ (by decide), Word.bits_field_ne _ (by decide), Nat.zero_or,
      Nat.zero_or]
    refine Nat.mod_eq_of_lt ?_
    split
    · exact (v[0]).isLt
    · exact vpp.isLt
  · exact (((energyOnly.refl s).modEnp _).setReg _ (by decide)).setFld _ _ (by decide)

end State
end Sys2Proof.Machine
end

section
/-!
PROOFS. What the 10 µs watch brings about (R348, R352, R354, R358): DETECT left, a lost phase, the link at its target.
-/

namespace Sys2Proof.Machine
namespace State

/-- A phase newly shown in the hinge is flagged (R354). -/
def mainsFlagged (u : State) (new : Bool) : State :=
  u.when (u.enpPhase = .hinge && new) fun s => s.raise R.ENP_STAT F.ENP_STAT_REPLUG

/-- A lost phase ends a start under way, or the hinge begins (R348, R352). -/
def mainsActs (s : State) : State :=
  if s.mainsLost && !s.enp.exporting then (if s.enpStarting then s.enpBack else s.sourceLoss 4) else s

/-- What the watch brings about once mains is shown. -/
def watchActs (u : State) (new : Bool) : State := (u.mainsFlagged new).enpDetect.mainsActs.linkCheck

theorem enpWatch_eq (s : State) (half : BitVec 3) (v : Vector (BitVec 16) 3) (vpp : BitVec 16) (freq : BitVec 12) :
    s.enpWatch half v vpp freq =
      let u := (s.mainsShow half v vpp freq).halfCyclesEnd half
      u.watchActs (u.mainsPres &&& ~~~s.mainsPres != 0) := by
  rfl

/-- A phase shown that was not shown before is new. -/
theorem mainsPres_new {s u : State} (h : ∃ i, u.phasePres i = true ∧ s.phasePres i = false) :
    (u.mainsPres &&& ~~~s.mainsPres != 0) = true := by
  obtain ⟨i, hi, hi'⟩ := h
  rw [← mainsPres_bit] at hi hi'
  rw [bne_iff_ne]
  intro hzero
  have hbit : (u.mainsPres &&& ~~~s.mainsPres).getLsbD i.val = true := by
    rw [BitVec.getLsbD_and, BitVec.getLsbD_not, hi, hi', decide_eq_true i.isLt]; rfl
  simp [hzero] at hbit

theorem mainsLost_iff (s : State) : s.mainsLost = true ↔ ∃ i : Fin 3, s.enp.used.getLsbD i.val = true ∧ 2 ≤ s.enp.miss[i] := by
  simp [mainsLost]

theorem firstPhase_mem (s : State) : s.firstPhase = .qualify ∨ s.firstPhase = .detect := by
  unfold firstPhase
  split
  · exact .inl rfl
  · exact .inr rfl

section Acts

variable {s u : State}

theorem Shows.mainsFlagged (h : Shows s u) (new : Bool) : Shows s (u.mainsFlagged new) := ite (h.raise _ rfl) h

theorem Shows.mainsActs (h : Shows s u) : Shows s u.mainsActs := ite (ite h.enpBack (h.sourceLoss 4)) h

theorem Shows.watchActs (h : Shows s u) (new : Bool) : Shows s (u.watchActs new) :=
  (h.mainsFlagged new).enpDetect.mainsActs.linkCheck

theorem linkCheck_of_ne (h : u.enp.phase ≠ .precharge) : u.linkCheck = u := by
  rw [linkCheck, if_pos (by simp [enpPhase, h])]

theorem mainsFlagged_of_ne (h : u.enp.phase ≠ .hinge) (new : Bool) : u.mainsFlagged new = u := by
  simp [mainsFlagged, enpPhase, h, when]

/-- No phase is watched for a loss before a start is under way, nor after a session. -/
theorem mainsActs_of_ne (h : u.enp.phase ∉ [.mains, .precharge, .close, .run, .busHold]) : u.mainsActs = u := by
  simp only [List.mem_cons, List.not_mem_nil, or_false, not_or] at h
  obtain ⟨hm, hp, hc, hr, hb⟩ := h
  simp [mainsActs, enpStarting, sourceLoss, enpPhase, hm, hp, hc, hr, hb]

theorem watchActs_detects (new : Bool) (h : u.enp.phase = .detect) :
    (u.watchActs new).enp.phase = (u.watchActs new).firstPhase := by
  have hph : u.enpDetect.enp.phase = u.firstPhase := by rw [enpDetect_enp h]
  have hall : u.watchActs new = u.enpDetect := by
    rw [watchActs, mainsFlagged_of_ne (by rw [h]; decide)]
    rcases u.firstPhase_mem with hf | hf <;> rw [hf] at hph
    · rw [mainsActs_of_ne (by rw [hph]; decide), linkCheck_of_ne (by rw [hph]; decide)]
    · rw [mainsActs_of_ne (by rw [hph]; decide), linkCheck_of_ne (by rw [hph]; decide)]
  rw [hall]
  exact enpDetect_first h

theorem watchActs_replug (h : u.enp.phase = .hinge) : (u.watchActs true).bit R.ENP_STAT F.ENP_STAT_REPLUG = true := by
  refine ((Shows.refl _).enpDetect.mainsActs.linkCheck).flags _ ?_
  simp only [mainsFlagged, enpPhase, h, when, decide_true, Bool.and_true, if_true]
  exact bit_raise_same u R.ENP_STAT F.ENP_STAT_REPLUG rfl (by decide)

/-- In a start under way, or when energised, neither flag nor DETECT is judged. -/
theorem watchActs_started (new : Bool) (h : u.enp.phase ≠ .hinge) (h' : u.enp.phase ≠ .detect) :
    u.watchActs new = u.mainsActs.linkCheck := by
  rw [watchActs, mainsFlagged_of_ne h, enpDetect_of_ne h']

theorem watchActs_loses (new : Bool) (hl : u.mainsLost = true) (hx : u.enp.exporting = false)
    (h : u.enp.phase ∈ [.precharge, .close] ∨ (u.enp.phase = .mains ∧ u.enp.asked = true)) : (u.watchActs new).steppedBack := by
  have hstart : u.enpStarting = true ∧ u.enp.phase ≠ .hinge ∧ u.enp.phase ≠ .detect := by
    simp only [List.mem_cons, List.not_mem_nil, or_false] at h
    rcases h with (h | h) | ⟨h, ha⟩
    · simp [enpStarting, enpPhase, h]
    · simp [enpStarting, enpPhase, h]
    · simp [enpStarting, enpPhase, h, ha]
  obtain ⟨hs, hh, hd⟩ := hstart
  have hback : u.mainsActs = u.enpBack := by simp [mainsActs, hl, hx, hs]
  have hph : u.enpBack.enp.phase ≠ .precharge := by
    have hfirst : u.enpBack.enp.phase = u.firstPhase := by rw [enpBack_enp, hx]; rfl
    rcases u.firstPhase_mem with hf | hf
    · rw [hfirst, hf]; decide
    · rw [hfirst, hf]; decide
  rw [watchActs_started new hh hd, hback, linkCheck_of_ne hph]
  exact enpBack_steppedBack u

theorem watchActs_hinges (new : Bool) (hl : u.mainsLost = true) (hx : u.enp.exporting = false)
    (h : u.enp.phase ∈ [.run, .busHold]) : (u.watchActs new).hinged 4 .timeout .holdOff := by
  have hrun : u.enpStarting = false ∧ u.enp.phase ≠ .hinge ∧ u.enp.phase ≠ .detect := by
    simp only [List.mem_cons, List.not_mem_nil, or_false] at h
    rcases h with h | h <;> simp [enpStarting, enpPhase, h]
  obtain ⟨hs, hh, hd⟩ := hrun
  have hloss : u.mainsActs = u.sourceLoss 4 := by simp [mainsActs, hl, hx, hs]
  have hhinge := sourceLoss_hinged 4 (by decide) h
  have hph : (u.sourceLoss 4).enp.phase ≠ .precharge := by
    obtain ⟨-, -, -, -, -, -, ⟨hp, -⟩ | ⟨hp, -⟩⟩ := hhinge
    · rw [hp]; decide
    · rw [hp]; decide
  rw [watchActs_started new hh hd, hloss, linkCheck_of_ne hph]
  exact hhinge

/-- In PRECHARGE with mains there, or while exporting, the link alone is judged. -/
theorem watchActs_precharge (new : Bool) (h : u.enp.phase = .precharge) (hl : u.mainsLost = false ∨ u.enp.exporting = true) :
    u.watchActs new = u.linkCheck := by
  have hkeep : u.mainsActs = u := by rcases hl with hl | hl <;> simp [mainsActs, hl]
  rw [watchActs_started new (by rw [h]; decide) (by rw [h]; decide), hkeep]

/-- The link's voltage and its target (R348), in their comparison's common scale. -/
def linkReached (s : State) : Prop :=
  98 * (s.fld R.ENP_MAINSST F.ENP_MAINSST_PEAK * s.fld R.ENP_LINK F.ENP_LINK_PREK / 256) * 256
    ≤ 100 * s.latchedOf (s.fld R.ENP_LINK F.ENP_LINK_LCH) * s.fld R.ENP_LGAIN F.ENP_LGAIN_GAIN

theorem linkCheck_reached (h : u.enp.phase = .precharge) (hp : u.enp.pause = false) (hl : u.linkReached) :
    u.linkCheck.enp.phase = .close ∧ u.linkCheck.enp.relay = true
      ∧ (u.enp.exporting = true → ∀ k, k = u.enpTb false → (u.linkCheck.wfu.tb[k]).running = true) := by
  have hcheck : u.linkCheck = ((if u.enp.exporting then u.enpStartTb false else u).enpRelay true).setEnp .close := by
    rw [linkCheck, if_neg (by simp [enpPhase, h, hp])]
    exact if_pos hl
  rw [hcheck]
  refine ⟨by rw [setEnp_enp], by rw [setEnp_enp]; rfl, fun hx k hk => ?_⟩
  subst hk
  rw [if_pos hx, setEnp, fireIf_wfu]
  exact (enpStartTb_spares u false).2.2

theorem linkCheck_short (hl : ¬ u.linkReached) : u.linkCheck = u := by
  unfold linkCheck
  split
  · rfl
  · exact if_neg hl

theorem energyOnly.linkCheck (h : s.energyOnly u) (hx : u.enp.exporting = false) : s.energyOnly u.linkCheck := by
  unfold State.linkCheck
  rw [hx]
  exact ite h (ite ((h.enpRelay true).setEnp _) h)

theorem energyOnly.watchActs (h : s.energyOnly u) (new : Bool) (hx : u.enp.exporting = false) : s.energyOnly (u.watchActs new) := by
  have hx' := ((Shows.refl u).mainsFlagged new).enpDetect.mainsActs.vehicle hx
  have hf : s.energyOnly (u.mainsFlagged new) := ite (h.raise _ (by decide)) h
  exact energyOnly.linkCheck (ite (ite hf.enpDetect.enpBack (hf.enpDetect.sourceLoss 4)) hf.enpDetect) hx'

end Acts

/-! ### The state that the watch judges -/

theorem latchedOf_of_inputs {s t : State} (ha : t.acq = s.acq) (ht : t.twn = s.twn) (n : Nat) : t.latchedOf n = s.latchedOf n := by
  unfold latchedOf agreedOf
  rw [ha, ht]

/-- `u` differs from `s` in what mains shows and in the half-cycles that ended. -/
structure Watched (s u : State) (half : BitVec 3) (v : Vector (BitVec 16) 3) (vpp : BitVec 16) (freq : BitVec 12) : Prop where
  enp : u.enp = { s.enp with miss := u.enp.miss, sumsq := u.enp.sumsq, count := u.enp.count, rms := u.enp.rms }
  miss : ∀ i : Fin 3, u.enp.miss[i] = s.phaseMiss half v i
  sums : ∀ k : Fin 3, half.getLsbD k.val = true → ∃ r, u.phaseSums k = (0, 0, r)
    ∧ (0 < s.enp.count[k] → s.enp.sumsq[k] / s.enp.count[k] < 2 ^ 60 → RootOf (s.enp.sumsq[k] / s.enp.count[k]) r)
  reg : ∀ r, r ∉ [R.ENP_MAINSST, R.ENP_SRCST, R.ENP_EXPST] → u.reg r = s.reg r
  pres : ∀ i, u.phasePres i = s.phaseThere half v i
  freq : u.fld R.ENP_MAINSST F.ENP_MAINSST_FREQ = freq.toNat
  peak : u.fld R.ENP_MAINSST F.ENP_MAINSST_PEAK =
    if u.fld R.ENP_MAINSST F.ENP_MAINSST_PRES = 1 then (v[0]).toNat else vpp.toNat
  latched : ∀ n, u.latchedOf n = s.latchedOf n
  only : s.energyOnly u

theorem watched (s : State) (half : BitVec 3) (v : Vector (BitVec 16) 3) (vpp : BitVec 16) (freq : BitVec 12) :
    Watched s ((s.mainsShow half v vpp freq).halfCyclesEnd half) half v vpp freq := by
  have hm := mainsShow_shown s half v vpp freq
  revert hm
  generalize s.mainsShow half v vpp freq = w
  intro hm
  have hs := halfCyclesEnd_summed w half
  have hsum := fun k => halfCyclesEnd_sums w (half := half) k
  revert hs hsum
  generalize w.halfCyclesEnd half = u
  intro hs hsum
  obtain ⟨m, hme, hmiss⟩ := hm.enp
  obtain ⟨q, c, r, hse⟩ := hs.enp
  have hst : u.reg R.ENP_MAINSST = w.reg R.ENP_MAINSST := hs.reg _ (by decide)
  rw [hme] at hse hsum
  exact
    { enp := by rw [hse]
      miss := fun i => by rw [hse]; exact hmiss i
      sums := hsum
      reg := fun r hr => by
        simp only [List.mem_cons, List.not_mem_nil, or_false, not_or] at hr
        obtain ⟨hmains, hsrc, hexp⟩ := hr
        exact (hs.reg r hexp).trans (hm.reg r hmains hsrc)
      pres := fun i => by rw [phasePres, fld, hst]; exact hm.pres i
      freq := by rw [fld, hst]; exact hm.freq
      peak := by simp only [fld, hst]; exact hm.peak
      latched := latchedOf_of_inputs (hs.acq.trans hm.acq) (hs.twn.trans hm.twn)
      only := hm.only.trans hs.only }

/-- The watch shows mains and the half-cycles, then does what they bring about. -/
theorem enpWatch_watched (s : State) (half : BitVec 3) (v : Vector (BitVec 16) 3) (vpp : BitVec 16) (freq : BitVec 12) :
    ∃ u new, Watched s u half v vpp freq ∧ ((∃ i, u.phasePres i = true ∧ s.phasePres i = false) → new = true)
      ∧ s.enpWatch half v vpp freq = u.watchActs new :=
  ⟨_, _, watched s half v vpp freq, mainsPres_new, enpWatch_eq s half v vpp freq⟩

/-- A phase in use is lost (R352), as the watch sees it. -/
theorem Watched.lost {s u : State} {half : BitVec 3} {v : Vector (BitVec 16) 3} {vpp : BitVec 16} {freq : BitVec 12}
    (h : Watched s u half v vpp freq) :
    u.mainsLost = true ↔ ∃ i : Fin 3, s.enp.used.getLsbD i.val = true ∧ 2 ≤ s.phaseMiss half v i := by
  have hused : u.enp.used = s.enp.used := by rw [h.enp]
  simp only [mainsLost_iff, hused, h.miss]

theorem Watched.linkReached_iff {s u : State} {half : BitVec 3} {v : Vector (BitVec 16) 3} {vpp : BitVec 16} {freq : BitVec 12}
    (h : Watched s u half v vpp freq) : u.linkReached ↔
      98 * (u.fld R.ENP_MAINSST F.ENP_MAINSST_PEAK * s.fld R.ENP_LINK F.ENP_LINK_PREK / 256) * 256
        ≤ 100 * s.latchedOf (s.fld R.ENP_LINK F.ENP_LINK_LCH) * s.fld R.ENP_LGAIN F.ENP_LGAIN_GAIN := by
  have hlink (f : Fld) : u.fld R.ENP_LINK f = s.fld R.ENP_LINK f := by rw [fld, h.reg _ (by decide)]; rfl
  have hgain : u.fld R.ENP_LGAIN F.ENP_LGAIN_GAIN = s.fld R.ENP_LGAIN F.ENP_LGAIN_GAIN := by rw [fld, h.reg _ (by decide)]; rfl
  rw [linkReached, hlink, hlink, hgain, h.latched]

end State
end Sys2Proof.Machine
end

section
/-!
PROOFS. O42: pilot, proximity and the watch, each from what it shows and what that brings about.
-/

namespace Sys2Proof.Machine
open State

/-- Settles O42: each of the three instructions first shows what it has sensed, which later operations leave (`State.Shows`), and
then acts by the session's state; a start step lost, a hinge begun and a link at its target are those of `enpBack_steppedBack`,
`hingeStart_hinged` and `linkCheck_reached`. -/
theorem energyPathWatches : Obligations.EnergyPathWatches := by
  unfold Obligations.EnergyPathWatches
  intro s on ph first
  refine ⟨fun hz duty up low => ⟨_, rfl, whenEnp_off _, fun hon => ?_⟩, fun res => ⟨_, rfl, whenEnp_off _, fun hon => ?_⟩,
    fun half v vpp freq => ⟨_, rfl, whenEnp_off _, fun hon => ?_⟩⟩
  · rw [whenEnp_on _ hon]
    obtain ⟨p, hp, hs, hexp, hveh⟩ := pilotChange_shown s hz.toNat duty.isLt up.toInt low.toInt
    revert hs hexp hveh
    generalize s.pilotChange hz.toNat duty.toNat up.toInt low.toInt = t
    intro hs hexp hveh
    have hpl := (hs.fld F.ENP_SRCST_PL (r := R.ENP_SRCST) (by decide) (by decide)).trans hp.pl
    have hpwm := (hs.bit F.ENP_SRCST_PWM (r := R.ENP_SRCST) (by decide) (by decide)).trans hp.pwm
    have hps := (hs.fld F.ENP_SRCST_PSTATE (r := R.ENP_SRCST) (by decide) (by decide)).trans hp.pstate
    have hduty := (hs.fld F.ENP_PLTST_DUTY (r := R.ENP_PLTST) (by decide) (by decide)).trans hp.duty
    dsimp only
    rw [hpwm, hps, hpl, hduty]
    have hzero : hz = 0 ↔ hz.toNat = 0 := BitVec.toNat_inj.symm
    rw [hzero]
    refine ⟨rfl, pilotState_pwm _ _ _, fun h => ?_, fun h => ?_, rfl, fun hx => ?_, fun hx htool => ?_⟩
    · exact pilotState_bands h
    · exact pilotState_invalid (h.imp_right fun h => ⟨h.1, mt hzero.mpr h.2⟩)
    · obtain ⟨henp, hfit, honly, hflag, hdig⟩ := pilotShown_vehicle hp hx
      have ht := hveh hx
      revert henp hfit honly hflag hdig ht
      generalize p.pilotLimited _ = q
      intro henp hfit honly hflag hdig ht
      have hqt : Shows q t := by rw [ht]; exact (Shows.refl q).vehiclePilot _ _ _ _
      have hph : q.enp.phase = ph := by rw [henp]
      have hxq : q.enp.exporting = false := by rw [henp]; exact hx
      have hlim := hqt.pilot hxq hfit
      rw [PilotFits, hpwm, hduty] at hlim
      refine ⟨?_, fun h h1 h2 => hqt.flags _ (hdig h h1 h2), fun h => ?_, fun h hc => ?_, fun h hl => ?_, fun h ha hc => ?_,
        fun h hl => ?_, fun h hl h1 h2 => ?_, fun h hl => ?_, fun h => ?_, fun h hl => ?_, ?_⟩
      · rw [hlim]; exact pilotLimit_eq _ _
      · rw [ht]; exact vehiclePilot_detects _ _ _ _ (hph.trans h)
      · rw [ht]; exact vehiclePilot_requalifies _ _ _ _ (hph.trans h) hc
      · rw [ht]; exact vehiclePilot_loses _ _ _ _ (hph ▸ h) hl
      · rw [ht]; exact vehiclePilot_turns _ _ _ _ (hph.trans h) (by rw [henp]; exact ha) hc
      · rw [ht]; exact vehiclePilot_hinges _ _ _ _ (hph ▸ h) hl
      · rw [ht, vehiclePilot_hinge _ _ _ _ (hph.trans h), if_neg (by tauto)]
        exact bit_raise_same _ _ _ rfl (by decide)
      · rw [ht, vehiclePilot_hinge _ _ _ _ (hph.trans h), if_pos hl]; exact hflag
      · rw [ht, vehiclePilot_hinge _ _ _ _ (hph.trans h)]
        split
        · exact henp
        · exact henp
      · rw [ht, vehiclePilot_stays _ _ _ _ (by rw [henp]; exact h) hl]; exact henp
      · rw [ht]; exact honly.vehiclePilot _ _ _ _
    · have htool' : p.bit R.ENP_CFG F.ENP_CFG_EXTOOL = false := by
        rw [bit, hp.reg _ (by decide) (by decide)]; exact htool
      have hen : p.bit R.ENP_SBCFG F.ENP_SBCFG_EN = s.bit R.ENP_SBCFG F.ENP_SBCFG_EN := by
        rw [bit, hp.reg _ (by decide) (by decide)]; rfl
      have hquiet : p.quiet = s.quiet := quiet_of_reg (hp.reg _ (by decide) (by decide))
      have hph : p.enp.phase = ph := by rw [hp.enp]
      have hxp : p.enp.exporting = true := by rw [hp.enp]; exact hx
      have ht := hexp hx
      have hwait (h : ph = .expWait) := ht.trans (exportPilot_waits _ _ htool' (hph.trans h))
      have hback (h : ph ∈ [.precharge, .close]) (hb) := ht.trans (exportPilot_starting _ _ htool' (hph ▸ h) hb)
      clear hs hpl hpwm hps hduty hveh hexp
      revert ht hwait hback
      generalize (pilotState hz.toNat up.toInt low.toInt).1 = ps
      intro ht hwait hback
      refine ⟨fun h hb => ?_, fun h hc hs2 => ?_, fun h hc hs2 ha hq he => ?_, fun h hd => ?_, fun h hl => ?_, fun h hb => ?_,
        fun h => ?_, fun h hb => ?_, fun h hl => ?_⟩
      · rw [hwait h, exportWait_enp (by omega), hp.enp, if_pos hb]; exact ⟨h, rfl, rfl⟩
      · rw [hwait h, hc, exportWait_stateC, if_neg (by rw [hp.enp]; exact hs2)]; exact hp.enp
      · rw [hwait h, hc, exportWait_stateC, if_pos (by rw [hp.enp]; exact hs2)]
        exact exportStart_granted (by rw [hp.enp]; exact ha) (hquiet.trans hq) (hen.trans he)
      · rw [hwait h, exportWait_enp (by omega), hd, hp.enp]; exact ⟨rfl, exportWait_vent p⟩
      · rw [hwait h, exportWait_enp (by omega), if_neg (by omega), if_neg (by omega), hp.enp]
      · rw [hback h hb]
        obtain ⟨hst, hpi⟩ := exportWait_enpBack hxp hb
        exact ⟨hst, by rw [hpi, hp.enp], by rintro rfl; exact exportWait_vent _⟩
      · rw [ht, exportPilot_replug _ _ htool' (hph.trans h), bit, hp.reg _ (by decide) (by decide)]; rfl
      · rw [ht, hb]; exact exportPilot_ends _ htool' (hph.trans h)
      · rw [ht]; exact exportPilot_loses _ htool' (hph.trans h) hl
  · rw [whenEnp_on _ hon]
    obtain ⟨p, hp, ht⟩ := proximity_shown s res.isLt
    have hconn := proxClass_conn res.toNat
    have hpx := proxClass_px res.toNat
    have hcab := hp.cable.trans (proxClass_cable res.toNat)
    revert ht hp hconn hpx
    generalize (decide (1 ≤ (proxClass res.toNat).1) && decide ((proxClass res.toNat).1 ≤ 4)) = conn
    generalize (proxClass res.toNat).1 = px
    generalize s.proximity res.toNat = t
    intro hp ht hconn hpx
    have hs : Shows p t := by rw [ht]; exact (Shows.refl p).proximityActs _ _ _ _
    have hph : p.enp.phase = ph := by rw [hp.enp]
    have htpx := (hs.fld F.ENP_SRCST_PX (r := R.ENP_SRCST) (by decide) (by decide)).trans hp.px
    have htconn : t.enpConn = conn := (hs.bit F.ENP_SRCST_CONN (r := R.ENP_SRCST) (by decide) (by decide)).trans hp.conn
    dsimp only
    rw [htconn, htpx]
    refine ⟨(hs.fld F.ENP_PROX_RES (r := R.ENP_PROX) (by decide) (by decide)).trans hp.res, hconn, hpx, hs.cable.trans hcab,
      fun h => ?_, fun h hc => ?_, fun h hn => ?_, fun h ha hc => ?_, fun h => ⟨?_, fun hc hw => ?_, fun hn => ?_⟩, fun h => ?_, ?_⟩
    · rw [ht]; exact proximityActs_detects _ _ _ _ (hph.trans h)
    · rw [ht]; exact proximityActs_requalifies _ _ _ _ (hph.trans h) hc
    · obtain rfl : conn = false := by simpa using mt hconn.mp hn
      rw [ht]; exact proximityActs_loses _ _ _ (by rw [hp.enp]; exact h)
    · rw [ht]; exact proximityActs_turns _ _ _ _ (hph.trans h) (by rw [hp.enp]; exact ha) hc
    · rw [ht, proximityActs_hinge _ _ _ _ (hph.trans h)]
      split
      · exact hp.enp
      · exact hp.enp
    · rw [ht, proximityActs_hinge _ _ _ _ (hph.trans h), if_pos ⟨hconn.mpr hc, hw⟩]
      exact bit_raise_same _ _ _ rfl (by decide)
    · rw [ht, proximityActs_hinge _ _ _ _ (hph.trans h), if_neg, bit, hp.stat]
      · rfl
      · rintro ⟨hc, hw⟩
        rcases hn with hn | hn
        · exact hn (hconn.mp hc)
        · rw [hw] at hn; cases hn
    · rw [ht, proximityActs_stays _ _ _ _ (hph ▸ h)]; exact hp.enp
    · rw [ht]; exact hp.only.proximityActs _ _ _ _
  · rw [whenEnp_on _ hon]
    obtain ⟨u, new, hu, hnew, ht⟩ := enpWatch_watched s half v vpp freq
    rw [ht]
    have hs : Shows u (u.watchActs new) := (Shows.refl u).watchActs new
    have hmains : (u.watchActs new).reg R.ENP_MAINSST = u.reg R.ENP_MAINSST := hs.reg _ (by decide) (by decide)
    have hph : u.enp.phase = ph := by rw [hu.enp]
    have hxu : u.enp.exporting = s.enp.exporting := by rw [hu.enp]
    have hpres (i : Fin 3) : (u.watchActs new).phasePres i = u.phasePres i := by rw [phasePres, fld, hmains]; rfl
    refine ⟨fun i => ⟨?_, (hpres i).trans (hu.pres i), fun hi => ?_⟩, ?_, ?_, fun h => ?_, fun h hi => ?_, fun hl hx h => ?_,
      fun hl hx h => ?_, fun hl h hp => ?_, fun hx => ?_⟩
    · rw [hs.miss]; exact hu.miss i
    · obtain ⟨r, hr, hroot⟩ := hu.sums i hi
      simp only [phaseSums, Prod.mk.injEq] at hr
      obtain ⟨hq, hc, hr⟩ := hr
      rw [hs.sumsq, hs.count, hs.rms, hr]
      exact ⟨hq, hc, hroot⟩
    · rw [fld, hmains]; exact hu.freq
    · simp only [fld, hmains]; exact hu.peak
    · exact watchActs_detects new (hph.trans h)
    · obtain ⟨i, hi, hi'⟩ := hi
      rw [hnew ⟨i, (hpres i).symm.trans hi, hi'⟩]
      exact watchActs_replug (hph.trans h)
    · exact watchActs_loses new (hu.lost.mpr hl) (hxu.trans hx) (by rw [hu.enp]; exact h)
    · exact watchActs_hinges new (hu.lost.mpr hl) (hxu.trans hx) (hph ▸ h)
    · have hkeep := watchActs_precharge new (hph.trans h) (hl.imp (fun hl => by simpa using mt hu.lost.mp hl) hxu.trans)
      have hpeak : (u.watchActs new).fld R.ENP_MAINSST F.ENP_MAINSST_PEAK = u.fld R.ENP_MAINSST F.ENP_MAINSST_PEAK := by
        rw [fld, hmains]; rfl
      dsimp only
      rw [hpeak, hkeep]
      by_cases hr : u.linkReached
      · rw [if_pos (hu.linkReached_iff.mp hr)]
        obtain ⟨hclose, hrelay, hrun⟩ := linkCheck_reached (hph.trans h) (by rw [hu.enp]; exact hp) hr
        exact ⟨hclose, hrelay, fun hx => hrun (hxu.trans hx) _ (enpTb_of_reg (hu.reg R.ENP_TB (by decide)) false).symm⟩
      · rw [if_neg (mt hu.linkReached_iff.mpr hr), linkCheck_short hr]
        exact hph.trans h
    · exact hu.only.watchActs new (hxu.trans hx)
end Sys2Proof.Machine
end
